-- ==== Sys2Proof/Word.lean ====
section
/-! DEFINITION. The machine words of the LM-730: the byte of the riser, of the crew ports and of the plan
store, and the texts made of bytes (spec 00_scope.md, 0.7 Conventions). -/

namespace Sys2Proof

/-- One byte as it stands on the riser, on a crew port or in the plan store. -/
abbrev Byte := BitVec 8

/-- A two-byte field: a change number, a revision, a tile number, a check sequence. -/
abbrev Half := BitVec 16

/-- A text: its characters, first character first (0.7, Text). -/
abbrev Text := List Byte

end Sys2Proof
end

