-- ==== Sys2Proof/Syntax.lean ====
section
/-! DEFINITION. The commands of the LM-730: one constructor of `Instr` for each row of spec/opcode_table.json,
in the order of the table, with the operands the chapters give the event. -/

namespace Sys2Proof

/-- The two crew ports (chapter 8). -/
inductive Port where
  | a
  | b
  deriving DecidableEq, Repr, Inhabited

/-- The two kind codes of a ZONE STATE frame (5.2): 0x31 of class ALARM, 0x32 of class ROUTINE. -/
inductive ReportClass where
  | alarm
  | routine
  deriving DecidableEq, Repr, Inhabited

/-- One byte as the riser's receiver takes it: its eight data bits, and whether its stop bit was found
dominant (R76). -/
structure LineByte where
  value : Byte
  framingError : Bool
  deriving DecidableEq, Repr, Inhabited

/-- The commands: every row of spec/opcode_table.json.

Frames carry origin, destination and payload as they stood on the line (5.2). A crew request carries the fields of
its body (8.2); a request whose body is text, a list or of unknown kind carries the body's bytes. -/
inductive Instr where
  /-- RESET (R179): the straps as read at time 0 are the operands (R180). -/
  | reset (address : BitVec 6) (maintenance : Bool)
  | headerReadDone
  | slotReadDone
  | startupReadTimeout
  /-- SAMPLE (R2): the converter's sample of each line, line 0 first. -/
  | sample (values : Vector (BitVec 10) 16)
  /-- CONFIRM_TIMER_EXPIRY (R10): the line and the sample that joins its history at that evaluation. -/
  | confirmTimerExpiry (line : Fin 16) (value : BitVec 10)
  | troubleTimerExpiry (line : Fin 16) (value : BitVec 10)
  | restoreTimerExpiry (line : Fin 16) (value : BitVec 10)
  | normalHoldTimerExpiry (line : Fin 16) (value : BitVec 10)
  | decayTimerExpiry (line : Fin 16) (value : BitVec 10)
  | joinListenEnd
  | idleDetection
  | idleRound
  /-- START_MOMENT (R80, R81): the moment, in µs after the beginning of the idle round. -/
  | startMoment (offset : Nat)
  | transmissionComplete
  | attemptAbandoned
  | burstContinuation
  | dominantSensed
  | yieldMark
  | transmitGuardCut
  | duplicateHoldExpiry
  | babbleClear
  | lineClear
  | duplicateCountDecay
  | babbleCountDecay
  | refreshTimerExpiry
  | directoryTimerExpiry
  /-- RECEIVE_FAILURE (R93): the bytes the receiver took, up to its discard. -/
  | receiveFailure (bytes : List LineByte)
  | zoneState (cls : ReportClass) (origin dest : Byte) (payload : List Byte)
  | directory (origin dest : Byte) (payload : List Byte)
  | sheetRequest (origin dest : Byte) (payload : List Byte)
  | sheetRefuse (origin dest : Byte) (payload : List Byte)
  | sheetCancel (origin dest : Byte) (payload : List Byte)
  | sheetTile (origin dest : Byte) (payload : List Byte)
  | markAck (origin dest : Byte) (payload : List Byte)
  | markAttendOn (origin dest : Byte) (payload : List Byte)
  | markAttendOff (origin dest : Byte) (payload : List Byte)
  | silenceTimerExpiry (peer : BitVec 6)
  | tileReadEnd
  | tileReadTimeout
  | storeWrite (port : Port) (offset : BitVec 32) (data : List Byte)
  | storeErase (port : Port) (block : Half)
  | storeCheck (port : Port)
  | storeWriteDone
  | storeWriteTimeout
  | storeEraseDone
  | storeEraseTimeout
  | storeCheckReadDone
  | storeCheckReadTimeout
  | sheet (port : Port) (floor kind : Byte) (first last revision : Half)
  | queueFullRetry (channel : Fin 6)
  | responseTimerExpiry (channel : Fin 6)
  | busyRetry (channel : Fin 6)
  | gapTimerExpiry (channel : Fin 6)
  | cancel (port : Port) (channel : Byte)
  /-- BREAK (R145). -/
  | breakDetected (port : Port)
  /-- CREW_MESSAGE_RECEIVED (R148): kind, body and the check field as received. -/
  | crewMessageReceived (port : Port) (kind : Byte) (body : List Byte) (check : Half)
  | receiveStall (port : Port)
  | unknown (port : Port) (kind : Byte) (body : List Byte)
  | attach (port : Port) (body : List Byte)
  | detach (port : Port)
  | picture (port : Port) (first last : Byte)
  | floor (port : Port) (floor : Byte) (start : Half)
  | watch (port : Port) (floors : List Byte)
  | ack (port : Port) (station line : Byte) (change : Half)
  | attendOn (port : Port) (floor : Byte)
  | attendOff (port : Port) (floor : Byte)
  | peek (port : Port)
  | finish (port : Port) (level : Byte)
  | mask (port : Port) (bits : Byte)
  | streamOn (port : Port) (period : Byte)
  | streamOff (port : Port) (period : Byte)
  | streamPassStart (port : Port)
  | status (port : Port) (clear : Byte)
  | messageEnd (port : Port)
  | resetAsserted
  | lineActivity
  | lineReturnedHigh (port : Port)
  | crewByteFramingError (port : Port)
  | crewLengthFieldFault (port : Port) (length : Half)
  deriving DecidableEq, Repr

end Sys2Proof
end

