-- ==== Sys2Proof/Machine/Bytes.lean ====
section
/-! DEFINITION. Bytes and fields: the byte order, the padded texts and the check sequence of 00_scope.md, 0.7, and
the limits of the manual's counts. -/

namespace Sys2Proof.Machine

open Sys2Proof

/-- The byte that carries the number `n`, modulo 256. -/
def byte (n : Nat) : Byte := BitVec.ofNat 8 n

/-- A two-byte field, most significant byte first (0.7, Byte order). -/
def be16 (n : Nat) : List Byte := [byte (n / 256), byte n]

/-- A four-byte field, most significant byte first. -/
def be32 (n : Nat) : List Byte := be16 (n / 65536) ++ be16 n

/-- The byte at offset `i` of a layout. -/
def byteAt (l : List Byte) (i : Nat) : Nat := (l.getD i 0).toNat

/-- The two-byte field at offset `i` of a layout. -/
def halfAt (l : List Byte) (i : Nat) : Nat := byteAt l i * 256 + byteAt l (i + 1)

/-- The four-byte field at offset `i` of a layout. -/
def wordAt (l : List Byte) (i : Nat) : Nat := halfAt l i * 65536 + halfAt l (i + 2)

/-- The `n` bytes of a layout from offset `i`. -/
def slice (l : List Byte) (i n : Nat) : List Byte := (l.drop i).take n

/-- The space that pads a text (0.7, Text). -/
def space : Byte := 0x20

/-- A text of exactly `n` characters: cut, or padded with 0x20 at its end (0.7, Text). -/
def padTo (n : Nat) (t : Text) : Text := (t ++ List.replicate n space).take n

/-- A text without its trailing 0x20 characters (R32, R67, R152). -/
def trimText (t : Text) : Text := (t.reverse.dropWhile (fun c => c == space)).reverse

/-- A printable character (0.7, Text). -/
def printable (c : Byte) : Bool := decide (0x20 ≤ c.toNat) && decide (c.toNat ≤ 0x7E)

/-- Every character is printable. -/
def allPrintable (t : Text) : Bool := t.all printable

/-- One bit of the check sequence: polynomial 0x1021, most significant bit first (0.7, Check sequence). -/
def crcBit (r : Half) : Half := if r.msb then (r <<< 1) ^^^ 0x1021#16 else r <<< 1

/-- One byte of the check sequence. -/
def crcByte (r : Half) (b : Byte) : Half :=
  crcBit (crcBit (crcBit (crcBit (crcBit (crcBit (crcBit (crcBit (r ^^^ (b.setWidth 16 <<< 8)))))))))

/-- The CRC-16 of a run of bytes: initial value 0xFFFF, nothing reflected or inverted (0.7, Check sequence). -/
def crc16 (l : List Byte) : Half := l.foldl crcByte 0xFFFF#16

/-- The next value of a count that saturates at `limit` (0.7, Quantities). -/
def satNext (limit n : Nat) : Nat := min limit (n + 1)

/-- A value held at `limit` at most. -/
def satAt (limit n : Nat) : Nat := min limit n

/-- The next value of a count of 16 bits that wraps (0.7, Quantities). -/
def wrapNext (n : Nat) : Nat := (n + 1) % 65536

/-- The next value of one of the 0–65535 saturating counters (R63, R96, R143 and the single counts). -/
def countUp (n : Nat) : Nat := satNext 65535 n

/-- One bit of a flag byte. -/
def bit (i : Nat) (b : Bool) : Nat := if b then 2 ^ i else 0

end Sys2Proof.Machine
end

