-- ==== Sys2Proof/Config.lean ====
section
/-! DEFINITION. What the manual leaves open: the free value of the model, and the strap levels of the machine
right after reset, which are inputs of the part. -/

namespace Sys2Proof.Config

/-- FREE VALUE (log 4). What an interrupted or unfinished flash access has left in one byte of the plan store
(R113, R114, R116): an arbitrary byte for each draw and each store offset. Nothing in Lean can evaluate it. -/
opaque flashResidue : Nat → Nat → Byte

/-- The strapped address of `State.reset` (R180). DESIGN CHOICE (log 2): the straps are inputs; the RESET
command carries the levels read at its own reset. -/
def resetAddress : Nat := 1

/-- The maintenance strap of `State.reset` (R180): clear. DESIGN CHOICE (log 2). -/
def resetMaintenance : Bool := false

end Sys2Proof.Config
end

