-- ==== Sys2Proof/Machine/State.lean ====
section
/-! DEFINITION. The state of one LM-730, block by block (00_scope.md, 0.2), as plain data; the reasons a step can
stop; and the machine right after reset.

Counts, addresses, floors, tile numbers and times are natural numbers whose limits the operations keep; bytes and
texts are what the part sends and stores. A timer is `none` while stopped and holds its start time while it runs (R7). -/

namespace Sys2Proof.Machine

open Sys2Proof

/-! ## The names of the manual -/

/-- The class of a reading's resistance (R5). -/
inductive LineClass where
  | short
  | alarm
  | normal
  | openLoop
  deriving DecidableEq, Repr, Inhabited

/-- The zone types (R6). -/
inductive ZoneType where
  | unused
  | detector
  | callpoint
  | flow
  | valve
  deriving DecidableEq, Repr, Inhabited

/-- The zone states (1.4). -/
inductive ZoneState where
  | normal
  | pending
  | alarm
  | clearing
  | trouble
  | disabled
  deriving DecidableEq, Repr, Inhabited

/-- Which fault a line shows (R15). -/
inductive TroubleKind where
  | openLoop
  | short
  deriving DecidableEq, Repr, Inhabited

/-- The most severe condition of a floor (R39). -/
inductive Worst where
  | none
  | normal
  | trouble
  | supervisory
  | pending
  | clearing
  | fire
  deriving DecidableEq, Repr, Inhabited

/-- A peer record's presence (R49). -/
inductive Presence where
  | unknown
  | present
  | lost
  deriving DecidableEq, Repr, Inhabited

/-- The station condition (R184). -/
inductive Condition where
  | starting
  | joining
  | operating
  | listenOnly
  | maintenance
  deriving DecidableEq, Repr, Inhabited

/-- The access classes (R77). -/
inductive AccessClass where
  | alarm
  | control
  | bulk
  | routine
  deriving DecidableEq, Repr, Inhabited

/-- The frame kinds of the kind table (5.2). -/
inductive FrameKind where
  | zoneStateAlarm
  | zoneStateRoutine
  | directory
  | sheetRequest
  | sheetRefuse
  | sheetCancel
  | mark
  | sheetTile
  deriving DecidableEq, Repr, Inhabited

/-- The transmit blocks (R97). -/
inductive Block where
  | join
  | address
  | maintenance
  | duplicate
  | babble
  | line
  | silenced
  deriving DecidableEq, Repr, Inhabited

/-- The receiver's discards (R93). -/
inductive ReceiveFault where
  | badStart
  | framing
  | badLength
  | truncated
  | badCrc
  | unknownKind
  deriving DecidableEq, Repr, Inhabited

/-- The role of a directory record (6.1). -/
inductive Role where
  | owner
  | replica
  deriving DecidableEq, Repr, Inhabited

/-- The reasons of a SHEET REFUSE (7.5). -/
inductive RefuseReason where
  | noSheet
  | revision
  | busy
  | storeFault
  | range
  deriving DecidableEq, Repr, Inhabited

/-- The reasons of a FAILED transfer (R136). -/
inductive FailReason where
  | noHolder
  | noPath
  | range
  deriving DecidableEq, Repr, Inhabited

/-- How a crew transfer ended (R136), and the restart a TRANSFER record can also tell (R167). -/
inductive TransferResult where
  | done
  | failed (reason : FailReason)
  | restart
  deriving DecidableEq, Repr, Inhabited

/-! ## The Zone Unit (chapter 1) -/

/-- One line record (1.1). `lastMark` is the model's own: the 20 ms mark of the line's latest sample (log 5). -/
structure LineRecord where
  ztype : ZoneType
  floor : Nat
  label : Text
  history : List Nat
  reading : Nat
  resistance : Nat
  lclass : LineClass
  zstate : ZoneState
  trouble : Option TroubleKind
  recurring : Bool
  lineLost : Bool
  boosted : Bool
  repeatCount : Nat
  transientCount : Nat
  changeNumber : Nat
  confirmTimer : Option Nat
  troubleTimer : Option Nat
  restoreTimer : Option Nat
  holdTimer : Option Nat
  decayTimer : Option Nat
  confirmLength : Nat
  episodeStart : Option Nat
  lastMark : Nat
  deriving DecidableEq, Repr

/-- A line record at reset (R24). -/
def LineRecord.atReset : LineRecord where
  ztype := .unused
  floor := 0
  label := List.replicate 8 0x20#8
  history := []
  reading := 0
  resistance := 0
  lclass := .normal
  zstate := .normal
  trouble := none
  recurring := false
  lineLost := false
  boosted := false
  repeatCount := 0
  transientCount := 0
  changeNumber := 0
  confirmTimer := none
  troubleTimer := none
  restoreTimer := none
  holdTimer := none
  decayTimer := none
  confirmLength := 0
  episodeStart := none
  lastMark := 0

/-- The sixteen line records, whether their configuration has been taken (R1), and whether sampling ready has been
reported (R2). -/
structure ZoneUnit where
  lines : Vector LineRecord 16
  configTaken : Bool
  readyReported : Bool
  deriving DecidableEq, Repr

/-! ## The Tower Picture (chapter 2) -/

/-- An entry's age carriage (2.1): the episode start of an own entry, the reported age and its receipt of a remote
one, absent outside an episode. -/
inductive AgeCarriage where
  | absent
  | own (start : Nat)
  | remote (age receipt : Nat)
  deriving DecidableEq, Repr, Inhabited

/-- An acknowledgement (R26). -/
structure Ack where
  label : Text
  station : Nat
  port : Option Port
  change : Nat
  deriving DecidableEq, Repr, Inhabited

/-- One zone entry (2.1); `known = false` is presence EMPTY. -/
structure ZoneEntry where
  known : Bool
  floor : Nat
  ztype : ZoneType
  zstate : ZoneState
  trouble : Option TroubleKind
  recurring : Bool
  lineLost : Bool
  boosted : Bool
  stale : Bool
  repeatCount : Nat
  transientCount : Nat
  resistance : Nat
  changeNumber : Nat
  age : AgeCarriage
  ack : Option Ack
  label : Option Text
  lastHeard : Option Nat
  deriving DecidableEq, Repr

/-- An EMPTY entry, as every entry is at reset (R48). -/
def ZoneEntry.empty : ZoneEntry where
  known := false
  floor := 0
  ztype := .unused
  zstate := .disabled
  trouble := none
  recurring := false
  lineLost := false
  boosted := false
  stale := false
  repeatCount := 0
  transientCount := 0
  resistance := 0
  changeNumber := 0
  age := .absent
  ack := none
  label := none
  lastHeard := none

/-- One entry of an attendance list (R41). -/
structure Attendance where
  label : Text
  station : Nat
  port : Port
  time : Nat
  deriving DecidableEq, Repr, Inhabited

/-- What a floor's counted entries give its summary (R38, R39). -/
structure Counts where
  worst : Worst
  fire : Nat
  pending : Nat
  clearing : Nat
  supervisory : Nat
  trouble : Nat
  stale : Nat
  anyRecurring : Bool
  anyLineLost : Bool
  deriving DecidableEq, Repr, Inhabited

/-- The counts of a floor with no counted entry. -/
def Counts.zero : Counts where
  worst := .none
  fire := 0
  pending := 0
  clearing := 0
  supervisory := 0
  trouble := 0
  stale := 0
  anyRecurring := false
  anyLineLost := false

/-- One floor summary (2.7). -/
structure FloorSummary where
  label : Option Text
  counts : Counts
  attendance : List Attendance
  changeNumber : Nat
  deriving DecidableEq, Repr

/-- A floor summary at reset (R48). -/
def FloorSummary.atReset : FloorSummary where
  label := none
  counts := Counts.zero
  attendance := []
  changeNumber := 0

/-- The picture: entry (origin, line) stands at 16 × origin + line; row 0 is the origin-0 row of R25. -/
structure TowerPicture where
  entries : Vector ZoneEntry 1008
  floors : Vector FloorSummary 256
  rejectedReports : Nat
  deriving DecidableEq, Repr

/-! ## Peers and plan holders (chapter 3) -/

/-- A kind set: bit k for sheet kind k, 0 FLOOR PLAN to 5 STRUCTURE (3.3). -/
abbrev KindSet := BitVec 6

/-- The fields of a peer record that come from its DIRECTORY frames (R49, R55). -/
structure PeerDirectory where
  condition : Condition
  noConfig : Bool
  firstFloor : Nat
  floorCount : Nat
  floorLabels : List Text
  zoneLabels : List Text
  owned : List KindSet
  replicas : List (Nat × KindSet)
  deriving DecidableEq, Repr

/-- One peer record (3.1). -/
structure PeerRecord where
  presence : Presence
  silence : Option Nat
  framesHeard : Nat
  directory : Option PeerDirectory
  deriving DecidableEq, Repr

/-- A peer record at reset (R61). -/
def PeerRecord.atReset : PeerRecord where
  presence := .unknown
  silence := none
  framesHeard := 0
  directory := none

/-- The Peer Table: the record of address a stands at index a; the station's own address, 0 and 63 are no records
(R49) and keep their reset values. -/
structure PeerTable where
  records : Vector PeerRecord 64
  unplacedFrames : Nat
  rejectedDirectories : Nat
  deriving DecidableEq, Repr

/-- A station that can hold a sheet: this station, or a peer by its address. -/
inductive Source where
  | self
  | peer (address : Nat)
  deriving DecidableEq, Repr, Inhabited

/-- A holder entered in a row of the Holder Table, with the kind set it holds (3.5). -/
structure Holder where
  source : Source
  kinds : KindSet
  deriving DecidableEq, Repr, Inhabited

/-- One row of the Holder Table (R57, R58). -/
structure HolderRow where
  owner : Option Holder
  replicas : List Holder
  deriving DecidableEq, Repr, Inhabited

/-- The station's own holdings (R56). -/
structure OwnHoldings where
  firstFloor : Nat
  floorCount : Nat
  owned : List KindSet
  replicas : List (Nat × KindSet)
  deriving DecidableEq, Repr

/-- The own holdings, absent until taken (R61), and the 256 rows. -/
structure HolderTable where
  own : Option OwnHoldings
  rows : Vector HolderRow 256
  deriving DecidableEq, Repr

/-- The counts of the Mark Handler (R63). -/
structure MarkCounts where
  rejected : Nat
  discarded : Nat
  notSent : Nat
  deriving DecidableEq, Repr, Inhabited

/-! ## The Riser Link Controller (chapter 5) -/

/-- One frame: its kind, its addresses and its payload (5.2). -/
structure Frame where
  kind : FrameKind
  origin : Nat
  dest : Nat
  payload : List Byte
  deriving DecidableEq, Repr

/-- Who submitted a CONTROL entry (R90): the Mark Handler, or the Sheet Transfer Engine for a channel's SHEET REQUEST
(`gap`: the re-request of a gap, R130), a SHEET REFUSE or a SHEET CANCEL. -/
inductive Submitter where
  | mark
  | request (channel : Nat) (gap : Bool)
  | refuse
  | cancel
  deriving DecidableEq, Repr, Inhabited

/-- One entry of the CONTROL queue (R90). `withdrawn` marks a head that its submitter withdrew while its transmission
was in progress. -/
structure ControlEntry where
  kind : FrameKind
  dest : Nat
  payload : List Byte
  submitter : Submitter
  withdrawn : Bool
  deriving DecidableEq, Repr

/-- What a transmission drives: a frame of one of the four holdings, or a yield mark (R77, R85). A tile names the
serving channel and the tile buffer under the frame. -/
inductive TxSource where
  | zoneState
  | directory
  | control
  | tile (channel buffer : Nat)
  | yieldMark
  deriving DecidableEq, Repr, Inhabited

/-- The transmission in progress (R77): the frame as built (none for a yield mark), its start time, whether the ALARM
mark was pending at its start and whether a raise has come since (R87), the more-follows flag (R84), and whether the
service the tile belongs to is still the channel's (R142). -/
structure Transmission where
  source : TxSource
  frame : Option Frame
  start : Nat
  alarmAtStart : Bool
  raisedSince : Bool
  moreFollows : Bool
  serviceLive : Bool
  deriving DecidableEq, Repr

/-- What the riser's receiver is about (R76, R93): off before the join listen; between a frame end and idle detection,
where the next byte starts a frame; waiting for idle detection; in an idle round, `from` the first offset in µs not yet
passed; or receiving a frame. -/
inductive RiserPhase where
  | off
  | quiet
  | awaitIdle
  | idle (passed : Nat)
  | receiving
  deriving DecidableEq, Repr, Inhabited

/-- The set of transmit blocks (R97). -/
structure Blocks where
  join : Bool
  address : Bool
  maintenance : Bool
  duplicate : Bool
  babble : Bool
  line : Bool
  silenced : Bool
  deriving DecidableEq, Repr, Inhabited

/-- The link counters (R96), in the order of their table. -/
structure LinkCounters where
  framesSent : Nat
  collisions : Nat
  guardCuts : Nat
  yieldMarks : Nat
  burstsYielded : Nat
  badStart : Nat
  framingError : Nat
  badLength : Nat
  truncated : Nat
  badCrc : Nat
  unknownKind : Nat
  duplicateEvents : Nat
  misdirected : Nat
  notForThis : Nat
  accepted : Nat
  deriving DecidableEq, Repr, Inhabited

/-- The four last origins (R78). -/
structure LastOrigins where
  alarm : Nat
  control : Nat
  bulk : Nat
  routine : Nat
  deriving DecidableEq, Repr, Inhabited

/-- The Riser Link Controller. `burst` names the channel whose burst may continue at 16 µs (R84); `yieldDue` is the
yield decision of R85 until its mark is driven. -/
structure RiserLink where
  phase : RiserPhase
  tx : Option Transmission
  burst : Option Nat
  yieldDue : Bool
  alarmPending : Bool
  refreshMark : Bool
  directoryMark : Bool
  refreshTimer : Option Nat
  directoryTimer : Option Nat
  directorySent : Bool
  zoneStateSent : Bool
  control : List ControlEntry
  bulkRotation : Nat
  lastOrigins : LastOrigins
  abandoned : Nat
  blocks : Blocks
  joinTimer : Option Nat
  duplicateHold : Option Nat
  babbleTimer : Option Nat
  lineTimer : Option Nat
  duplicateCount : Nat
  babbleCount : Nat
  duplicateDecay : Option Nat
  babbleDecay : Option Nat
  counters : LinkCounters
  deriving DecidableEq, Repr

/-- The RLC at reset (R78, R83, R87 to R92, R96, R97, R99), with the blocks the straps place. -/
def RiserLink.atReset (address : Nat) (maintenance : Bool) : RiserLink where
  phase := .off
  tx := none
  burst := none
  yieldDue := false
  alarmPending := false
  refreshMark := false
  directoryMark := false
  refreshTimer := none
  directoryTimer := none
  directorySent := false
  zoneStateSent := false
  control := []
  bulkRotation := 5
  lastOrigins := ⟨62, 62, 62, 62⟩
  abandoned := 0
  blocks :=
    { join := true, address := decide (address = 0 ∨ address = 63), maintenance := maintenance, duplicate := false,
      babble := false, line := false, silenced := false }
  joinTimer := none
  duplicateHold := none
  babbleTimer := none
  lineTimer := none
  duplicateCount := 0
  babbleCount := 0
  duplicateDecay := none
  babbleDecay := none
  counters := default

/-! ## The Plan Store Interface (chapter 6) -/

/-- The plan store's bytes: rising offsets, no listed byte 0xFF, since an erased byte reads 0xFF (6.1). -/
abbrev Memory := List Host.Cell

/-- One line configuration of the station header (6.1). -/
structure LineConfig where
  ztype : ZoneType
  offset : Nat
  label : Text
  deriving DecidableEq, Repr, Inhabited

/-- The header image kept from a good header (R104). -/
structure HeaderImage where
  name : Text
  firstFloor : Nat
  floorCount : Nat
  floorLabels : List Text
  lines : List LineConfig
  replicas : List Nat
  deriving DecidableEq, Repr, Inhabited

/-- An accepted directory record (6.1, R105). -/
structure SheetRecord where
  floor : Nat
  kind : Nat
  role : Role
  revision : Nat
  tileCount : Nat
  location : Nat
  title : Text
  deriving DecidableEq, Repr, Inhabited

/-- The five directory counts (R105). -/
structure DirectoryCounts where
  accepted : Nat
  badCheck : Nat
  outOfRange : Nat
  beyond : Nat
  duplicate : Nat
  deriving DecidableEq, Repr, Inhabited

/-- What a reading of header and directory has found so far: the start-up reading, or the scratch result of a STORE
CHECK (R103, R115). -/
structure StoreScan where
  header : Option HeaderImage
  records : List SheetRecord
  counts : DirectoryCounts
  deriving DecidableEq, Repr, Inhabited

/-- A tile read request (R108). -/
structure TileRead where
  channel : Nat
  record : SheetRecord
  tile : Nat
  buffer : Nat
  deriving DecidableEq, Repr

/-- A maintenance operation (R112). -/
inductive MaintOp where
  | write (offset : Nat) (data : List Byte)
  | erase (block : Nat)
  | check
  deriving DecidableEq, Repr, Inhabited

/-- The access in progress on the flash (R103, R109): none; a start-up read of the header (`none`) or of a slot; a tile
read, `withdrawn` when its result is to be discarded (R111); or a maintenance operation, `discard` when its response is
(R112). Each holds the time its present read or operation began. -/
inductive FlashAccess where
  | free
  | startup (slot : Option Nat) (scan : StoreScan) (begun : Nat)
  | tile (read : TileRead) (begun : Nat) (withdrawn : Bool)
  | write (offset : Nat) (data : List Byte) (begun : Nat) (discard : Bool)
  | erase (block : Nat) (begun : Nat) (discard : Bool)
  | check (slot : Option Nat) (scan : StoreScan) (begun : Nat) (discard : Bool)
  deriving DecidableEq, Repr

/-- The Plan Store Interface with the flash beside it. `waiting` is the accepted maintenance operation not yet begun,
with its discard mark (R112). -/
structure PlanStore where
  memory : Memory
  image : Option HeaderImage
  sheets : List SheetRecord
  counts : DirectoryCounts
  ready : Bool
  access : FlashAccess
  waiting : Option (MaintOp × Bool)
  lists : Vector (List TileRead) 6
  rotation : Nat
  tilesOk : Nat
  tilesBad : Nat
  timeouts : Nat
  deriving DecidableEq, Repr

/-- The interface at reset (R106, R108 to R110, R112), its start-up read of the header begun (R103), beside a flash
that holds `memory`. -/
def PlanStore.atReset (memory : Memory) : PlanStore where
  memory := memory
  image := none
  sheets := []
  counts := default
  ready := false
  access := .startup none default 0
  waiting := none
  lists := Vector.replicate 6 []
  rotation := 5
  tilesOk := 0
  tilesBad := 0
  timeouts := 0

/-! ## The Sheet Transfer Engine (chapter 7) -/

/-- A channel's state (R117). `localStore` is LOCAL. -/
inductive ChannelState where
  | free
  | localStore
  | request
  | receive
  | serve
  deriving DecidableEq, Repr, Inhabited

/-- A channel's owner (7.1). -/
inductive Owner where
  | nobody
  | port (p : Port)
  | peer (address : Nat) (tag : Nat)
  deriving DecidableEq, Repr, Inhabited

/-- One transfer channel (7.1). `fetch` is the next tile to place with the reader, or the next tile expected from the
riser; `missingDue` the tiles to be delivered as MISSING; `lastRefuse` the reason recorded under R128; `wantWindow` the
wait for a buffer of R127; `gapRequest` that the window last built answers a gap (R130); `restartOffer` the SHEET-RESTART not
yet sent, with its two counts; `result` the end not yet told by a SHEET-END. -/
structure Channel where
  state : ChannelState
  owner : Owner
  floor : Nat
  kind : Nat
  record : Option SheetRecord
  pinned : Nat
  origFirst : Nat
  origLast : Nat
  curFirst : Nat
  curLast : Nat
  nextTile : Nat
  fetch : Nat
  window : Option (Nat × Nat)
  candidates : List Source
  position : Nat
  busyRetries : Nat
  gapStrike : Nat
  restartUsed : Bool
  tag : Nat
  burstMode : Bool
  delivered : Nat
  missing : Nat
  missingDue : List Nat
  lastRefuse : Option RefuseReason
  responseTimer : Option Nat
  gapTimer : Option Nat
  busyWait : Option Nat
  queueFullWait : Option Nat
  wantWindow : Bool
  gapRequest : Bool
  restartOffer : Option (Nat × Nat)
  result : Option TransferResult
  deriving DecidableEq, Repr

/-- A FREE channel holds no owner, no sheet and no tag (R117). -/
def Channel.freed : Channel where
  state := .free
  owner := .nobody
  floor := 0
  kind := 0
  record := none
  pinned := 0
  origFirst := 0
  origLast := 0
  curFirst := 0
  curLast := 0
  nextTile := 0
  fetch := 0
  window := none
  candidates := []
  position := 0
  busyRetries := 0
  gapStrike := 0
  restartUsed := false
  tag := 0
  burstMode := false
  delivered := 0
  missing := 0
  missingDue := []
  lastRefuse := none
  responseTimer := none
  gapTimer := none
  busyWait := none
  queueFullWait := none
  wantWindow := false
  gapRequest := false
  restartOffer := none
  result := none

/-- The condition of a held tile buffer (R120). -/
inductive BufferState where
  | empty
  | reading (tile : Nat)
  | full (tile : Nat) (data : List Byte)
  deriving DecidableEq, Repr, Inhabited

/-- One tile buffer: free in the pool (`holder = none`) or held by one channel (R120). -/
structure TileBuffer where
  holder : Option Nat
  state : BufferState
  deriving DecidableEq, Repr, Inhabited

/-- The counters of R143, in the order of their table. -/
structure TransferCounters where
  done : Nat
  failed : Nat
  restarts : Nat
  strayTiles : Nat
  strayRefuses : Nat
  servicesCompleted : Nat
  serveRefuses : Nat
  serveIgnored : Nat
  strayCancels : Nat
  controlNotSent : Nat
  deriving DecidableEq, Repr, Inhabited

/-- The Sheet Transfer Engine: six channels, sixteen tile buffers, the tag counter (R117 to R120). -/
structure TransferEngine where
  channels : Vector Channel 6
  buffers : Vector TileBuffer 16
  tagCounter : Nat
  counters : TransferCounters
  deriving DecidableEq, Repr

/-! ## Crew ports (chapter 8) and Notice Controllers (chapter 9) -/

/-- The five persistent error flags (R150). -/
structure ErrorFlags where
  framing : Bool
  overrun : Bool
  badCheck : Bool
  tooLong : Bool
  breakSeen : Bool
  deriving DecidableEq, Repr, Inhabited

/-- The picture stream (R156); a cursor of 256 is past 255. `passOpen` says that a pass is open (R157): from its start with
some floor to send until the arbiter comes to the stream's turn and finds none. -/
structure Stream where
  isOn : Bool
  period : Nat
  cursor : Nat
  start : Nat
  passOpen : Bool
  deriving DecidableEq, Repr, Inhabited

/-- A complete request in the receive buffer (R149). -/
structure Request where
  kind : Byte
  body : List Byte
  deriving DecidableEq, Repr

/-- Where a message to the terminal comes from (R159). -/
inductive MsgSource where
  | response
  | storeResult
  | notice
  | tile (channel : Nat)
  | sheetEnd (channel : Nat)
  | sheetRestart (channel : Nat)
  | summary
  deriving DecidableEq, Repr, Inhabited

/-- The message being sent: its source, kind and body, and whether its source is still to be told sent (R159). -/
structure OutMessage where
  source : MsgSource
  kind : Byte
  body : List Byte
  live : Bool
  deriving DecidableEq, Repr

/-- One crew port (chapter 8). A slot lists the bodies of the parts of its response not yet sent. `storeAhead`
counts the responses of the store result slot that were placed before the response in the response slot (R159; log 18); `breakHeld` that the line has stayed low since a break (R145);
`receiving` that the receiver is receiving a message and not hunting (R148). -/
structure CrewPort where
  isOpen : Bool
  attached : Bool
  label : Option Text
  breakHeld : Bool
  receiving : Bool
  buffer : List Request
  flags : ErrorFlags
  responseSlot : List (List Byte)
  storeSlot : List (List Byte)
  storeAhead : Nat
  sending : Option OutMessage
  rotation : Nat
  stream : Stream
  deriving DecidableEq, Repr

/-- A crew port at reset (R162): closed, DETACHED, every flag clear. The stream's period has no stated reset value
(log 3). -/
def CrewPort.atReset : CrewPort where
  isOpen := false
  attached := false
  label := none
  breakHeld := false
  receiving := false
  buffer := []
  flags := default
  responseSlot := []
  storeSlot := []
  storeAhead := 0
  sending := none
  rotation := 5
  stream := { isOn := false, period := 1, cursor := 0, start := 0, passOpen := false }

/-- The subject of a notice record (9.1). -/
inductive Subject where
  | zone (origin line : Nat)
  | floor (f : Nat)
  | station (address : Nat)
  | block (b : Block)
  | channel (c : Nat)
  deriving DecidableEq, Repr, Inhabited

/-- The outcome of a TRANSFER record (R167). -/
structure TransferOutcome where
  result : TransferResult
  floor : Nat
  kind : Nat
  revision : Nat
  delivered : Nat
  missing : Nat
  deriving DecidableEq, Repr, Inhabited

/-- What names a record in its queue: no two records share level and subject (R168). -/
structure NoticeKey where
  level : Nat
  subject : Subject
  deriving DecidableEq, Repr, Inhabited

/-- A notice record (9.1). A record is in service exactly while its key stands in the stack (R170). -/
structure Notice where
  key : NoticeKey
  time : Nat
  events : Nat
  detail : Nat
  outcome : Option TransferOutcome
  deriving DecidableEq, Repr, Inhabited

/-- A watch latch (R176). -/
structure Latch where
  counts : Counts
  attendance : Nat
  deriving DecidableEq, Repr, Inhabited

/-- A Notice Controller (9.1): the queue oldest first, the in-service stack bottom first and the notices due in order of
entry, both by key, the mask (bit n for level n), the watch list with its latches, and NOTICE_LOST. -/
structure NoticeController where
  queue : List Notice
  stack : List NoticeKey
  due : List NoticeKey
  mask : Byte
  watch : List (Nat × Latch)
  lost : Bool
  deriving DecidableEq, Repr

/-- A Notice Controller at reset (R163). -/
def NoticeController.atReset : NoticeController where
  queue := []
  stack := []
  due := []
  mask := 0
  watch := []
  lost := false

/-! ## The station -/

/-- The state of one station. `held`: the reset pin is asserted (R179). `address` and `maintenance`: the straps as read
(R180). `starting`: the station is in STARTING (R181). `draws` counts the free values drawn (the model's own, log 4).
`pending` is the queue of commands that wait, first in, first out (the model's own, log 1). -/
structure State where
  clock : Nat
  held : Bool
  address : Nat
  maintenance : Bool
  starting : Bool
  noConfig : Bool
  zones : ZoneUnit
  picture : TowerPicture
  peers : PeerTable
  holders : HolderTable
  marks : MarkCounts
  rlc : RiserLink
  store : PlanStore
  ste : TransferEngine
  portA : CrewPort
  portB : CrewPort
  noticesA : NoticeController
  noticesB : NoticeController
  draws : Nat
  pending : List Instr
  deriving DecidableEq, Repr

/-- The reasons a step can stop with a fault. -/
inductive Fault where
  /-- Raised by the end of a tile read (`execTileReadEnd`) whose tile would lie beyond the last store offset
  67 108 863 (6.1). SAFE: the machine stops where the store has no byte; the checks of R105 keep every accepted record
  inside the store, so no run reaches it. -/
  | beyondStore (offset : Nat)
  deriving DecidableEq, Repr

/-- The reasons a step can be refused. -/
inductive Refusal where
  /-- Raised by `exec` for a command that has no meaning yet. SAFE: the machine stops. No arm raises it. -/
  | notModelled (mnemonic : String)
  deriving DecidableEq, Repr

/-- The machine right after reset (R179): every block at the reset values of its chapter, the clock at 0, the straps at
the levels of `Config` (log 2), the flash blank (log 6), no command waiting. -/
def State.reset : State where
  clock := 0
  held := false
  address := Config.resetAddress
  maintenance := Config.resetMaintenance
  starting := true
  noConfig := false
  zones := { lines := Vector.replicate 16 LineRecord.atReset, configTaken := false, readyReported := false }
  picture :=
    { entries := Vector.replicate 1008 ZoneEntry.empty, floors := Vector.replicate 256 FloorSummary.atReset,
      rejectedReports := 0 }
  peers := { records := Vector.replicate 64 PeerRecord.atReset, unplacedFrames := 0, rejectedDirectories := 0 }
  holders := { own := none, rows := Vector.replicate 256 { owner := none, replicas := [] } }
  marks := { rejected := 0, discarded := 0, notSent := 0 }
  rlc := RiserLink.atReset Config.resetAddress Config.resetMaintenance
  store := PlanStore.atReset []
  ste :=
    { channels := Vector.replicate 6 Channel.freed,
      buffers := Vector.replicate 16 { holder := none, state := .empty }, tagCounter := 0, counters := default }
  portA := CrewPort.atReset
  portB := CrewPort.atReset
  noticesA := NoticeController.atReset
  noticesB := NoticeController.atReset
  draws := 0
  pending := []

end Sys2Proof.Machine
end

