-- ==== Sys2Proof/Machine/Operands.lean ====
section
/-! DEFINITION. The layouts of everything that leaves or reaches the chip: the codes of the tables, the riser frame and
its payloads, the plan-store records, and the crew-port message and its records. -/

namespace Sys2Proof.Machine

open Sys2Proof

/-! ## Codes -/

/-- The type codes of the zone record (2.3), also those of the station header (6.1). -/
def ZoneType.code : ZoneType → Nat
  | .unused => 0
  | .detector => 1
  | .callpoint => 2
  | .flow => 3
  | .valve => 4

def ZoneType.ofCode : Nat → ZoneType
  | 1 => .detector
  | 2 => .callpoint
  | 3 => .flow
  | 4 => .valve
  | _ => .unused

/-- DETECTOR, CALLPOINT and FLOW are the fire types (R6). -/
def ZoneType.isFire : ZoneType → Bool
  | .detector => true
  | .callpoint => true
  | .flow => true
  | .unused => false
  | .valve => false

/-- The state codes of the zone record (2.3). -/
def ZoneState.code : ZoneState → Nat
  | .normal => 0
  | .pending => 1
  | .alarm => 2
  | .clearing => 3
  | .trouble => 4
  | .disabled => 5

def ZoneState.ofCode : Nat → ZoneState
  | 0 => .normal
  | 1 => .pending
  | 2 => .alarm
  | 3 => .clearing
  | 4 => .trouble
  | _ => .disabled

/-- ALARM or CLEARING: the states of an episode (R19, R26). -/
def ZoneState.inEpisode (z : ZoneState) : Bool := decide (z = .alarm) || decide (z = .clearing)

/-- The trouble-kind codes of the zone record (2.3): 0 when absent. -/
def troubleCode : Option TroubleKind → Nat
  | none => 0
  | some .openLoop => 1
  | some .short => 2

def troubleOfCode : Nat → Option TroubleKind
  | 1 => some .openLoop
  | 2 => some .short
  | _ => none

/-- The worst codes of the summary record (8.2). -/
def Worst.code : Worst → Nat
  | .none => 0
  | .normal => 1
  | .trouble => 2
  | .supervisory => 3
  | .pending => 4
  | .clearing => 5
  | .fire => 6

/-- The condition codes (R184). -/
def Condition.code : Condition → Nat
  | .starting => 0
  | .joining => 1
  | .operating => 2
  | .listenOnly => 3
  | .maintenance => 4

def Condition.ofCode : Nat → Condition
  | 0 => .starting
  | 1 => .joining
  | 2 => .operating
  | 3 => .listenOnly
  | _ => .maintenance

/-- The presence codes of the entry record (8.2); 0 stands for this station. -/
def Presence.code : Presence → Nat
  | .unknown => 1
  | .present => 2
  | .lost => 3

/-- The port codes: 1 A, 2 B (4.3). -/
def portCode : Port → Nat
  | .a => 1
  | .b => 2

/-- The block codes of R167. -/
def Block.code : Block → Nat
  | .join => 1
  | .address => 2
  | .maintenance => 3
  | .duplicate => 4
  | .babble => 5
  | .line => 6
  | .silenced => 7

/-- The reason codes of a SHEET REFUSE (7.5). -/
def RefuseReason.code : RefuseReason → Nat
  | .noSheet => 1
  | .revision => 2
  | .busy => 3
  | .storeFault => 4
  | .range => 5

def RefuseReason.ofCode : Nat → Option RefuseReason
  | 1 => some .noSheet
  | 2 => some .revision
  | 3 => some .busy
  | 4 => some .storeFault
  | 5 => some .range
  | _ => none

/-- The result codes of SHEET-END and of the channel snapshot (R160, R172). -/
def TransferResult.code : TransferResult → Nat
  | .done => 0
  | .failed _ => 1
  | .restart => 2

/-- The reason codes of SHEET-END (R160). -/
def TransferResult.reasonCode : TransferResult → Nat
  | .failed .noHolder => 1
  | .failed .noPath => 2
  | .failed .range => 3
  | .done => 0
  | .restart => 0

/-- The results of a RESPONSE (8.2). -/
inductive Result where
  | ok
  | accepted
  | acked
  | localOnly
  | attending
  | left
  | cancelled
  | written
  | erased
  | checked
  | unknown
  | format
  | noLabel
  | noPath
  | noZone
  | notAlarm
  | changed
  | already
  | busy
  | noHolder
  | badRange
  | notOwner
  | none
  | range
  | verifyFail
  | storeFault
  deriving DecidableEq, Repr, Inhabited

/-- The result codes (8.2). `localOnly` is LOCAL. -/
def Result.code : Result → Nat
  | .ok => 0x00
  | .accepted => 0x01
  | .acked => 0x02
  | .localOnly => 0x03
  | .attending => 0x04
  | .left => 0x05
  | .cancelled => 0x06
  | .written => 0x07
  | .erased => 0x08
  | .checked => 0x09
  | .unknown => 0x40
  | .format => 0x41
  | .noLabel => 0x42
  | .noPath => 0x43
  | .noZone => 0x44
  | .notAlarm => 0x45
  | .changed => 0x46
  | .already => 0x47
  | .busy => 0x48
  | .noHolder => 0x49
  | .badRange => 0x4A
  | .notOwner => 0x4B
  | .none => 0x4C
  | .range => 0x4D
  | .verifyFail => 0x4E
  | .storeFault => 0x4F

/-! ## The riser frame (5.2) -/

/-- The kind codes of the kind table. -/
def FrameKind.code : FrameKind → Nat
  | .zoneStateAlarm => 0x31
  | .zoneStateRoutine => 0x32
  | .directory => 0x33
  | .sheetRequest => 0x41
  | .sheetRefuse => 0x42
  | .sheetCancel => 0x43
  | .mark => 0x44
  | .sheetTile => 0x51

/-- The class of a frame follows from its kind code alone (R77). -/
def FrameKind.cls : FrameKind → AccessClass
  | .zoneStateAlarm => .alarm
  | .zoneStateRoutine => .routine
  | .directory => .routine
  | .sheetRequest => .control
  | .sheetRefuse => .control
  | .sheetCancel => .control
  | .mark => .control
  | .sheetTile => .bulk

/-- The kinds whose destination is 63 in the kind table. -/
def FrameKind.isBroadcast : FrameKind → Bool
  | .zoneStateAlarm => true
  | .zoneStateRoutine => true
  | .directory => true
  | .mark => true
  | .sheetRequest => false
  | .sheetRefuse => false
  | .sheetCancel => false
  | .sheetTile => false

/-- The codes of the kind table. -/
def frameCodes : List Nat := [0x31, 0x32, 0x33, 0x41, 0x42, 0x43, 0x44, 0x51]

/-- The fields of a frame that its CRC covers: kind, origin, destination, length and payload. -/
def frameCovered (f : Frame) : List Byte :=
  [byte f.kind.code, byte f.origin, byte f.dest] ++ be16 f.payload.length ++ f.payload

/-- A frame as it is driven on the line (R77). -/
def frameBytes (f : Frame) : List Byte := 0xA5#8 :: frameCovered f ++ be16 (crc16 (frameCovered f)).toNat

/-- Whether one of a run of line bytes has a framing error. -/
def anyFraming (l : List LineByte) : Bool := l.any (·.framingError)

/-- The first failure the receiver finds in the bytes it took (R93), in the order in which they arrive; `none` when the
bytes are a well-formed frame. -/
def receiveFault (l : List LineByte) : Option ReceiveFault :=
  let bytes := l.map (·.value)
  let len := halfAt bytes 4
  if l.isEmpty then none
  else if byteAt bytes 0 ≠ 0xA5 then some .badStart
  else if anyFraming (l.take 6) then some .framing
  else if 6 ≤ l.length ∧ 416 < len then some .badLength
  else if anyFraming (l.take (8 + len)) then some .framing
  else if l.length < 6 ∨ l.length < 8 + len then some .truncated
  else if (crc16 (slice bytes 1 (5 + len))).toNat ≠ halfAt bytes (6 + len) then some .badCrc
  else if frameCodes.contains (byteAt bytes 1) then none
  else some .unknownKind

/-! ## The zone record (2.3) -/

/-- The fields of one zone record as they stand in a payload. -/
structure ZoneRecord where
  line : Nat
  floor : Nat
  ztype : Nat
  zstate : Nat
  trouble : Nat
  flags : Nat
  repeatCount : Nat
  transientCount : Nat
  resistance : Nat
  changeNumber : Nat
  age : Nat
  label : Text
  station : Nat
  deriving DecidableEq, Repr, Inhabited

/-- The k-th zone record of a payload. -/
def zoneRecordAt (payload : List Byte) (k : Nat) : ZoneRecord :=
  let l := slice payload (23 * k) 23
  { line := byteAt l 0, floor := byteAt l 1, ztype := byteAt l 2, zstate := byteAt l 3, trouble := byteAt l 4,
    flags := byteAt l 5, repeatCount := byteAt l 6, transientCount := byteAt l 7, resistance := halfAt l 8,
    changeNumber := halfAt l 10, age := halfAt l 12, label := slice l 14 8, station := byteAt l 22 }

/-- The sixteen zone records of a payload. -/
def zoneRecords (payload : List Byte) : List ZoneRecord := (List.range 16).map (zoneRecordAt payload)

/-- The checks of R31 on one record. -/
def ZoneRecord.fits (r : ZoneRecord) : Bool :=
  decide (r.line ≤ 15) && decide (r.ztype ≤ 4) && decide (r.zstate ≤ 5) && decide (r.trouble ≤ 2) &&
    decide (r.flags < 16) && decide (r.repeatCount ≤ 15) && decide (r.ztype = 0 ↔ r.zstate = 5)

/-- No two of the records name the same line (R31). -/
def linesDistinct : List ZoneRecord → Bool
  | [] => true
  | r :: rest => rest.all (fun q => decide (q.line ≠ r.line)) && linesDistinct rest

/-- A ZONE STATE payload passes the checks of R31. -/
def zonePayloadGood (payload : List Byte) : Bool :=
  decide (payload.length = 368) && (zoneRecords payload).all ZoneRecord.fits && linesDistinct (zoneRecords payload)

/-- The record of a line (R31: records are taken by their line field). -/
def recordOfLine (payload : List Byte) (line : Nat) : Option ZoneRecord :=
  (zoneRecords payload).find? (fun r => decide (r.line = line))

/-- The 23 bytes of a zone record. -/
def ZoneRecord.bytes (r : ZoneRecord) : List Byte :=
  [byte r.line, byte r.floor, byte r.ztype, byte r.zstate, byte r.trouble, byte r.flags, byte r.repeatCount,
    byte r.transientCount] ++ be16 r.resistance ++ be16 r.changeNumber ++ be16 r.age ++ padTo 8 r.label ++ [byte r.station]

/-- The alarm age of an entry at a moment (R29, R37): absent outside ALARM and CLEARING. -/
def ZoneEntry.alarmAge (now : Nat) (e : ZoneEntry) : Option Nat :=
  if e.zstate.inEpisode then
    match e.age with
    | .own start => some (satAt 65535 ((now - start) / 1000))
    | .remote age receipt => some (satAt 65535 (age + (now - receipt) / 1000))
    | .absent => none
  else none

/-- The zone record an own entry gives at the start of a ZONE STATE frame (R30). Of an entry still EMPTY R30 says all other
fields 0, and the record's table gives a label of eight 0x20 without an acknowledgement: the model takes the spaces
(log 40). -/
def ownZoneRecord (now line : Nat) (e : ZoneEntry) : ZoneRecord :=
  if e.known then
    { line := line, floor := e.floor, ztype := e.ztype.code, zstate := e.zstate.code, trouble := troubleCode e.trouble,
      flags := bit 0 e.recurring + bit 1 e.lineLost + bit 2 e.boosted + bit 3 e.ack.isSome,
      repeatCount := e.repeatCount, transientCount := e.transientCount, resistance := e.resistance,
      changeNumber := e.changeNumber, age := (e.alarmAge now).getD 0,
      label := match e.ack with | none => List.replicate 8 space | some a => padTo 8 a.label,
      station := match e.ack with | none => 0 | some a => a.station }
  else
    { line := line, floor := 0, ztype := 0, zstate := 5, trouble := 0, flags := 0, repeatCount := 0,
      transientCount := 0, resistance := 0, changeNumber := 0, age := 0, label := List.replicate 8 space, station := 0 }

/-! ## DIRECTORY (3.3) -/

/-- One holding of a DIRECTORY payload: floor, role code, kind-set byte. -/
def holdingAt (payload : List Byte) (k : Nat) : Nat × Nat × Nat :=
  (byteAt payload (149 + 3 * k), byteAt payload (150 + 3 * k), byteAt payload (151 + 3 * k))

/-- The holdings a DIRECTORY payload lists. -/
def holdingsOf (payload : List Byte) : List (Nat × Nat × Nat) :=
  (List.range (byteAt payload 148)).map (holdingAt payload)

/-- No two holdings name the same floor (R54). -/
def holdingFloorsDistinct : List (Nat × Nat × Nat) → Bool
  | [] => true
  | h :: rest => rest.all (fun g => decide (g.1 ≠ h.1)) && holdingFloorsDistinct rest

/-- A floor lies among `count` floors from `first`. -/
def covers (first count f : Nat) : Bool := decide (first ≤ f) && decide (f < first + count)

/-- A DIRECTORY payload passes the checks of R54. -/
def directoryGood (payload : List Byte) : Bool :=
  let n := byteAt payload 148
  let first := byteAt payload 2
  let count := byteAt payload 3
  let hs := holdingsOf payload
  decide (149 ≤ payload.length) && decide (n ≤ 12) && decide (payload.length = 149 + 3 * n) &&
    decide (byteAt payload 0 ≤ 4) && decide (byteAt payload 1 ≤ 1) &&
    decide (count ≤ 4) && decide (first + count ≤ 256) &&
    hs.all (fun h => (decide (h.2.1 = 1) || decide (h.2.1 = 2)) && decide (h.2.2 < 64)) &&
    hs.all (fun h => if h.2.1 = 1 then covers first count h.1 else !(covers first count h.1)) &&
    holdingFloorsDistinct hs && decide ((hs.filter (fun h => h.2.1 == 2)).length ≤ 8)

/-- Insertion into a list ascending by its first component. -/
def insertByFloor (x : Nat × KindSet) : List (Nat × KindSet) → List (Nat × KindSet)
  | [] => [x]
  | y :: rest => if x.1 ≤ y.1 then x :: y :: rest else y :: insertByFloor x rest

/-- The list in ascending floor order. -/
def sortByFloor (l : List (Nat × KindSet)) : List (Nat × KindSet) := l.foldr insertByFloor []

/-- The kind set an association list gives a floor, empty when none names it. -/
def kindsAt (l : List (Nat × KindSet)) (f : Nat) : KindSet :=
  match l.find? (fun x => x.1 == f) with
  | none => 0#6
  | some x => x.2

/-- The kind set of a byte whose bits 6 and 7 are zero (3.3). -/
def kindSet (n : Nat) : KindSet := BitVec.ofNat 6 n

/-- The DIRECTORY fields a payload that passes R54 gives (R55). -/
def directoryOf (payload : List Byte) : PeerDirectory :=
  let first := byteAt payload 2
  let count := byteAt payload 3
  let role := fun r => ((holdingsOf payload).filter (fun h => h.2.1 == r)).map (fun h => (h.1, kindSet h.2.2))
  { condition := Condition.ofCode (byteAt payload 0)
    noConfig := decide (byteAt payload 1 = 1)
    firstFloor := first
    floorCount := count
    floorLabels := (List.range count).map (fun k => slice payload (4 + 4 * k) 4)
    zoneLabels := (List.range 16).map (fun k => slice payload (20 + 8 * k) 8)
    owned := (List.range count).map (fun k => kindsAt (role 1) (first + k))
    replicas := sortByFloor (role 2) }

/-- The payload of a DIRECTORY (3.3, R56). -/
def directoryPayload (condition : Condition) (noConfig : Bool) (own : OwnHoldings) (floorLabels zoneLabels : List Text) :
    List Byte :=
  let holdings :=
    ((List.range own.floorCount).map fun k => [byte (own.firstFloor + k), byte 1, byte (own.owned.getD k 0#6).toNat]) ++
      (own.replicas.map fun r => [byte r.1, byte 2, byte r.2.toNat])
  [byte condition.code, byte (bit 0 noConfig), byte own.firstFloor, byte own.floorCount] ++
    ((List.range 4).map fun k => padTo 4 (if k < own.floorCount then floorLabels.getD k [] else [])).flatten ++
    ((List.range 16).map fun k => padTo 8 (zoneLabels.getD k [])).flatten ++
    [byte holdings.length] ++ holdings.flatten

/-! ## MARK (4.3) -/

/-- The payload of a MARK (R66). -/
def markPayload (kind : Nat) (label : Text) (station : Nat) (port : Port) (target line change : Nat) : List Byte :=
  [byte kind] ++ padTo 8 label ++ [byte station, byte (portCode port), byte target, byte line] ++ be16 change

/-- A MARK payload from `origin` passes the checks of R67. -/
def markGood (origin : Nat) (payload : List Byte) : Bool :=
  let kind := byteAt payload 0
  let label := slice payload 1 8
  decide (payload.length = 15) && (decide (kind = 1) || decide (kind = 2) || decide (kind = 3)) &&
    allPrintable label && !(label.all (· == space)) && decide (byteAt payload 9 = origin) &&
    (decide (byteAt payload 10 = 1) || decide (byteAt payload 10 = 2)) &&
    (if kind = 1 then decide (1 ≤ byteAt payload 11) && decide (byteAt payload 11 ≤ 62) && decide (byteAt payload 12 ≤ 15)
     else decide (byteAt payload 12 = 0) && decide (halfAt payload 13 = 0))

/-- The label of an accepted MARK: trailing 0x20 removed (R67). -/
def markLabel (payload : List Byte) : Text := trimText (slice payload 1 8)

/-- The port of an accepted MARK. -/
def markPort (payload : List Byte) : Port := if byteAt payload 10 = 1 then .a else .b

/-! ## Sheet frames (7.5) -/

/-- The payload of a SHEET REQUEST. -/
def sheetRequestPayload (tag floor kind revision first last : Nat) (burst : Bool) : List Byte :=
  [byte tag, byte floor, byte kind] ++ be16 revision ++ be16 first ++ be16 last ++ [byte (bit 0 burst)]

/-- The payload of a SHEET TILE. -/
def sheetTilePayload (tag floor kind revision tile count first last : Nat) (more : Bool) (data : List Byte) : List Byte :=
  [byte tag, byte floor, byte kind] ++ be16 revision ++ be16 tile ++ be16 count ++ be16 first ++ be16 last ++
    [byte (bit 0 more)] ++ data

/-- A SHEET REQUEST payload is not malformed (R139). -/
def sheetRequestGood (p : List Byte) : Bool :=
  decide (p.length = 10) && decide (byteAt p 2 ≤ 5) && decide (byteAt p 9 ≤ 1) && decide (byteAt p 0 ≠ 0)

/-- A SHEET TILE payload passes the checks of R129 on the frame as a whole. -/
def sheetTileGood (p : List Byte) : Bool :=
  decide (p.length = 270) && decide (byteAt p 2 ≤ 5) && decide (halfAt p 3 ≠ 0) && decide (halfAt p 7 ≠ 0) &&
    decide (halfAt p 7 ≤ 1024) && decide (halfAt p 5 < halfAt p 7) && decide (byteAt p 13 ≤ 1)

/-- The more-follows flag as the RLC reads it (R85, R95): the last byte before the data. A byte above 1, which the layout does
not give, counts as not set (log 43). -/
def tileMoreFollows (p : List Byte) : Bool := decide (byteAt p 13 = 1)

/-! ## Plan-store records (6.1) -/

/-- The bytes of a header read: offsets 0 to 206. -/
def headerLength : Nat := 207

/-- The line configuration k of a header. -/
def lineConfigAt (h : List Byte) (k : Nat) : LineConfig :=
  { ztype := ZoneType.ofCode (byteAt h (36 + 10 * k)), offset := byteAt h (37 + 10 * k), label := slice h (38 + 10 * k) 8 }

/-- A header that was read is good (R104). -/
def headerGood (h : List Byte) : Bool :=
  let first := byteAt h 18
  let count := byteAt h 19
  decide (h.length = headerLength) && decide (halfAt h 0 = 0x5A31) &&
    decide ((crc16 (h.take 205)).toNat = halfAt h 205) &&
    decide (1 ≤ count) && decide (count ≤ 4) && decide (first + count ≤ 256) &&
    (List.range 16).all (fun k => decide (byteAt h (36 + 10 * k) ≤ 4) && decide (byteAt h (37 + 10 * k) ≤ 3)) &&
    decide (byteAt h 196 ≤ 8) && allPrintable (slice h 2 16) && allPrintable (slice h 20 (4 * count)) &&
    (List.range 16).all (fun k => allPrintable (slice h (38 + 10 * k) 8))

/-- The header image kept from a good header (R104). -/
def headerImageOf (h : List Byte) : HeaderImage :=
  { name := slice h 2 16
    firstFloor := byteAt h 18
    floorCount := byteAt h 19
    floorLabels := (List.range (byteAt h 19)).map (fun k => slice h (20 + 4 * k) 4)
    lines := (List.range 16).map (lineConfigAt h)
    replicas := (List.range (byteAt h 196)).map (fun k => byteAt h (197 + k)) }

/-- The offset of a directory slot (6.1). -/
def slotOffset (slot : Nat) : Nat := 4096 + 40 * slot

/-- The fields of a directory record. -/
def sheetRecordOf (l : List Byte) : SheetRecord :=
  { floor := byteAt l 0, kind := byteAt l 1, role := if byteAt l 2 = 1 then .owner else .replica,
    revision := halfAt l 3, tileCount := halfAt l 5, location := wordAt l 7, title := slice l 11 24 }

/-- The record of a slot is in range (R105, check 3). -/
def slotInRange (l : List Byte) : Bool :=
  decide (byteAt l 1 ≤ 5) && (decide (byteAt l 2 = 1) || decide (byteAt l 2 = 2)) && decide (halfAt l 3 ≠ 0) &&
    decide (halfAt l 5 ≠ 0) && decide (halfAt l 5 ≤ 1024) && decide (65536 ≤ wordAt l 7) &&
    decide (wordAt l 7 + 258 * halfAt l 5 ≤ 67108864) && allPrintable (slice l 11 24)

/-! ## Crew-port messages (8.2) -/

/-- The fields of a crew message that its CRC covers: length, kind and body. -/
def crewCovered (kind : Byte) (body : List Byte) : List Byte := be16 (body.length + 1) ++ [kind] ++ body

/-- A crew message as it is sent. -/
def crewBytes (kind : Byte) (body : List Byte) : List Byte :=
  0x7E#8 :: crewCovered kind body ++ be16 (crc16 (crewCovered kind body)).toNat

/-- The summary record (8.2): counts given saturating at 255. -/
def summaryRecord (f : Nat) (x : FloorSummary) : List Byte :=
  [byte f] ++ padTo 4 (x.label.getD []) ++ [byte x.counts.worst.code] ++
    [byte (satAt 255 x.counts.fire), byte (satAt 255 x.counts.pending), byte (satAt 255 x.counts.clearing),
      byte (satAt 255 x.counts.supervisory), byte (satAt 255 x.counts.trouble), byte (satAt 255 x.counts.stale)] ++
    [byte (bit 0 x.counts.anyRecurring + bit 1 x.counts.anyLineLost + bit 2 x.label.isSome), byte x.attendance.length] ++
    be16 x.changeNumber

/-- The flag byte of the entry record (8.2). -/
def entryFlags (now : Nat) (e : ZoneEntry) : Nat :=
  if e.known then
    bit 0 e.recurring + bit 1 e.lineLost + bit 2 e.boosted + bit 3 e.stale + bit 4 e.ack.isSome +
      bit 5 (e.alarmAge now).isSome + bit 6 e.label.isSome
  else bit 6 e.label.isSome + bit 7 true

/-- The port of an acknowledgement: 0 absent, 1 A, 2 B. -/
def ackPortCode : Option Ack → Nat
  | none => 0
  | some a => match a.port with | none => 0 | some p => portCode p

/-- The entry record (8.2), with the coded presence of its origin. An EMPTY entry is given with its origin, line, flags
and label, and zero in every other field. -/
def entryRecord (now origin line presence : Nat) (e : ZoneEntry) : List Byte :=
  if e.known then
    [byte origin, byte line, byte e.floor, byte e.ztype.code, byte e.zstate.code, byte (troubleCode e.trouble),
      byte (entryFlags now e), byte e.repeatCount, byte e.transientCount, byte (ackPortCode e.ack)] ++
      be16 e.resistance ++ be16 e.changeNumber ++ be16 ((e.alarmAge now).getD 0) ++
      be16 (match e.lastHeard with | none => 0 | some t => satAt 65535 ((now - t) / 1000)) ++
      padTo 8 (e.label.getD []) ++
      (match e.ack with | none => List.replicate 8 space | some a => padTo 8 a.label) ++
      [byte (match e.ack with | none => 0 | some a => a.station), byte presence]
  else
    [byte origin, byte line, 0, 0, 0, 0, byte (entryFlags now e), 0, 0, 0] ++ List.replicate 8 0 ++
      padTo 8 (e.label.getD []) ++ List.replicate 10 0

/-- An attendance entry of a response (R147), with the coded presence of its station. -/
def attendanceRecord (now presence : Nat) (a : Attendance) : List Byte :=
  padTo 8 a.label ++ [byte a.station, byte (portCode a.port)] ++ be16 (satAt 65535 ((now - a.time) / 1000)) ++
    [byte presence]

/-- The outcome of a TRANSFER record in a channel snapshot (R172). -/
def outcomeBytes (o : TransferOutcome) : List Byte :=
  [byte o.result.code, byte o.result.reasonCode, byte o.floor, byte o.kind] ++ be16 o.revision ++ be16 o.delivered ++
    be16 o.missing

end Sys2Proof.Machine
end

