-- ==== Sys2Proof/Machine/Memory.lean ====
section
/-! DEFINITION. The bytes of the plan store (6.1): reading, programming and erasing, over the canonical list. -/

namespace Sys2Proof.Machine

open Sys2Proof

/-- What a byte of the flash that nothing has programmed reads as (6.1: an erased byte reads 0xFF). -/
def erasedByte : Byte := 0xFF#8

/-- The number of store offsets (6.1): 64 MiB. -/
def storeSize : Nat := 67108864

/-- The canonical form: offsets rising, inside the store, and no entry equal to an unlisted byte. -/
def Memory.wfFrom (low : Nat) : Memory → Bool
  | [] => true
  | (a, b) :: rest => decide (low ≤ a) && decide (a < storeSize) && decide (b ≠ erasedByte) && Memory.wfFrom (a + 1) rest

/-- The plan store's list is in its canonical form. -/
def Memory.wf (m : Memory) : Bool := Memory.wfFrom 0 m

/-- The byte at an offset. -/
def Memory.read (m : Memory) (a : Nat) : Byte :=
  match m with
  | [] => erasedByte
  | (k, b) :: rest => if k = a then b else if a < k then erasedByte else Memory.read rest a

/-- The store with the byte at an offset replaced; an offset outside the store is none of its bytes. -/
def Memory.write (m : Memory) (a : Nat) (v : Byte) : Memory :=
  if storeSize ≤ a then m
  else
    match m with
    | [] => if v = erasedByte then [] else [(a, v)]
    | (k, b) :: rest =>
      if k = a then (if v = erasedByte then rest else (a, v) :: rest)
      else if a < k then (if v = erasedByte then (k, b) :: rest else (a, v) :: (k, b) :: rest)
      else (k, b) :: Memory.write rest a v

/-- The `n` bytes from an offset, in order. -/
def Memory.readRange (m : Memory) (a n : Nat) : List Byte := (List.range n).map (fun i => m.read (a + i))

/-- Programming one byte: the bits that were 1 both before and in the data (R113). -/
def Memory.programByte (m : Memory) (a : Nat) (d : Byte) : Memory := m.write a (m.read a &&& d)

/-- Programming a run of bytes (R113). -/
def Memory.program (m : Memory) (a : Nat) (data : List Byte) : Memory :=
  match data with
  | [] => m
  | d :: rest => Memory.program (m.programByte a d) (a + 1) rest

/-- The first offset whose byte differs from the data (R113, VERIFY_FAIL). -/
def Memory.firstDiffering (m : Memory) (a : Nat) (data : List Byte) : Option Nat :=
  match data with
  | [] => none
  | d :: rest => if m.read a = d then Memory.firstDiffering m (a + 1) rest else some a

/-- Block `b` covers offsets 65 536 × b to 65 536 × b + 65 535 (R114). -/
def inBlock (block a : Nat) : Bool := decide (65536 * block ≤ a) && decide (a < 65536 * block + 65536)

/-- The store with every byte of a block 0xFF (R114). -/
def Memory.eraseBlock (m : Memory) (block : Nat) : Memory := m.filter (fun c => !(inBlock block c.1))

/-- The store after an interrupted write: each byte holds its value before the write or its fully programmed value
(R116), which of the two by a free value (log 4). -/
def Memory.abandonWrite (m : Memory) (draw a : Nat) (data : List Byte) : Memory :=
  match data with
  | [] => m
  | d :: rest =>
    Memory.abandonWrite (if (Config.flashResidue draw a).getLsbD 0 then m.programByte a d else m) draw (a + 1) rest

/-- The store after a write that timed out: each byte holds whatever the flash has programmed (R113), so each bit to be
cleared is cleared or not by a free value (log 4). -/
def Memory.timeoutWrite (m : Memory) (draw a : Nat) (data : List Byte) : Memory :=
  match data with
  | [] => m
  | d :: rest => Memory.timeoutWrite (m.programByte a (d ||| Config.flashResidue draw a)) draw (a + 1) rest

/-- The store after an abandoned erase: any byte of the block may still hold its old value (R116), and otherwise is
0xFF, which of the two by a free value (log 4). -/
def Memory.abandonErase (m : Memory) (draw block : Nat) : Memory :=
  m.filter (fun c => !(inBlock block c.1) || (Config.flashResidue draw c.1).getLsbD 0)

/-- The store with `n` bytes from an offset holding a free value each (log 4). -/
def Memory.residue (m : Memory) (draw a : Nat) : Nat → Memory
  | 0 => m
  | n + 1 => (Memory.residue m draw (a + 1) n).write a (Config.flashResidue draw a)

/-- The store after an erase that was not reported complete in time: what the block then holds is not stated (R114), so
each of its bytes is a free value (log 4). -/
def Memory.timeoutErase (m : Memory) (draw block : Nat) : Memory := m.residue draw (65536 * block) 65536

end Sys2Proof.Machine
end

