-- ==== Sys2Proof/Machine/Ops.lean ====
section
/-! DEFINITION. The named operations over the station's tables and blocks: one place that reads and one that writes
each of them. -/

namespace Sys2Proof.Machine

open Sys2Proof

/-! ## Tables -/

/-- The item at an index of a table, `d` beyond its end. -/
def tget {α : Type} {n : Nat} (d : α) (t : Vector α n) (i : Nat) : α := t.toList.getD i d

/-- The table with one item replaced; nothing beyond its end. -/
def tset {α : Type} {n : Nat} (t : Vector α n) (i : Nat) (x : α) : Vector α n :=
  ⟨⟨t.toList.set i x⟩, by simp⟩

/-- The table that holds `f i` at each index. -/
def tbuild {α : Type} (n : Nat) (f : Nat → α) : Vector α n := ⟨⟨(List.range n).map f⟩, by simp⟩

/-! ## Blocks of the station -/

def State.modZones (f : ZoneUnit → ZoneUnit) (s : State) : State := { s with zones := f s.zones }
def State.modPicture (f : TowerPicture → TowerPicture) (s : State) : State := { s with picture := f s.picture }
def State.modPeers (f : PeerTable → PeerTable) (s : State) : State := { s with peers := f s.peers }
def State.modHolders (f : HolderTable → HolderTable) (s : State) : State := { s with holders := f s.holders }
def State.modMarks (f : MarkCounts → MarkCounts) (s : State) : State := { s with marks := f s.marks }
def State.modRlc (f : RiserLink → RiserLink) (s : State) : State := { s with rlc := f s.rlc }
def State.modStore (f : PlanStore → PlanStore) (s : State) : State := { s with store := f s.store }
def State.modSte (f : TransferEngine → TransferEngine) (s : State) : State := { s with ste := f s.ste }

/-- The crew port named. -/
def State.port (p : Port) (s : State) : CrewPort :=
  match p with
  | .a => s.portA
  | .b => s.portB

def State.modPort (p : Port) (f : CrewPort → CrewPort) (s : State) : State :=
  match p with
  | .a => { s with portA := f s.portA }
  | .b => { s with portB := f s.portB }

/-- The Notice Controller of the port named. -/
def State.notices (p : Port) (s : State) : NoticeController :=
  match p with
  | .a => s.noticesA
  | .b => s.noticesB

def State.modNotices (p : Port) (f : NoticeController → NoticeController) (s : State) : State :=
  match p with
  | .a => { s with noticesA := f s.noticesA }
  | .b => { s with noticesB := f s.noticesB }

/-! ## Addresses -/

/-- A valid station address (0.7). -/
def validAddress (a : Nat) : Bool := decide (1 ≤ a) && decide (a ≤ 62)

/-- The origin that names the own row (R25): the strapped address, or 0 when it is 0 or 63. -/
def State.ownOrigin (s : State) : Nat := if validAddress s.address then s.address else 0

/-! ## Lines, entries, floors, peers -/

def State.line (i : Nat) (s : State) : LineRecord := tget LineRecord.atReset s.zones.lines i

def State.setLine (i : Nat) (l : LineRecord) (s : State) : State :=
  s.modZones fun z => { z with lines := tset z.lines i l }

/-- A line is enabled once the configuration is taken and its type is not UNUSED (R1). -/
def State.lineEnabled (i : Nat) (s : State) : Bool := s.zones.configTaken && decide ((s.line i).ztype ≠ .unused)

/-- Where the entry (origin, line) stands (R25). -/
def entryIndex (origin line : Nat) : Nat := 16 * origin + line

def State.entry (origin line : Nat) (s : State) : ZoneEntry :=
  tget ZoneEntry.empty s.picture.entries (entryIndex origin line)

def State.setEntry (origin line : Nat) (e : ZoneEntry) (s : State) : State :=
  s.modPicture fun p => { p with entries := tset p.entries (entryIndex origin line) e }

def State.floor (f : Nat) (s : State) : FloorSummary := tget FloorSummary.atReset s.picture.floors f

def State.setFloor (f : Nat) (x : FloorSummary) (s : State) : State :=
  s.modPicture fun p => { p with floors := tset p.floors f x }

def State.peer (a : Nat) (s : State) : PeerRecord := tget PeerRecord.atReset s.peers.records a

def State.setPeer (a : Nat) (r : PeerRecord) (s : State) : State :=
  s.modPeers fun t => { t with records := tset t.records a r }

/-- An address of which the Peer Table holds a record (R49). -/
def State.isPeer (a : Nat) (s : State) : Bool := validAddress a && decide (a ≠ s.address)

def State.holderRow (f : Nat) (s : State) : HolderRow := tget { owner := none, replicas := [] } s.holders.rows f

/-! ## Channels and tile buffers -/

def State.channel (c : Nat) (s : State) : Channel := tget Channel.freed s.ste.channels c

def State.setChannel (c : Nat) (k : Channel) (s : State) : State :=
  s.modSte fun e => { e with channels := tset e.channels c k }

def State.modChannel (c : Nat) (f : Channel → Channel) (s : State) : State := s.setChannel c (f (s.channel c))

def State.buffer (b : Nat) (s : State) : TileBuffer := tget { holder := none, state := .empty } s.ste.buffers b

def State.setBuffer (b : Nat) (x : TileBuffer) (s : State) : State :=
  s.modSte fun e => { e with buffers := tset e.buffers b x }

/-- The buffers that satisfy a condition, lowest number first. -/
def State.buffersWhere (f : TileBuffer → Bool) (s : State) : List Nat :=
  (List.range 16).filter fun b => f (s.buffer b)

/-- How many buffers a channel holds (R120). -/
def State.heldBy (c : Nat) (s : State) : Nat := (s.buffersWhere fun x => x.holder == some c).length

/-- How many buffers are free in the pool (R120). -/
def State.freeBuffers (s : State) : Nat := (s.buffersWhere fun x => x.holder == none).length

/-- The empty buffers a channel holds. -/
def State.emptyBuffers (c : Nat) (s : State) : List Nat :=
  s.buffersWhere fun x => x.holder == some c && x.state == .empty

/-- The buffer of a channel that holds a tile full, with its data. -/
def State.fullBuffer (c tile : Nat) (s : State) : Option (Nat × List Byte) :=
  (List.range 16).findSome? fun b =>
    if (s.buffer b).holder = some c then
      match (s.buffer b).state with
      | .full t d => if t = tile then some (b, d) else none
      | _ => none
    else none

def State.countTransfers (f : TransferCounters → TransferCounters) (s : State) : State :=
  s.modSte fun e => { e with counters := f e.counters }

def State.countLink (f : LinkCounters → LinkCounters) (s : State) : State :=
  s.modRlc fun r => { r with counters := f r.counters }

/-! ## Timers -/

/-- A running timer has reached its length (0.7, Time; R7). -/
def timerDue (now length : Nat) (t : Option Nat) : Bool :=
  match t with
  | none => false
  | some start => decide (length ≤ now - start)

/-- The last value of the station clock, a 48-bit count (R179). -/
def clockLimit : Nat := 2 ^ 48 - 1

/-- A millisecond passes (R179): the clock counts while the reset pin is released, and stays at its limit (log 22). -/
def tick (s : State) : State := if s.held then s else { s with clock := satNext clockLimit s.clock }

/-- The moments from `start` in whole seconds, saturating at 65535 (R29, R45, R155). -/
def secondsSince (now start : Nat) : Nat := satAt 65535 ((now - start) / 1000)

end Sys2Proof.Machine
end

