-- ==== Sys2Proof/Machine/Flags.lean ====
section
/-! DEFINITION. The flags: the transmit block set and the station condition drawn from it, the error flag byte, the
block byte, and the reports built from them (R97, R102, R147, R184). -/

namespace Sys2Proof.Machine

open Sys2Proof

/-- Whether a block is present (R97). -/
def Blocks.has (x : Blocks) : Block → Bool
  | .join => x.join
  | .address => x.address
  | .maintenance => x.maintenance
  | .duplicate => x.duplicate
  | .babble => x.babble
  | .line => x.line
  | .silenced => x.silenced

/-- The block set with one block present or absent. -/
def Blocks.put (x : Blocks) (b : Block) (v : Bool) : Blocks :=
  match b with
  | .join => { x with join := v }
  | .address => { x with address := v }
  | .maintenance => { x with maintenance := v }
  | .duplicate => { x with duplicate := v }
  | .babble => { x with babble := v }
  | .line => { x with line := v }
  | .silenced => { x with silenced := v }

/-- Some transmit block is present (R97). -/
def Blocks.any (x : Blocks) : Bool :=
  x.join || x.address || x.maintenance || x.duplicate || x.babble || x.line || x.silenced

/-- A block other than JOIN is present. -/
def Blocks.otherThanJoin (x : Blocks) : Bool :=
  x.address || x.maintenance || x.duplicate || x.babble || x.line || x.silenced

/-- The station condition the block set gives from the start of the join listen (R102). -/
def Blocks.condition (x : Blocks) : Condition :=
  if x.maintenance then .maintenance
  else if x.join && !x.otherThanJoin then .joining
  else if x.any then .listenOnly
  else .operating

/-- The blocks-present byte of STATUS: bit n − 1 for block code n (R147). -/
def Blocks.bits (x : Blocks) : Nat :=
  bit 0 x.join + bit 1 x.address + bit 2 x.maintenance + bit 3 x.duplicate + bit 4 x.babble + bit 5 x.line +
    bit 6 x.silenced

/-- The station condition (R184): STARTING until sampling ready, then as the block set gives it. -/
def State.condition (s : State) : Condition := if s.starting then .starting else s.rlc.blocks.condition

/-- The flag byte of STATUS part 1 (R147). -/
def statusFlags (f : ErrorFlags) (lost : Bool) : Nat :=
  bit 0 f.framing + bit 1 f.overrun + bit 2 f.badCheck + bit 3 f.tooLong + bit 4 f.breakSeen + bit 5 lost

/-- The presence of an address as the entry record codes it: 0 for this station, 1 UNKNOWN, 2 PRESENT, 3 LOST. -/
def State.presenceCode (a : Nat) (s : State) : Nat :=
  if a = s.ownOrigin ∨ a = s.address then 0 else (s.peer a).presence.code

/-- The link counter of one of the receiver's discards goes up (R93, R96). -/
def LinkCounters.fault (k : LinkCounters) : ReceiveFault → LinkCounters
  | .badStart => { k with badStart := countUp k.badStart }
  | .framing => { k with framingError := countUp k.framingError }
  | .badLength => { k with badLength := countUp k.badLength }
  | .truncated => { k with truncated := countUp k.truncated }
  | .badCrc => { k with badCrc := countUp k.badCrc }
  | .unknownKind => { k with unknownKind := countUp k.unknownKind }

/-- The last origin of a class (R78). -/
def LastOrigins.get (o : LastOrigins) : AccessClass → Nat
  | .alarm => o.alarm
  | .control => o.control
  | .bulk => o.bulk
  | .routine => o.routine

def LastOrigins.set (o : LastOrigins) (k : AccessClass) (a : Nat) : LastOrigins :=
  match k with
  | .alarm => { o with alarm := a }
  | .control => { o with control := a }
  | .bulk => { o with bulk := a }
  | .routine => { o with routine := a }

end Sys2Proof.Machine
end

