-- ==== Sys2Proof/Machine/PlanStore.lean ====
section
/-! DEFINITION. The Plan Store Interface (chapter 6): the lookup, the reading of header and directory, the store reader's
lists and arbiter, and the maintenance operations. -/

namespace Sys2Proof.Machine

open Sys2Proof

/-! ## The Sheet Directory (6.2) -/

/-- The lookup of floor, kind and revision, 0 meaning any (R107): the OWNER record of those that fit, otherwise the
REPLICA record. -/
def lookupSheet (sheets : List SheetRecord) (floor kind revision : Nat) : Option SheetRecord :=
  let fit := sheets.filter fun r =>
    decide (r.floor = floor) && decide (r.kind = kind) && (decide (revision = 0) || decide (r.revision = revision))
  match fit.find? (fun r => r.role == .owner) with
  | some r => some r
  | none => fit.head?

/-- The lookup in the Sheet Directory as fixed at the store-ready event (R106, R107). -/
def State.lookup (floor kind revision : Nat) (s : State) : Option SheetRecord :=
  lookupSheet s.store.sheets floor kind revision

/-- The header image of a reading, kept from a good header only; `none` for a failed read (R103, R104). -/
def scanHeader (bytes : Option (List Byte)) : Option HeaderImage :=
  bytes.bind fun h => if headerGood h then some (headerImageOf h) else none

/-- An empty slot: its 37 bytes are all 0xFF (6.1). -/
def slotEmpty (l : List Byte) : Bool := (l.take 37).all (· == 0xFF#8)

/-- The stored CRC of a slot equals the one computed over offsets 0 to 34 (R105, check 2). -/
def slotCheckGood (l : List Byte) : Bool := decide ((crc16 (l.take 35)).toNat = halfAt l 35)

/-- A record's role fits the floors of a header image, of which there are none without one (R105, check 4). -/
def recordFits (image : Option HeaderImage) (r : SheetRecord) : Bool :=
  match image with
  | none => false
  | some h =>
    match r.role with
    | .owner => covers h.firstFloor h.floorCount r.floor
    | .replica => h.replicas.contains r.floor

/-- An accepted record of an earlier slot has the same floor, kind and role (R105, check 5). -/
def duplicates (records : List SheetRecord) (r : SheetRecord) : Bool :=
  records.any fun q => decide (q.floor = r.floor) && decide (q.kind = r.kind) && decide (q.role = r.role)

/-- One slot dealt with: the first check that fails decides its fate (R105). `none` is a failed read. -/
def StoreScan.takeSlot (bytes : Option (List Byte)) (x : StoreScan) : StoreScan :=
  match bytes with
  | none => { x with counts := { x.counts with badCheck := x.counts.badCheck + 1 } }
  | some l =>
    if slotEmpty l then x
    else if !slotCheckGood l then { x with counts := { x.counts with badCheck := x.counts.badCheck + 1 } }
    else if !slotInRange l then { x with counts := { x.counts with outOfRange := x.counts.outOfRange + 1 } }
    else if !recordFits x.header (sheetRecordOf l) then
      { x with counts := { x.counts with beyond := x.counts.beyond + 1 } }
    else if duplicates x.records (sheetRecordOf l) then
      { x with counts := { x.counts with duplicate := x.counts.duplicate + 1 } }
    else
      { x with
        records := x.records ++ [sheetRecordOf l]
        counts := { x.counts with accepted := x.counts.accepted + 1 } }

/-- One of the 97 reads dealt with: of the header (`none`) or of a slot. -/
def StoreScan.takeRead (slot : Option Nat) (bytes : Option (List Byte)) (x : StoreScan) : StoreScan :=
  match slot with
  | none => { x with header := scanHeader bytes }
  | some _ => x.takeSlot bytes

/-- The bytes of one of the 97 reads as the store now stands: header bytes 0 to 206, or the 40 bytes of a slot (R103). -/
def scanBytes (m : Memory) (slot : Option Nat) : List Byte :=
  match slot with
  | none => m.readRange 0 headerLength
  | some n => m.readRange (slotOffset n) 40

/-- The read that follows one of the 97 reads: slot 0 after the header, slot 95 last (R103). -/
def nextRead (slot : Option Nat) : Option Nat :=
  match slot with
  | none => some 0
  | some n => if n < 95 then some (n + 1) else none

/-- The time one of the 97 reads, and a tile read, is given (R103, R110). -/
def readLimit : Nat := 1

/-- An access that began at `begun` has been given no more than its time when the flash completes it (R103, R110, R113, R114;
log 11). -/
def inTime (limit begun now : Nat) : Bool := decide (now - begun ≤ limit)

/-- What one of the 97 reads gives when the flash completes it: its bytes, or none past its 1 ms, a failed read (R103). -/
def State.scanRead (slot : Option Nat) (begun : Nat) (s : State) : Option (List Byte) :=
  if inTime readLimit begun s.clock then some (scanBytes s.store.memory slot) else none

/-! ## The store reader (6.3) -/

/-- The requests of a channel that the reader has not begun, oldest first (R108). -/
def State.readList (c : Nat) (s : State) : List TileRead := tget [] s.store.lists c

def State.setReadList (c : Nat) (l : List TileRead) (s : State) : State :=
  s.modStore fun p => { p with lists := tset p.lists c l }

/-- A channel places a tile read request with one of its empty buffers (R108), which is then reading (R120). -/
def placeRead (c tile buffer : Nat) (record : SheetRecord) (s : State) : State :=
  (s.setReadList c (s.readList c ++ [{ channel := c, record := record, tile := tile, buffer := buffer }])).setBuffer buffer
    { s.buffer buffer with state := .reading tile }

/-- The buffer of a request withdrawn before it has begun is empty again. -/
def emptyRead (s : State) (r : TileRead) : State := s.setBuffer r.buffer { s.buffer r.buffer with state := .empty }

/-- A read in progress of a channel that withdraws its requests goes on, its result to be discarded (R111). -/
def FlashAccess.withdraw (c : Nat) : FlashAccess → FlashAccess
  | .tile r begun w => .tile r begun (w || decide (r.channel = c))
  | a => a

/-- A channel withdraws its read requests (R108, R111). -/
def withdrawReads (c : Nat) (s : State) : State :=
  let s1 := (s.readList c).foldl emptyRead s
  (s1.setReadList c []).modStore fun p => { p with access := p.access.withdraw c }

/-- The order in which a rotation that names channel `r` looks at the channels (R109, R91, R159). -/
def rotationOrder (r : Nat) : List Nat := (List.range 6).map fun k => (r + 1 + k) % 6

/-- The access begun for a maintenance operation (R109). -/
def MaintOp.begin (now : Nat) (discard : Bool) : MaintOp → FlashAccess
  | .write offset data => .write offset data now discard
  | .erase block => .erase block now discard
  | .check => .check none default now discard

/-- What the arbiter takes next when the store is free (R109): the waiting maintenance operation, otherwise the oldest
request of the next channel in rotation. -/
inductive NextAccess where
  | nothing
  | maintenance (op : MaintOp) (discard : Bool)
  | tile (read : TileRead)
  deriving DecidableEq, Repr

def PlanStore.next (p : PlanStore) : NextAccess :=
  match p.waiting with
  | some (op, discard) => .maintenance op discard
  | none =>
    match (rotationOrder p.rotation).findSome? (fun c => (tget [] p.lists c).head?) with
    | none => .nothing
    | some r => .tile r

/-- The store is free (R109). -/
def PlanStore.isFree (p : PlanStore) : Bool :=
  match p.access with
  | .free => true
  | _ => false

/-- The reader takes a request from its list, and the rotation names its channel (R109). -/
def PlanStore.take (r : TileRead) (p : PlanStore) : PlanStore :=
  { p with lists := tset p.lists r.channel ((tget [] p.lists r.channel).drop 1), rotation := r.channel }

/-- The store begins an access for what its arbiter takes (R109, R110). -/
def PlanStore.start (now : Nat) (n : NextAccess) (p : PlanStore) : PlanStore :=
  match n with
  | .nothing => p
  | .maintenance op discard => { p with waiting := none, access := op.begin now discard }
  | .tile r => { p.take r with access := .tile r now false }

/-- The store begins its next access, when it is free and that access uses the flash (R109, R110). -/
def beginAccess (s : State) : State :=
  if s.store.isFree then
    match s.store.next with
    | .tile r => if r.tile < r.record.tileCount then s.modStore (PlanStore.start s.clock (.tile r)) else s
    | n => s.modStore (PlanStore.start s.clock n)
  else s

/-- The offset from which a tile is read (R110). -/
def TileRead.offset (r : TileRead) : Nat := r.record.location + 258 * r.tile

/-- The data of a tile whose computed CRC equals the stored one (R110). -/
def tileData (bytes : List Byte) : Option (List Byte) :=
  if (crc16 (bytes.take 256)).toNat = halfAt bytes 256 then some (bytes.take 256) else none

/-! ## Maintenance operations (6.4) -/

/-- A maintenance operation is waiting or in progress (R112). -/
def PlanStore.maintBusy (p : PlanStore) : Bool :=
  p.waiting.isSome ||
    match p.access with
    | .write _ _ _ _ => true
    | .erase _ _ _ => true
    | .check _ _ _ _ => true
    | .free => false
    | .startup _ _ _ => false
    | .tile _ _ _ => false

/-- The time a write and its read-back are given (R113). -/
def writeLimit : Nat := 5

/-- The time an erase is given (R114). -/
def eraseLimit : Nat := 2000

/-- A STORE WRITE fails the RANGE conditions of R113. -/
def writeOutOfRange (offset length : Nat) : Bool :=
  decide (length = 0) || decide (256 < length) || decide (storeSize < offset + length) ||
    decide (256 < offset % 256 + length)

/-- The response of an operation whose port has been reset is discarded (R112). -/
def FlashAccess.discardResponse : FlashAccess → FlashAccess
  | .write o d b _ => .write o d b true
  | .erase k b _ => .erase k b true
  | .check n x b _ => .check n x b true
  | a => a

def PlanStore.discardResponses (p : PlanStore) : PlanStore :=
  { p with access := p.access.discardResponse, waiting := p.waiting.map fun w => (w.1, true) }

/-- The flash as an access interrupted by a reset leaves it (R116), by the free value of one draw. -/
def PlanStore.abandoned (draw : Nat) (p : PlanStore) : Memory :=
  match p.access with
  | .write offset data _ _ => p.memory.abandonWrite draw offset data
  | .erase block _ _ => p.memory.abandonErase draw block
  | .free => p.memory
  | .startup _ _ _ => p.memory
  | .tile _ _ _ => p.memory
  | .check _ _ _ _ => p.memory

end Sys2Proof.Machine
end

