-- ==== Sys2Proof/Machine/Control.lean ====
section
/-! DEFINITION. The RLC's transmit holdings and its access (5.3 to 5.5): the CONTROL queue, the BULK rotation, the
start moments, and the building of the frames. -/

namespace Sys2Proof.Machine

open Sys2Proof

/-! ## The CONTROL queue (R90) -/

/-- The answers to a submission (R90). -/
inductive Answer where
  | queued
  | queueFull
  | noPath
  deriving DecidableEq, Repr, Inhabited

/-- The most entries the CONTROL queue holds (R90). -/
def controlLimit : Nat := 8

/-- The RLC's answer to a submission (R90). -/
def RiserLink.answer (r : RiserLink) : Answer :=
  if r.blocks.any then .noPath else if controlLimit ≤ r.control.length then .queueFull else .queued

/-- A submission to the CONTROL queue: its entry joins at the tail when the answer is queued (R90). -/
def RiserLink.submit (kind : FrameKind) (dest : Nat) (payload : List Byte) (who : Submitter) (r : RiserLink) : RiserLink :=
  match r.answer with
  | .queued =>
    { r with
      control := r.control ++ [{ kind := kind, dest := dest, payload := payload, submitter := who, withdrawn := false }] }
  | .queueFull => r
  | .noPath => r

/-- The transmission in progress is of the head of the CONTROL queue. -/
def RiserLink.sendingHead (r : RiserLink) : Bool :=
  match r.tx with
  | none => false
  | some t => t.source == .control

/-- An entry is a SHEET REQUEST of a channel. -/
def ControlEntry.isRequestOf (c : Nat) (e : ControlEntry) : Bool :=
  match e.submitter with
  | .request k _ => k == c
  | .mark => false
  | .refuse => false
  | .cancel => false

/-- A channel's SHEET REQUESTs leave the queue; one at the head whose transmission is in progress stays until that attempt
ends, marked withdrawn (R90). -/
def RiserLink.withdrawRequests (c : Nat) (r : RiserLink) : RiserLink :=
  { r with
    control :=
      match r.control with
      | [] => []
      | h :: rest =>
        (if h.isRequestOf c then (if r.sendingHead then [{ h with withdrawn := true }] else []) else [h]) ++
          rest.filter (fun e => !e.isRequestOf c) }

def withdrawRequest (c : Nat) (s : State) : State := s.modRlc (RiserLink.withdrawRequests c)

/-- One more of the STE's submissions was refused or discarded (R143). -/
def TransferCounters.notSent (k : TransferCounters) : TransferCounters :=
  { k with controlNotSent := countUp k.controlNotSent }

/-- One more of the Mark Handler's submissions was refused or discarded (R63). -/
def MarkCounts.oneNotSent (m : MarkCounts) : MarkCounts := { m with notSent := countUp m.notSent }

/-- The Mark Handler submits a MARK; a refused submission is counted (R63, R65, R71). -/
def submitMark (payload : List Byte) (s : State) : State :=
  let s1 := if s.rlc.answer = .queued then s else s.modMarks MarkCounts.oneNotSent
  s1.modRlc (RiserLink.submit .mark 63 payload .mark)

/-- The STE submits a SHEET REQUEST, REFUSE or CANCEL; a refused submission is counted (R143). -/
def submitSheet (kind : FrameKind) (dest : Nat) (payload : List Byte) (who : Submitter) (s : State) : State :=
  let s1 := if s.rlc.answer = .queued then s else s.countTransfers TransferCounters.notSent
  s1.modRlc (RiserLink.submit kind dest payload who)

/-! ## Contention (R79 to R81, R89, R91) -/

/-- The base of a class in µs (R80). -/
def AccessClass.base : AccessClass → Nat
  | .alarm => 0
  | .control => 500
  | .bulk => 1000
  | .routine => 1500

/-- A station's slot in a class: its address minus the last origin minus 1, modulo 62 (R79). -/
def slotOf (address lastOrigin : Nat) : Nat := (address + 123 - lastOrigin) % 62

/-- A station's start moment in a class, in µs from the beginning of the round (R80). -/
def RiserLink.startMoment (address : Nat) (k : AccessClass) (r : RiserLink) : Nat :=
  k.base + 8 * slotOf address (r.lastOrigins.get k)

/-- A channel offers a tile: it is in SERVE and holds the next tile of its window full (R91, R140). -/
def State.offersTile (c : Nat) (s : State) : Bool :=
  decide ((s.channel c).state = .serve) && (s.fullBuffer c (s.channel c).nextTile).isSome

/-- The channel a BULK frame would be taken from: the first offering one after the channel last served (R91). -/
def State.bulkChoice (s : State) : Option Nat := (rotationOrder s.rlc.bulkRotation).find? fun c => s.offersTile c

/-- The class of the highest pending holding (R81), under the order of R89 until the first DIRECTORY and the first ZONE
STATE have been sent. -/
def State.contends (s : State) : Option AccessClass :=
  let r := s.rlc
  if !r.directorySent then (if r.directoryMark then some .routine else none)
  else if !r.zoneStateSent then some (if r.alarmPending then .alarm else .routine)
  else if r.alarmPending then some .alarm
  else if r.control ≠ [] then some .control
  else if s.bulkChoice.isSome then some .bulk
  else if r.directoryMark || r.refreshMark then some .routine
  else none

/-! ## Building the frames (R30, R56, R77, R140) -/

/-- A frame of the station's own: origin the strapped address (R77). -/
def State.ownFrame (s : State) (kind : FrameKind) (dest : Nat) (payload : List Byte) : Frame :=
  { kind := kind, origin := s.address, dest := dest, payload := payload }

/-- The payload of a ZONE STATE as the own row stands (R30). -/
def State.zoneStatePayload (s : State) : List Byte :=
  ((List.range 16).map fun l => (ownZoneRecord s.clock l (s.entry s.ownOrigin l)).bytes).flatten

/-- The own holdings, empty before they are taken. -/
def State.ownHoldings (s : State) : OwnHoldings :=
  s.holders.own.getD { firstFloor := 0, floorCount := 0, owned := [], replicas := [] }

/-- The own floor labels from the header image (R56, R106). -/
def State.ownFloorLabels (s : State) : List Text :=
  match s.store.image with
  | none => []
  | some h => h.floorLabels

/-- The labels of the own entries (R56). -/
def State.ownZoneLabels (s : State) : List Text := (List.range 16).map fun l => ((s.entry s.ownOrigin l).label).getD []

/-- The payload of a DIRECTORY as the station stands (R56). -/
def State.directoryFrame (s : State) : List Byte :=
  directoryPayload s.condition s.noConfig s.ownHoldings s.ownFloorLabels s.ownZoneLabels

/-- A transmission is started (R77, R92): it notes the ALARM mark as it stands (R87). -/
def beginTransmission (source : TxSource) (frame : Option Frame) (more : Bool) (s : State) : State :=
  s.modRlc fun r =>
    { r with
      tx := some { source := source, frame := frame, start := s.clock, alarmAtStart := r.alarmPending,
                   raisedSince := false, moreFollows := more, serviceLive := true }
      phase := .quiet
      burst := none }

/-- The requester a serving channel serves, with its tag (7.1). -/
def Channel.requester (k : Channel) : Nat × Nat :=
  match k.owner with
  | .peer a t => (a, t)
  | .nobody => (0, 0)
  | .port _ => (0, 0)

/-- The more-follows flag a serving channel gives: BURST, below the window last, and the next tile already full (R140). -/
def State.moreFollows (c : Nat) (s : State) : Bool :=
  let k := s.channel c
  k.burstMode && (match k.window with | none => false | some w => decide (k.nextTile < w.2)) &&
    (s.fullBuffer c (k.nextTile + 1)).isSome

/-- The SHEET TILE frame of a serving channel's next tile (R140). -/
def State.tileFrame (c : Nat) (data : List Byte) (s : State) : Frame :=
  let k := s.channel c
  let w := k.window.getD (0, 0)
  let r := k.record
  s.ownFrame .sheetTile k.requester.1
    (sheetTilePayload k.requester.2 k.floor k.kind ((r.map (·.revision)).getD 0) k.nextTile
      ((r.map (·.tileCount)).getD 0) w.1 w.2 (s.moreFollows c) data)

/-- A SHEET TILE frame of a serving channel begins, when it offers a tile (R84, R91). -/
def beginTile (c : Nat) (s : State) : State :=
  match s.fullBuffer c (s.channel c).nextTile with
  | none => s
  | some (b, data) => beginTransmission (.tile c b) (some (s.tileFrame c data)) (s.moreFollows c) s

/-- A ZONE STATE frame of a class begins (R30, R87, R88). -/
def beginZoneState (kind : FrameKind) (s : State) : State :=
  beginTransmission .zoneState (some (s.ownFrame kind 63 s.zoneStatePayload)) false s

/-- A DIRECTORY begins (R56, R88). -/
def beginDirectory (s : State) : State :=
  beginTransmission .directory (some (s.ownFrame .directory 63 s.directoryFrame)) false s

/-- The head of the CONTROL queue begins (R90). -/
def beginControl (s : State) : State :=
  match s.rlc.control with
  | [] => s
  | h :: _ => beginTransmission .control (some (s.ownFrame h.kind h.dest h.payload)) false s

/-- The station begins the frame of a class (R77, R81, R88, R89, R91). -/
def beginClass (k : AccessClass) (s : State) : State :=
  match k with
  | .alarm => beginZoneState .zoneStateAlarm s
  | .control => beginControl s
  | .bulk =>
    match s.bulkChoice with
    | none => s
    | some c => beginTile c s
  | .routine =>
    if s.rlc.directoryMark && (!s.rlc.directorySent || s.rlc.zoneStateSent) then beginDirectory s
    else beginZoneState .zoneStateRoutine s

end Sys2Proof.Machine
end

