-- ==== Sys2Proof/Machine/Notices.lean ====
section
/-! DEFINITION. The Notice Controllers (chapter 9): sources, queue, selection, seeding and watched floors. -/

namespace Sys2Proof.Machine

open Sys2Proof

/-! ## The queue (9.3) -/

/-- The queue's record of a key. -/
def NoticeController.find (n : NoticeController) (k : NoticeKey) : Option Notice := n.queue.find? (fun r => r.key == k)

/-- A record is in service while its key stands in the stack (R170). -/
def NoticeController.inService (n : NoticeController) (k : NoticeKey) : Bool := n.stack.contains k

/-- The greatest level among some records. -/
def greatestLevel (l : List Notice) : Nat := l.foldl (fun m r => max m r.key.level) 0

/-- The record R169 evicts for a new record of a level: of the records not in service below it, the newest of the
greatest level. -/
def NoticeController.victim (n : NoticeController) (level : Nat) : Option Notice :=
  let below := n.queue.filter (fun r => !n.inService r.key && decide (level < r.key.level))
  (below.filter (fun r => r.key.level == greatestLevel below)).getLast?

/-- The queue without the record of a key. -/
def NoticeController.drop (n : NoticeController) (k : NoticeKey) : NoticeController :=
  { n with queue := n.queue.filter (fun r => !(r.key == k)) }

/-- The most records a queue holds (R168). -/
def queueLimit : Nat := 32

/-- Refreshing the queue's record of a key (R168). A record in service keeps its place; another moves to the newest
end. -/
def NoticeController.refresh (n : NoticeController) (now : Nat) (old : Notice) (detail : Nat)
    (outcome : Option TransferOutcome) : NoticeController :=
  let r : Notice :=
    { key := old.key, time := now, events := satNext 255 old.events, detail := detail, outcome := outcome }
  if n.inService old.key then { n with queue := n.queue.map (fun x => if x.key = old.key then r else x) }
  else { n with queue := (n.drop old.key).queue ++ [r] }

/-- A new record joining the newest end, with room made by eviction when the queue is full, or dropped with
NOTICE_LOST (R168, R169). -/
def NoticeController.add (n : NoticeController) (r : Notice) : NoticeController :=
  if n.queue.length < queueLimit then { n with queue := n.queue ++ [r] }
  else
    match n.victim r.key.level with
    | none => { n with lost := true }
    | some v => { n with queue := (n.drop v.key).queue ++ [r] }

/-- Queuing a record of a level for a subject (R168). -/
def NoticeController.post (n : NoticeController) (now level : Nat) (subject : Subject) (detail : Nat)
    (outcome : Option TransferOutcome) : NoticeController :=
  let k : NoticeKey := { level := level, subject := subject }
  match n.find k with
  | some old => n.refresh now old detail outcome
  | none => n.add { key := k, time := now, events := 1, detail := detail, outcome := outcome }

/-- The removal of a record that is queued and not in service (R176, R177, R178). -/
def NoticeController.dropWaiting (n : NoticeController) (k : NoticeKey) : NoticeController :=
  if n.inService k then n else n.drop k

/-- The key of the WATCH record of a floor. -/
def watchKey (f : Nat) : NoticeKey := { level := 5, subject := .floor f }

/-! ## Selection (R170) -/

/-- A level is masked. -/
def NoticeController.masked (n : NoticeController) (level : Nat) : Bool := n.mask.getLsbD level

/-- The least level among some records, 8 when there is none. -/
def leastLevel (l : List Notice) : Nat := l.foldl (fun m r => min m r.key.level) 8

/-- The best of the waiting records: the lowest unmasked level, and within it the oldest. -/
def NoticeController.best (n : NoticeController) : Option Notice :=
  let waiting := n.queue.filter (fun r => !n.inService r.key && !n.masked r.key.level)
  waiting.find? (fun r => r.key.level == leastLevel waiting)

/-- Selection: the best record enters service when the stack is empty or its level is lower than the top's. -/
def NoticeController.select (n : NoticeController) : NoticeController :=
  match n.best with
  | none => n
  | some r =>
    let enters := match n.stack.getLast? with
      | none => true
      | some top => decide (r.key.level < top.level)
    if enters then { n with stack := n.stack ++ [r.key], due := n.due ++ [r.key] } else n

/-- Selection runs at the end of each event that changed the queue, the stack or the mask. -/
def NoticeController.selectAfter (before n : NoticeController) : NoticeController :=
  if before.queue = n.queue ∧ before.stack = n.stack ∧ before.mask = n.mask then n else n.select

/-! ## Sources (9.2) -/

/-- The four tests of an entry-change signal, in ascending level (R165). An EMPTY old copy counts as in no state and with
no flag set. -/
def NoticeController.takeEntry (n : NoticeController) (now origin line : Nat) (old new : ZoneEntry) : NoticeController :=
  let zone : Subject := .zone origin line
  let wasIn := fun z => old.known && decide (old.zstate = z)
  let isIn := fun z => new.known && decide (new.zstate = z)
  let n1 := if new.ztype.isFire && isIn .alarm && !wasIn .alarm then n.post now 0 zone 0 none else n
  let n2 :=
    if (new.known && new.recurring) && !(old.known && old.recurring) then n1.post now 2 zone new.repeatCount none else n1
  let n3 :=
    if (new.known && new.lineLost) && !(old.known && old.lineLost) then n2.post now 3 zone (troubleCode new.trouble) none
    else n2
  if new.ztype == .valve && isIn .alarm && !wasIn .alarm then n3.post now 6 zone 1 none
  else if isIn .trouble && !wasIn .trouble then n3.post now 6 zone 2 none
  else n3

/-- The nearest other floor within ±2 of floor `f` that satisfies a test, the lower of two at equal distance (R166). -/
def nearestWithin2 (f : Nat) (test : Nat → Bool) : Option Nat :=
  ((if 1 ≤ f then [f - 1] else []) ++ (if f + 1 ≤ 255 then [f + 1] else []) ++ (if 2 ≤ f then [f - 2] else []) ++
    (if f + 2 ≤ 255 then [f + 2] else [])).find? test

/-- The latch a summary gives (R176). -/
def latchOf (x : FloorSummary) : Latch := { counts := x.counts, attendance := x.attendance.length }

/-- The latch of a watched floor. -/
def NoticeController.latch (n : NoticeController) (f : Nat) : Option Latch := (n.watch.find? (fun w => w.1 == f)).map (·.2)

/-- The SPREAD test and then the WATCH comparison of a summary-change signal (R166, R177). `fireAt` reads the worsts of
the picture as it stands at the signal. -/
def NoticeController.takeSummary (n : NoticeController) (now f : Nat) (old new : FloorSummary) (fireAt : Nat → Bool) :
    NoticeController :=
  let n1 :=
    if old.counts.worst ≠ .fire ∧ new.counts.worst = .fire then
      match nearestWithin2 f fireAt with
      | none => n
      | some g => n.post now 1 (.floor f) g none
    else n
  match n1.latch f with
  | none => n1
  | some l => if latchOf new = l then n1.dropWaiting (watchKey f) else n1.post now 5 (.floor f) 0 none

/-- A STATION event: detail 1 for lost, 2 for back (R167). -/
def NoticeController.takeStation (n : NoticeController) (now station : Nat) (back : Bool) : NoticeController :=
  n.post now 4 (.station station) (if back then 2 else 1) none

/-- A SUPERVISORY event for a block (R167). -/
def NoticeController.takeBlock (n : NoticeController) (now : Nat) (b : Block) : NoticeController :=
  n.post now 6 (.block b) 0 none

/-- A TRANSFER event (R167). -/
def NoticeController.takeTransfer (n : NoticeController) (now channel : Nat) (o : TransferOutcome) : NoticeController :=
  n.post now 7 (.channel channel) 0 (some o)

/-- A controller takes an event; it queues nothing and loses nothing while its port is DETACHED (R163). -/
def State.notify (p : Port) (f : NoticeController → NoticeController) (s : State) : State :=
  if (s.port p).attached then s.modNotices p f else s

/-- Both controllers take an event. -/
def State.notifyBoth (f : NoticeController → NoticeController) (s : State) : State := (s.notify .a f).notify .b f

/-! ## Detachment, seeding, requests (9.4 to 9.7) -/

/-- The detached values: NOTICE_LOST is kept (R163). -/
def NoticeController.detached (n : NoticeController) : NoticeController := { NoticeController.atReset with lost := n.lost }

/-- One alarm of the seed: its age, and the zone. -/
structure SeedAlarm where
  age : Nat
  origin : Nat
  line : Nat
  deriving DecidableEq, Repr

/-- Insertion into a list by age, greatest first; an equal age keeps the order of the picture. -/
def insertByAge (x : SeedAlarm) : List SeedAlarm → List SeedAlarm
  | [] => [x]
  | y :: rest => if x.age < y.age then y :: insertByAge x rest else x :: y :: rest

/-- The alarms of the seed, in order of age, greatest first, then of origin and line (R175). -/
def State.seedAlarms (s : State) : List SeedAlarm :=
  let alarm := fun (x : ZoneEntry × Nat) =>
    if x.1.known && x.1.ztype.isFire && x.1.zstate == .alarm then
      some { age := (x.1.alarmAge s.clock).getD 0, origin := x.2 / 16, line := x.2 % 16 : SeedAlarm }
    else none
  (s.picture.entries.toList.zipIdx.filterMap alarm).foldr insertByAge []

/-- The seed of a first ATTACH: a FIRE record for each alarm, up to 32 (R175). -/
def NoticeController.seed (n : NoticeController) (now : Nat) (alarms : List SeedAlarm) : NoticeController :=
  (alarms.take queueLimit).foldl (fun m x => m.post now 0 (.zone x.origin x.line) 0 none) n

/-- MASK takes bits 4 to 7 and holds bits 0 to 3 clear (R164). -/
def NoticeController.setMask (n : NoticeController) (bits : Byte) : NoticeController := { n with mask := bits &&& 0xF0#8 }

/-- The floors a WATCH body gives: each not already taken, until eight are (R176). -/
def watchFloors (body : List Byte) : List Nat :=
  body.foldl (fun acc b => if acc.length < 8 ∧ ¬ acc.contains b.toNat then acc ++ [b.toNat] else acc) []

/-- The new watch list (R176): latches taken afresh from the live summaries, waiting WATCH records removed. -/
def NoticeController.setWatch (n : NoticeController) (floors : List Nat) (live : Nat → Latch) : NoticeController :=
  let cleared := (n.watch.map (·.1) ++ floors).foldl (fun m f => m.dropWaiting (watchKey f)) n
  { cleared with watch := floors.map (fun f => (f, live f)) }

/-- FLOOR re-latches a watched floor and removes its waiting WATCH record (R178). -/
def NoticeController.relatch (n : NoticeController) (f : Nat) (live : Latch) : NoticeController :=
  match n.latch f with
  | none => n
  | some _ => { n.dropWaiting (watchKey f) with watch := n.watch.map (fun w => if w.1 = f then (f, live) else w) }

/-- The record in service at a level, if any: the stack holds at most one of each (R170). -/
def NoticeController.stackAt (n : NoticeController) (level : Nat) : Option NoticeKey :=
  n.stack.find? (fun k => k.level == level)

/-- The record of a key leaves the stack, the queue and the notices due (R173). -/
def NoticeController.finishKey (n : NoticeController) (k : NoticeKey) : NoticeController :=
  { n.drop k with stack := n.stack.filter (fun x => !(x == k)), due := n.due.filter (fun x => !(x == k)) }

/-- After a WATCH record left by FINISH, its floor is queued again while its summary differs from its latch (R178). -/
def NoticeController.requeueWatch (n : NoticeController) (now : Nat) (k : NoticeKey) (live : Nat → Latch) :
    NoticeController :=
  match k.level, k.subject with
  | 5, .floor f =>
    match n.latch f with
    | none => n
    | some l => if live f = l then n else n.post now 5 (.floor f) 0 none
  | _, _ => n

/-! ## Bodies (R172) -/

/-- The type, number and line of a subject as a NOTICE body codes them. -/
def Subject.codes : Subject → Nat × Nat × Nat
  | .zone o l => (1, o, l)
  | .floor f => (2, f, 0)
  | .station a => (3, a, 0)
  | .block b => (4, b.code, 0)
  | .channel c => (5, c, 0)

/-- The snapshot of a record, taken when its body is built (R172). Of a station without a DIRECTORY the qualifier, for which
R172 gives no value, is 0xFF as its condition is (log 45). -/
def State.snapshot (s : State) (r : Notice) : List Byte :=
  match r.key.subject with
  | .zone o l => entryRecord s.clock o l (s.presenceCode o) (s.entry o l)
  | .floor f => summaryRecord f (s.floor f)
  | .station a =>
    let p := s.peer a
    [byte (s.presenceCode a)] ++
      (match p.directory with
        | none => [0xFF, 0xFF]
        | some d => [byte d.condition.code, byte (bit 0 d.noConfig)]) ++ be16 p.framesHeard
  | .block b => [byte (bit 0 (s.rlc.blocks.has b)), byte s.condition.code]
  | .channel _ => (match r.outcome with | none => List.replicate 10 0 | some o => outcomeBytes o)

/-- The body of a record, with the in-service depth given (R172). -/
def State.noticeBody (s : State) (r : Notice) (depth : Nat) : List Byte :=
  let c := r.key.subject.codes
  let snap := s.snapshot r
  [byte r.key.level, byte c.1, byte c.2.1, byte c.2.2, byte r.detail, byte r.events] ++
    be16 (secondsSince s.clock r.time) ++ [byte depth, byte snap.length] ++ snap

/-- The live latch of a floor. -/
def State.liveLatch (s : State) (f : Nat) : Latch := latchOf (s.floor f)

/-- The end of an event for both controllers: selection where the event changed queue, stack or mask (R168, R170). -/
def State.selectBoth (before s : State) : State :=
  { s with
    noticesA := NoticeController.selectAfter before.noticesA s.noticesA
    noticesB := NoticeController.selectAfter before.noticesB s.noticesB }

end Sys2Proof.Machine
end

