-- ==== Sys2Proof/Machine/Picture.lean ====
section
/-! DEFINITION. The Tower Picture (chapter 2): summaries, change signals, own writes, replacement on peer reports,
STALE marking, labels, acknowledgements and attendance lists; with the part of the Zone Unit that takes the picture's
entry-change signals (R20, R21). -/

namespace Sys2Proof.Machine

open Sys2Proof

/-! ## Summaries (2.7) -/

/-- A floor's counted entries: KNOWN, on that floor, of a type other than UNUSED (R38). -/
def ZoneEntry.countedOn (f : Nat) (e : ZoneEntry) : Bool := e.known && decide (e.floor = f) && decide (e.ztype ≠ .unused)

def TowerPicture.counted (p : TowerPicture) (f : Nat) : List ZoneEntry := p.entries.toList.filter (ZoneEntry.countedOn f)

/-- A floor's worst from its counts (R39). -/
def worstOf (fire clearing pending supervisory trouble entries : Nat) : Worst :=
  if 1 ≤ fire then .fire
  else if 1 ≤ clearing then .clearing
  else if 1 ≤ pending then .pending
  else if 1 ≤ supervisory then .supervisory
  else if 1 ≤ trouble then .trouble
  else if 1 ≤ entries then .normal
  else .none

/-- What a floor's counted entries give its summary (R38, R39). -/
def countsOf (l : List ZoneEntry) : Counts :=
  let fire := l.countP (fun e => e.ztype.isFire && e.zstate == .alarm)
  let pending := l.countP (fun e => e.zstate == .pending)
  let clearing := l.countP (fun e => e.ztype.isFire && e.zstate == .clearing)
  let supervisory := l.countP (fun e => e.ztype == .valve && e.zstate.inEpisode)
  let trouble := l.countP (fun e => e.zstate == .trouble)
  { worst := worstOf fire clearing pending supervisory trouble l.length
    fire := fire
    pending := pending
    clearing := clearing
    supervisory := supervisory
    trouble := trouble
    stale := l.countP (·.stale)
    anyRecurring := l.any (·.recurring)
    anyLineLost := l.any (·.lineLost) }

/-- The recomputation of a floor with the label and attendance list given (R42), and its summary-change signal (R44).
The summary change number goes up once when any other field differs; otherwise nothing changes. -/
def recomputeWith (f : Nat) (label : Option Text) (attendance : List Attendance) (s : State) : State :=
  let old := s.floor f
  let new : FloorSummary :=
    { label := label, counts := countsOf (s.picture.counted f), attendance := attendance,
      changeNumber := old.changeNumber }
  if new = old then s
  else
    let raised := { new with changeNumber := wrapNext old.changeNumber }
    let s1 := s.setFloor f raised
    s1.notifyBoth (fun n => n.takeSummary s.clock f old raised (fun g => (s1.floor g).counts.worst == .fire))

/-- The recomputation of a floor, its label retaken and its attendance list changed when one is given (R40, R42, R47). -/
def recompute (f : Nat) (label : Option Text) (list : Option (List Attendance)) (s : State) : State :=
  recomputeWith f (if label.isSome then label else (s.floor f).label) (list.getD (s.floor f).attendance) s

/-! ## The neighbour boost (1.8) -/

/-- The second condition of R20 on one entry, for a zone on floor `f`: KNOWN, of a fire type, in ALARM, within ±1. -/
def boostsFloor (f : Nat) (e : ZoneEntry) : Bool :=
  e.known && e.ztype.isFire && decide (e.zstate = .alarm) && decide (e.floor ≤ f + 1) && decide (f ≤ e.floor + 1)

/-- The confirm time of a zone type in ms (R6). -/
def ZoneType.confirm : ZoneType → Nat
  | .detector => 2000
  | .callpoint => 250
  | .flow => 10000
  | .valve => 5000
  | .unused => 0

/-- The boosted confirm of a fire type: the confirm divided by 4, at least 250 ms (R6). -/
def ZoneType.boostedConfirm (t : ZoneType) : Nat := max 250 (t.confirm / 4)

/-- The boost applies at entry to PENDING of line `i` (R20): another entry of the picture meets the condition. -/
def State.boostApplies (i : Nat) (s : State) : Bool :=
  (s.line i).ztype.isFire &&
    s.picture.entries.toList.zipIdx.any fun x =>
      decide (x.2 ≠ entryIndex s.ownOrigin i) && boostsFloor (s.line i).floor x.1

/-- A raise of an own zone's change number marks the ALARM slot pending, again during a ZONE STATE transmission
(R23, R87). -/
def State.markAlarm (s : State) : State :=
  s.modRlc fun r =>
    { r with
      alarmPending := true
      tx := r.tx.map fun t => if t.source = .zoneState then { t with raisedSince := true } else t }

/-- The age carriage a line's episode gives its own entry. -/
def ownCarriage : Option Nat → AgeCarriage
  | none => .absent
  | some t => .own t

/-- The content a write of line `i` puts in its own entry (R23, R28): a raise removes the acknowledgement. -/
def ownEntryOf (now : Nat) (l : LineRecord) (raised : Bool) (old : ZoneEntry) : ZoneEntry :=
  { known := true, floor := l.floor, ztype := l.ztype, zstate := l.zstate, trouble := l.trouble,
    recurring := l.recurring, lineLost := l.lineLost, boosted := l.boosted, stale := false,
    repeatCount := l.repeatCount, transientCount := l.transientCount, resistance := l.resistance,
    changeNumber := l.changeNumber, age := ownCarriage l.episodeStart,
    ack := if raised then none else old.ack, label := old.label, lastHeard := some now }

/-- A line takes the boost (R21): BOOSTED set, the boosted confirm in force, the timer's start kept, one raise. -/
def LineRecord.boost (l : LineRecord) : LineRecord :=
  { l with boosted := true, confirmLength := l.ztype.boostedConfirm, changeNumber := wrapNext l.changeNumber }

/-- A change of the entry (origin, line) considered by own line `i` (R21), its own entry written after the boost. The
write's own signal fires no notice source and is no boosting change, since the line is in PENDING. -/
def boostLine (origin line : Nat) (old new : ZoneEntry) (s : State) (i : Nat) : State :=
  let l := s.line i
  if decide (entryIndex origin line ≠ entryIndex s.ownOrigin i) && boostsFloor l.floor new && !boostsFloor l.floor old &&
      s.lineEnabled i && decide (l.zstate = .pending) && l.ztype.isFire && !l.boosted then
    let e := s.entry s.ownOrigin i
    (((s.setLine i l.boost).markAlarm).setEntry s.ownOrigin i (ownEntryOf s.clock l.boost true e)).notifyBoth
      (fun n => n.takeEntry s.clock s.ownOrigin i e (ownEntryOf s.clock l.boost true e))
  else s

/-- The Zone Unit takes an entry-change signal: each line is considered in the same event (R21). -/
def boostLines (origin line : Nat) (old new : ZoneEntry) (s : State) : State :=
  (List.range 16).foldl (boostLine origin line old new) s

/-! ## Change signals (2.8) -/

/-- The signalled fields of an entry: all but the age carriage and last heard (R43). -/
def ZoneEntry.signalled (e : ZoneEntry) : ZoneEntry := { e with age := .absent, lastHeard := none }

/-- The entry-change signal of one entry to both controllers and the Zone Unit, when a signalled field differs (R43). -/
def signalEntry (origin line : Nat) (old new : ZoneEntry) (s : State) : State :=
  if old.signalled = new.signalled then s
  else boostLines origin line old new (s.notifyBoth (fun n => n.takeEntry s.clock origin line old new))

/-- A change of one entry within an event. -/
structure EntryChange where
  origin : Nat
  line : Nat
  new : ZoneEntry
  deriving DecidableEq, Repr

/-- The floors an event touches: of the changed entries before and after it, and of own entries a boost wrote. -/
def touchedFloors (before signalled : State) (changes : List EntryChange) : List Nat :=
  (changes.map fun c =>
      (if (before.entry c.origin c.line).known then [(before.entry c.origin c.line).floor] else []) ++
        (if c.new.known then [c.new.floor] else [])).flatten ++
    (List.range 16).filterMap fun i =>
      if signalled.line i = before.line i then none else some (signalled.line i).floor

/-- What an event gives a floor, if anything: its label retaken, or its attendance list. -/
def givenFor {α : Type} (given : List (Nat × α)) (f : Nat) : Option α := (given.find? (fun x => x.1 == f)).map (·.2)

/-- One event that changes entries, floor labels and attendance lists (R42, R43, R44, R47): the entries are written together,
then their signals are sent in order, then the touched floors are recomputed one at a time in ascending order, each once. -/
def pictureEvent (changes : List EntryChange) (labels : List (Nat × Text)) (lists : List (Nat × List Attendance))
    (s : State) : State :=
  let written := changes.foldl (fun t c => t.setEntry c.origin c.line c.new) s
  let signalled := changes.foldl (fun t c => signalEntry c.origin c.line (s.entry c.origin c.line) c.new t) written
  let floors := touchedFloors s signalled changes ++ labels.map (·.1) ++ lists.map (·.1)
  (List.range 256).foldl
    (fun t f => if floors.contains f then recompute f (givenFor labels f) (givenFor lists f) t else t) signalled

/-! ## Own writes (2.2) -/

/-- The Zone Unit's write of line `i` to its own entry (R23, R28). -/
def writeOwn (i : Nat) (raised : Bool) (s : State) : State :=
  let s1 := if raised then s.markAlarm else s
  pictureEvent [{ origin := s.ownOrigin, line := i,
                  new := ownEntryOf s.clock (s.line i) raised (s.entry s.ownOrigin i) }] [] [] s1

/-! ## Receipt of ZONE STATE (2.4) -/

/-- The acknowledgement a record gives its entry (R32), keeping the port of an equal one held before. -/
def recordAck (old : Option Ack) (r : ZoneRecord) : Option Ack :=
  if 8 ≤ r.flags % 16 ∧ (ZoneState.ofCode r.zstate).inEpisode ∧ validAddress r.station then
    let label := trimText r.label
    let port := match old with
      | none => none
      | some a => if a.label = label ∧ a.station = r.station ∧ a.change = r.changeNumber then a.port else none
    some { label := label, station := r.station, port := port, change := r.changeNumber }
  else none

/-- The entry a record replaces an entry with (R32). The label is kept. -/
def replaceEntry (now : Nat) (old : ZoneEntry) (r : ZoneRecord) : ZoneEntry :=
  let z := ZoneState.ofCode r.zstate
  let lost := r.flags / 2 % 2 == 1
  { known := true, floor := r.floor, ztype := ZoneType.ofCode r.ztype, zstate := z,
    trouble := if z = .trouble ∨ (z = .alarm ∧ lost) then troubleOfCode r.trouble else none,
    recurring := r.flags % 2 == 1 && decide (1 ≤ r.repeatCount)
    lineLost := lost && z == .alarm
    boosted := r.flags / 4 % 2 == 1 && z == .pending
    stale := false, repeatCount := r.repeatCount, transientCount := r.transientCount, resistance := r.resistance,
    changeNumber := r.changeNumber,
    age := if z.inEpisode then .remote r.age now else .absent,
    ack := recordAck old.ack r, label := old.label, lastHeard := some now }

/-- The sixteen changes of a ZONE STATE payload from an origin (R32). -/
def rowReplacement (origin : Nat) (payload : List Byte) (s : State) : List EntryChange :=
  (List.range 16).filterMap fun l =>
    (recordOfLine payload l).map fun r => { origin := origin, line := l, new := replaceEntry s.clock (s.entry origin l) r }

/-! ## STALE marking and labels (2.5, R27) -/

/-- A change of a row's entries, only those that differ. -/
def rowChanges (origin : Nat) (f : Nat → ZoneEntry → ZoneEntry) (s : State) : List EntryChange :=
  (List.range 16).filterMap fun l =>
    let old := s.entry origin l
    if f l old = old then none else some { origin := origin, line := l, new := f l old }

/-- STALE set on a KNOWN entry (R34). -/
def ZoneEntry.makeStale (e : ZoneEntry) : ZoneEntry := if e.known then { e with stale := true } else e

/-- STALE cleared (R35). -/
def ZoneEntry.clearStale (e : ZoneEntry) : ZoneEntry := { e with stale := false }

/-- A zone label written into an entry (R27). -/
def ZoneEntry.relabel (e : ZoneEntry) (label : Text) : ZoneEntry := { e with label := some label }

/-! ## Marks in the picture (2.9) -/

/-- The placing of an acknowledgement on an entry (R46). -/
def placeAck (origin line : Nat) (a : Ack) (s : State) : State :=
  pictureEvent [{ origin := origin, line := line, new := { s.entry origin line with ack := some a } }] [] [] s

/-- An acknowledgement placed among the changes an event makes, in their order of origin and line (R43); an entry that the
event changes otherwise too takes both in one change. -/
def withAck (origin line : Nat) (a : Ack) (s : State) : List EntryChange → List EntryChange
  | [] => [{ origin := origin, line := line, new := { s.entry origin line with ack := some a } }]
  | c :: rest =>
    if c.origin = origin ∧ c.line = line then { c with new := { c.new with ack := some a } } :: rest
    else if entryIndex c.origin c.line < entryIndex origin line then c :: withAck origin line a s rest
    else { origin := origin, line := line, new := { s.entry origin line with ack := some a } } :: c :: rest

/-- The most entries of an attendance list (R41). -/
def attendanceLimit : Nat := 4

/-- An entry is that of a station and port (R41). -/
def Attendance.isOf (station : Nat) (p : Port) (a : Attendance) : Bool := a.station == station && a.port == p

/-- An attendance list with an entry added at the newest end, refreshed and moved there, or put in the place of the
oldest (R71). -/
def attendOnList (a : Attendance) (l : List Attendance) : List Attendance :=
  if l.any (Attendance.isOf a.station a.port) then l.filter (fun x => !(x.isOf a.station a.port)) ++ [a]
  else if l.length < attendanceLimit then l ++ [a]
  else l.drop 1 ++ [a]

/-- An attendance list without the entry of a station and port (R71). -/
def attendOffList (station : Nat) (p : Port) (l : List Attendance) : List Attendance :=
  l.filter (fun x => !(x.isOf station p))

/-- A change of a floor's attendance list, in one event (R47). -/
def setAttendance (f : Nat) (l : List Attendance) (s : State) : State :=
  recomputeWith f (s.floor f).label l s

/-- An ATTEND-on applied to a floor's list (R71, R72). -/
def attendOnFloor (f : Nat) (label : Text) (station : Nat) (p : Port) (s : State) : State :=
  setAttendance f (attendOnList { label := label, station := station, port := p, time := s.clock } (s.floor f).attendance) s

/-- An ATTEND-off applied to a floor's list (R71, R72). A removal that names no entry changes nothing (R47). -/
def attendOffFloor (f station : Nat) (p : Port) (s : State) : State :=
  if (s.floor f).attendance.any (Attendance.isOf station p) then
    setAttendance f (attendOffList station p (s.floor f).attendance) s
  else s

end Sys2Proof.Machine
end

