-- ==== Sys2Proof/Machine/Peers.lean ====
section
/-! DEFINITION. The Holder Table and the Peer Table's record operations (chapter 3). -/

namespace Sys2Proof.Machine

open Sys2Proof

/-! ## The Holder Table (3.5) -/

/-- A station's claims: its source, its floors covered with their kind sets, its replica holdings. -/
structure Claim where
  source : Source
  firstFloor : Nat
  floorCount : Nat
  owned : List KindSet
  replicas : List (Nat × KindSet)
  deriving DecidableEq, Repr

/-- The station is an owning claimant of a floor (3.5). -/
def Claim.owns (c : Claim) (f : Nat) : Bool := covers c.firstFloor c.floorCount f

/-- The station is a claimant of a floor: owning, or by a replica holding (3.5). -/
def Claim.claims (c : Claim) (f : Nat) : Bool := c.owns f || c.replicas.any (fun r => r.1 == f)

/-- The kind set a claimant holds for a floor (R57, R58). -/
def Claim.kinds (c : Claim) (f : Nat) : KindSet :=
  if c.owns f then c.owned.getD (f - c.firstFloor) 0#6 else kindsAt c.replicas f

/-- The claim of a PRESENT peer that has given a DIRECTORY (R49, R57). -/
def State.peerClaim (s : State) (a : Nat) : Option Claim :=
  let r := s.peer a
  if s.isPeer a && r.presence == .present then
    r.directory.map fun d =>
      { source := .peer a, firstFloor := d.firstFloor, floorCount := d.floorCount, owned := d.owned,
        replicas := d.replicas }
  else none

/-- The claims of the peers whose addresses lie from `low` up to but not including `high`, ascending. -/
def State.peerClaims (s : State) (low high : Nat) : List Claim :=
  (List.range 63).filterMap fun a => if low ≤ a ∧ a < high then s.peerClaim a else none

/-- The station's own claim (R56). -/
def State.ownClaim (s : State) : List Claim :=
  match s.holders.own with
  | none => []
  | some o =>
    [{ source := .self, firstFloor := o.firstFloor, floorCount := o.floorCount, owned := o.owned, replicas := o.replicas }]

/-- The rank of the station itself: its strapped address, or 64 when it is 0 or 63 (R57). -/
def State.ownRank (s : State) : Nat := if validAddress s.address then s.address else 64

/-- Every claim, in ascending rank. -/
def State.allClaims (s : State) : List Claim :=
  s.peerClaims 0 s.ownRank ++ s.ownClaim ++ s.peerClaims s.ownRank 63

/-- A row of the Holder Table from the claims in ascending rank (R57, R58). -/
def rowFrom (claims : List Claim) (f : Nat) : HolderRow :=
  let holder := fun c : Claim => ({ source := c.source, kinds := c.kinds f } : Holder)
  let owner := claims.find? (fun c => c.owns f)
  let others := claims.filter fun c =>
    c.claims f && (match owner with | none => true | some o => decide (c.source ≠ o.source))
  { owner := owner.map holder, replicas := (others.take 2).map holder }

/-- The floor label a station gives for a floor it covers (R40). -/
def State.labelBy (s : State) (src : Source) (f : Nat) : Option Text :=
  match src with
  | .self => s.store.image.bind fun h => if covers h.firstFloor h.floorCount f then h.floorLabels[f - h.firstFloor]? else none
  | .peer a => (s.peer a).directory.bind fun d =>
      if covers d.firstFloor d.floorCount f then d.floorLabels[f - d.firstFloor]? else none

/-- The labels to be retaken for floors whose owner satisfies a test (R40, R59). -/
def State.ownerLabels (s : State) (test : Nat → Source → Bool) : List (Nat × Text) :=
  (List.range 256).filterMap fun f =>
    match (s.holderRow f).owner with
    | none => none
    | some o => if test f o.source then (s.labelBy o.source f).map (fun t => (f, t)) else none

/-- The station that owns a floor, as the table names it. -/
def State.ownerOf (s : State) (f : Nat) : Option Source := (s.holderRow f).owner.map (·.source)

/-- A recomputation: every row formed anew from the claims as they stand (R59). -/
def recomputeHolders (s : State) : State :=
  s.modHolders fun h => { h with rows := tbuild 256 (rowFrom s.allClaims) }

/-- The floor labels a recomputation retakes: of each floor whose owner differs after it from before it, and that now has
an owner (R59). -/
def changedOwnerLabels (before after : State) : List (Nat × Text) :=
  after.ownerLabels fun f src => decide (before.ownerOf f ≠ some src)

/-- A kind set holds a sheet kind. -/
def hasKind (k : KindSet) (kind : Nat) : Bool := k.getLsbD kind

/-- The station's own holdings for a floor, owned or replica, include a kind (R60). -/
def State.holdsItself (s : State) (f kind : Nat) : Bool := s.ownClaim.any fun c => c.claims f && hasKind (c.kinds f) kind

/-- The candidate list for a floor and kind (R60). -/
def State.candidates (s : State) (f kind : Nat) : List Source :=
  let row := s.holderRow f
  let others := (row.owner.toList ++ row.replicas).filter fun h => decide (h.source ≠ .self) && hasKind h.kinds kind
  (if s.holdsItself f kind then [Source.self] else []) ++ others.map (·.source)

/-! ## Own holdings (R56) -/

/-- The kind set of the accepted records of a floor. -/
def kindsOfFloor (sheets : List SheetRecord) (f : Nat) : KindSet :=
  (sheets.filter (fun r => r.floor == f)).foldl (fun k r => k ||| BitVec.ofNat 6 (2 ^ r.kind)) 0#6

/-- A list without its repeats, the first of each kept. -/
def firstOccurrences (l : List Nat) : List Nat := l.foldl (fun acc x => if acc.contains x then acc else acc ++ [x]) []

/-- The own holdings a header image and the accepted records give (R56). -/
def ownHoldingsOf (image : Option HeaderImage) (sheets : List SheetRecord) : OwnHoldings :=
  match image with
  | none => { firstFloor := 0, floorCount := 0, owned := [], replicas := [] }
  | some h =>
    { firstFloor := h.firstFloor, floorCount := h.floorCount,
      owned := (List.range h.floorCount).map (fun k => kindsOfFloor sheets (h.firstFloor + k)),
      replicas := sortByFloor
        (((firstOccurrences h.replicas).filter (fun f => !(covers h.firstFloor h.floorCount f))).map
          (fun f => (f, kindsOfFloor sheets f))) }

/-! ## Frames heard (3.2) -/

/-- The record of a peer from which a frame is taken (R50, R51, R53). -/
def PeerRecord.heard (now : Nat) (r : PeerRecord) : PeerRecord :=
  { r with presence := .present, silence := some now, framesHeard := countUp r.framesHeard }

/-- The record of a peer whose silence timer expires (R52). -/
def PeerRecord.lose (r : PeerRecord) : PeerRecord := { r with presence := .lost, silence := none }

/-- The fields of a DIRECTORY that can change a claim (R59). -/
def PeerDirectory.claimFields (d : PeerDirectory) : Nat × Nat × List KindSet × List (Nat × KindSet) :=
  (d.firstFloor, d.floorCount, d.owned, d.replicas)

/-- What an accepted frame brings the Peer Table and the picture: the row of a ZONE STATE (R32), the fields of a DIRECTORY
(R55), the acknowledgement a MARK ACK places (R68), the attendance list a MARK ATTEND leaves (R72), or nothing but its being
heard. -/
inductive FrameContent where
  | row (payload : List Byte)
  | directory (d : PeerDirectory)
  | ack (origin line : Nat) (a : Ack)
  | attendance (f : Nat) (list : List Attendance)
  | other
  deriving DecidableEq, Repr

/-- The DIRECTORY fields a record takes from a frame. -/
def PeerRecord.takeContent (r : PeerRecord) : FrameContent → PeerRecord
  | .directory d => { r with directory := some d }
  | .row _ | .ack _ _ _ | .attendance _ _ | .other => r

/-- The frame can change a claim: it makes its origin PRESENT, or is a DIRECTORY whose claims differ (R59). -/
def changesClaims (old : PeerRecord) : FrameContent → Bool
  | .directory d => decide (old.presence ≠ .present) || decide (old.directory.map PeerDirectory.claimFields ≠ some d.claimFields)
  | .row _ | .ack _ _ _ | .attendance _ _ | .other => decide (old.presence ≠ .present)

/-- The entries of a row that lose STALE when its origin is heard again (R35). -/
def staleCleared (x : Nat) (wasLost : Bool) (s : State) : List EntryChange :=
  if wasLost then rowChanges x (fun _ e => e.clearStale) s else []

/-- The entries a frame changes (R27, R32, R35, R68): a row replaced; labels written, with STALE cleared when its origin was
LOST; an acknowledgement placed beside the clearing of STALE; or STALE cleared alone. -/
def contentChanges (x : Nat) (wasLost : Bool) (content : FrameContent) (s : State) : List EntryChange :=
  match content with
  | .row payload => rowReplacement x payload s
  | .directory d =>
    rowChanges x (fun l e => (if wasLost then e.clearStale else e).relabel (d.zoneLabels.getD l [])) s
  | .ack o l a => withAck o l a s (staleCleared x wasLost s)
  | .attendance _ _ | .other => staleCleared x wasLost s

/-- The floor labels an accepted DIRECTORY gives for the floors its origin owns (R40, R55). -/
def contentLabels (x : Nat) (content : FrameContent) (s : State) : List (Nat × Text) :=
  match content with
  | .directory _ => s.ownerLabels fun _ src => decide (src = .peer x)
  | .row _ | .ack _ _ _ | .attendance _ _ | .other => []

/-- The attendance list a frame leaves a floor (R72). -/
def FrameContent.lists : FrameContent → List (Nat × List Attendance)
  | .attendance f l => [(f, l)]
  | .row _ | .directory _ | .ack _ _ _ | .other => []

/-- The Peer Table takes an accepted frame from peer `x` (R50 to R55), and the picture the content it brings, in one
event: presence and timer, DIRECTORY fields, the STATION event of a return, the Holder Table, then the entries with one
signal each and the floors, each recomputed once (R42; log 28). -/
def frameHeard (x : Nat) (content : FrameContent) (s : State) : State :=
  let old := s.peer x
  let wasLost := old.presence == .lost
  let s1 := s.setPeer x ((old.heard s.clock).takeContent content)
  let s2 := if wasLost then s1.notifyBoth (fun n => n.takeStation s.clock x true) else s1
  let s3 := if changesClaims old content then recomputeHolders s2 else s2
  pictureEvent (contentChanges x wasLost content s3) (contentLabels x content s3 ++ changedOwnerLabels s2 s3) content.lists s3

/-- The loss of peer `x` in the Peer Table, the Notice Controllers, the Holder Table and the picture (R52, R34). R52 lets the
blocks take a loss in either order; the STATION event before the picture's signals is the model's choice (log 41). -/
def peerLost (x : Nat) (s : State) : State :=
  let s1 := s.setPeer x (s.peer x).lose
  let s2 := s1.notifyBoth (fun n => n.takeStation s.clock x false)
  let s3 := recomputeHolders s2
  pictureEvent (rowChanges x (fun _ e => e.makeStale) s3) (changedOwnerLabels s2 s3) [] s3

end Sys2Proof.Machine
end

