-- ==== Sys2Proof/Machine/Marks.lean ====
section
/-! DEFINITION. The Mark Handler (chapter 4): crew requests, MARK frames, and the withdrawal of a port's attendance. -/

namespace Sys2Proof.Machine

open Sys2Proof

/-- The attendance entries of a floor as a response gives them (R147): a count, then the entries oldest first. -/
def State.attendanceBytes (s : State) (f : Nat) : List Byte :=
  let l := (s.floor f).attendance
  [byte l.length] ++ (l.map fun a => attendanceRecord s.clock (s.presenceCode a.station) a).flatten

/-- The entry record of an entry as it stands. -/
def State.entryBytes (s : State) (origin line : Nat) : List Byte :=
  entryRecord s.clock origin line (s.presenceCode origin) (s.entry origin line)

/-! ## Crew requests (R64, R65, R71) -/

/-- The result of a crew mark from the RLC's answer: LOCAL unless its MARK was queued (R65, R71). -/
def markResult (queued : Result) : Answer → Result
  | .queued => queued
  | .queueFull => .localOnly
  | .noPath => .localOnly

/-- An accepted ACK (R65): the acknowledgement is placed, and its MARK submitted. -/
def acceptAck (p : Port) (label : Text) (station line change : Nat) (s : State) : State :=
  submitMark (markPayload 1 label s.address p station line change)
    (placeAck station line { label := label, station := s.address, port := some p, change := change } s)

/-- An ACK request taken from port `p` (R64, R65): the state after it, the result and the fields of the response. -/
def takeAck (p : Port) (station line change : Nat) (s : State) : State × Result × List Byte :=
  match (s.port p).label with
  | none => (s, .noLabel, [])
  | some label =>
    let e := s.entry station line
    if !validAddress s.address then (s, .noPath, [])
    else if !validAddress station || decide (15 < line) || !e.known then (s, .noZone, [])
    else if !e.zstate.inEpisode then (s, .notAlarm, s.entryBytes station line)
    else if e.changeNumber ≠ change then (s, .changed, s.entryBytes station line)
    else
      match e.ack with
      | some a => (s, .already, padTo 8 a.label ++ [byte a.station, byte (ackPortCode e.ack)])
      | none =>
        let s1 := acceptAck p label station line change s
        (s1, markResult .acked s.rlc.answer, s1.entryBytes station line)

/-- An accepted ATTEND on (R71). -/
def acceptAttendOn (p : Port) (label : Text) (f : Nat) (s : State) : State :=
  submitMark (markPayload 2 label s.address p f 0 0) (attendOnFloor f label s.address p s)

/-- An accepted ATTEND off (R71). -/
def acceptAttendOff (p : Port) (label : Text) (f : Nat) (s : State) : State :=
  submitMark (markPayload 3 label s.address p f 0 0) (attendOffFloor f s.address p s)

/-- An ATTEND request, on, taken from port `p` (R71). -/
def takeAttendOn (p : Port) (f : Nat) (s : State) : State × Result × List Byte :=
  match (s.port p).label with
  | none => (s, .noLabel, [])
  | some label =>
    if !validAddress s.address then (s, .noPath, [])
    else
      let s1 := acceptAttendOn p label f s
      (s1, markResult .attending s.rlc.answer, [byte f] ++ s1.attendanceBytes f)

/-- An ATTEND request, off, taken from port `p` (R71). -/
def takeAttendOff (p : Port) (f : Nat) (s : State) : State × Result × List Byte :=
  match (s.port p).label with
  | none => (s, .noLabel, [])
  | some label =>
    if !validAddress s.address then (s, .noPath, [])
    else
      let s1 := acceptAttendOff p label f s
      (s1, markResult .left s.rlc.answer, [byte f] ++ s1.attendanceBytes f)

/-! ## Withdrawal (R74) -/

/-- The withdrawal of one floor's attendance of a port. -/
def withdrawFloor (p : Port) (label : Text) (s : State) (f : Nat) : State :=
  if (s.floor f).attendance.any (Attendance.isOf s.address p) then acceptAttendOff p label f s else s

/-- The withdrawal of a port's attendance, in ascending floor order, while its label is held (R74). A port without a label
has declared none. -/
def withdrawAttendance (p : Port) (s : State) : State :=
  match (s.port p).label with
  | none => s
  | some label => (List.range 256).foldl (withdrawFloor p label) s

/-! ## MARK frames (R67 to R69, R72) -/

/-- The four conditions under which a MARK ACK is applied (R68, R69). -/
def ackApplies (e : ZoneEntry) (change : Nat) : Bool :=
  e.known && decide (e.changeNumber = change) && e.zstate.inEpisode && e.ack.isNone

/-- A mark that is counted, its frame heard and nothing else (R62, R67, R68). -/
def countedMark (x : Nat) (f : MarkCounts → MarkCounts) (s : State) : State := (frameHeard x .other s).modMarks f

/-- A MARK ACK that passes R67, in the event its frame is heard (R62, R68, R69). -/
def takeMarkAck (x : Nat) (p : List Byte) (s : State) : State :=
  if ackApplies (s.entry (byteAt p 11) (byteAt p 12)) (halfAt p 13) then
    frameHeard x (.ack (byteAt p 11) (byteAt p 12)
      { label := markLabel p, station := byteAt p 9, port := some (markPort p), change := halfAt p 13 }) s
  else countedMark x (fun m => { m with discarded := countUp m.discarded }) s

/-- A MARK ATTEND-on that passes R67, in the event its frame is heard (R62, R72). -/
def takeMarkOn (x : Nat) (p : List Byte) (s : State) : State :=
  frameHeard x (.attendance (byteAt p 11)
    (attendOnList { label := markLabel p, station := byteAt p 9, port := markPort p, time := s.clock }
      (s.floor (byteAt p 11)).attendance)) s

/-- A MARK ATTEND-off that passes R67, in the event its frame is heard (R62, R72). A removal that names no entry changes
nothing (R47). -/
def takeMarkOff (x : Nat) (p : List Byte) (s : State) : State :=
  let list := (s.floor (byteAt p 11)).attendance
  if list.any (Attendance.isOf (byteAt p 9) (markPort p)) then
    frameHeard x (.attendance (byteAt p 11) (attendOffList (byteAt p 9) (markPort p) list)) s
  else frameHeard x .other s

/-- A MARK frame from peer `x`, taken by the Peer Table and the Mark Handler in one event (R62, R67 to R69, R72). -/
def takeMark (x : Nat) (p : List Byte) (s : State) : State :=
  if !markGood x p then countedMark x (fun m => { m with rejected := countUp m.rejected }) s
  else if byteAt p 0 = 1 then takeMarkAck x p s
  else if byteAt p 0 = 2 then takeMarkOn x p s
  else takeMarkOff x p s

end Sys2Proof.Machine
end

