-- ==== Sys2Proof/Machine/Transfers.lean ====
section
/-! DEFINITION. The Sheet Transfer Engine (chapter 7): buffers, sources, windows, ends, serving and the store reads. -/

namespace Sys2Proof.Machine

open Sys2Proof

/-! ## Tile buffers (7.2) -/

/-- How many buffers a crew channel that holds `h` may claim with `f` free in the pool (R121). -/
def claimable (h f : Nat) : Nat :=
  if h = 0 then (if f = 0 then 0 else 1 + min 3 (f - 3)) else if h ≤ 3 then min (4 - h) (f - 2) else 0

/-- A channel takes a buffer from the pool, empty. -/
def holdBuffer (c : Nat) (s : State) (b : Nat) : State := s.setBuffer b { holder := some c, state := .empty }

/-- A channel claims `n` buffers of the pool, lowest numbers first. -/
def claimBuffers (c n : Nat) (s : State) : State :=
  ((s.buffersWhere fun x => x.holder == none).take n).foldl (holdBuffer c) s

/-- A crew channel claims as many buffers as it may (R121). -/
def crewClaim (c : Nat) (s : State) : State := claimBuffers c (claimable (s.heldBy c) s.freeBuffers) s

/-- The buffer of the tile read in progress. -/
def PlanStore.readingInto (p : PlanStore) : Option Nat :=
  match p.access with
  | .tile r _ _ => some r.buffer
  | _ => none

/-- The buffer under the frame in transmission. -/
def RiserLink.sendingFrom (r : RiserLink) : Option Nat :=
  match r.tx with
  | none => none
  | some t => (match t.source with
    | .tile _ b => some b
    | _ => none)

/-- A buffer in a read in progress or under a frame in transmission is not released before that ends (R118, R120, R142). -/
def State.bufferBusy (b : Nat) (s : State) : Bool :=
  decide (s.store.readingInto = some b) || decide (s.rlc.sendingFrom = some b)

/-- A buffer returned to the pool. -/
def TileBuffer.freed : TileBuffer := { holder := none, state := .empty }

/-- A channel's buffer is released, unless it is busy. -/
def releaseBuffer (c : Nat) (s : State) (b : Nat) : State :=
  if decide ((s.buffer b).holder = some c) && !s.bufferBusy b then s.setBuffer b TileBuffer.freed else s

/-- A channel releases its buffers (R120). -/
def releaseBuffers (c : Nat) (s : State) : State := (List.range 16).foldl (releaseBuffer c) s

/-- A full buffer of a channel has its tile discarded, when the tile number satisfies a test; a buffer under a frame in
transmission stays full (R142). -/
def discardTile (c : Nat) (test : Nat → Bool) (s : State) (b : Nat) : State :=
  match (s.buffer b).state with
  | .full t _ =>
    if decide ((s.buffer b).holder = some c) && test t && !decide (s.rlc.sendingFrom = some b) then
      s.setBuffer b { holder := some c, state := .empty }
    else s
  | .empty => s
  | .reading _ => s

/-- The tiles of a channel's full buffers are discarded. -/
def discardTiles (c : Nat) (test : Nat → Bool) (s : State) : State := (List.range 16).foldl (discardTile c test) s

/-- A buffer whose discarded read or stale frame has ended: it returns to the pool when its channel is FREE or serves in
YIELD with more than one, and is otherwise empty (R111, R118, R134, R142). -/
def bufferOver (b : Nat) (s : State) : State :=
  match (s.buffer b).holder with
  | none => s
  | some c =>
    let k := s.channel c
    if k.state = .free ∨ (k.state = .serve ∧ k.burstMode = false ∧ 1 < s.heldBy c) then s.setBuffer b TileBuffer.freed
    else s.setBuffer b { holder := some c, state := .empty }

/-! ## Channels (7.1) -/

/-- A crew channel is in LOCAL, REQUEST or RECEIVE (R117). -/
def Channel.isCrew (k : Channel) : Bool :=
  decide (k.state = .localStore) || decide (k.state = .request) || decide (k.state = .receive)

/-- A crew channel fetches from a remote holder. -/
def Channel.isRemote (k : Channel) : Bool := decide (k.state = .request) || decide (k.state = .receive)

/-- The current candidate of a channel. -/
def Channel.current (k : Channel) : Option Source := k.candidates[k.position]?

/-- The current candidate, when it is a peer. -/
def Channel.currentPeer (k : Channel) : Option Nat :=
  match k.current with
  | some (.peer a) => some a
  | some .self => none
  | none => none

/-- A crew channel still fetches remotely: its transfer has not ended, and it has not received its current last tile
(R131). -/
def Channel.fetching (k : Channel) : Bool := k.isRemote && k.result.isNone && decide (k.fetch ≤ k.curLast)

/-- The tile a channel expects: the lowest tile of its window not yet received (R129). -/
def Channel.expected (k : Channel) : Option Nat :=
  match k.window with
  | none => none
  | some w => if w.1 ≤ k.fetch ∧ k.fetch ≤ min w.2 k.curLast then some k.fetch else none

/-- A channel is available when it is FREE and holds no buffer (R118). -/
def State.available (c : Nat) (s : State) : Bool := decide ((s.channel c).state = .free) && decide (s.heldBy c = 0)

/-- The lowest-numbered available channel (R118). -/
def State.freeChannel (s : State) : Option Nat := (List.range 6).find? fun c => s.available c

/-- A channel belongs to a crew port. -/
def State.ownedBy (p : Port) (c : Nat) (s : State) : Bool := decide ((s.channel c).owner = .port p)

/-- The channels of a crew port. -/
def State.channelsOf (p : Port) (s : State) : List Nat := (List.range 6).filter fun c => s.ownedBy p c

/-- A tag is that of a crew channel not FREE (R119). -/
def State.tagInUse (t : Nat) (s : State) : Bool :=
  (List.range 6).any fun c => (s.channel c).isCrew && decide ((s.channel c).tag = t)

/-- The tag the counter stops at: the next value that no crew channel carries, 255 stepping to 1 (R119). -/
def State.nextTag (s : State) : Nat :=
  (((List.range 255).map fun i => (s.ste.tagCounter + i) % 255 + 1).find? fun t => !s.tagInUse t).getD s.ste.tagCounter

/-- A channel's timers and waits stopped (R132, R134, R136). -/
def Channel.stopped (k : Channel) : Channel :=
  { k with responseTimer := none, gapTimer := none, busyWait := none, queueFullWait := none, wantWindow := false,
           gapRequest := false }

/-- The frame in transmission of a channel no longer belongs to its service (R142). -/
def RiserLink.orphan (c : Nat) (r : RiserLink) : RiserLink :=
  { r with
    tx := r.tx.map fun t =>
      match t.source with
      | .tile k _ => if k = c then { t with serviceLive := false } else t
      | _ => t }

/-- A channel becomes FREE: its reads withdrawn, its buffers released as far as they are not busy (R117, R118, R137,
R142). -/
def closeChannel (c : Nat) (s : State) : State :=
  ((releaseBuffers c (withdrawReads c s)).modRlc (RiserLink.orphan c)).setChannel c Channel.freed

/-! ## The end of a crew transfer (7.6) -/

/-- A transfer's end counted (R143). -/
def TransferCounters.ended (k : TransferCounters) : TransferResult → TransferCounters
  | .done => { k with done := countUp k.done }
  | .failed _ => { k with failed := countUp k.failed }
  | .restart => k

/-- The end of a transfer: its SHEET-END is offered, and the channel stays until that has been sent (R136). -/
def endTransfer (c : Nat) (result : TransferResult) (s : State) : State :=
  ((discardTiles c (fun _ => true) (withdrawRequest c (withdrawReads c s))).modChannel c fun k =>
    { k.stopped with window := none, missingDue := [], result := some result }).countTransfers fun n => n.ended result

/-- The outcome of a channel for a TRANSFER record (R167). -/
def Channel.outcome (k : Channel) (result : TransferResult) : TransferOutcome :=
  { result := result, floor := k.floor, kind := k.kind, revision := k.pinned, delivered := k.delivered,
    missing := k.missing }

/-- A TRANSFER event to the Notice Controller of the port that owns a channel (R136, R167). -/
def transferEvent (c : Nat) (o : TransferOutcome) (s : State) : State :=
  match (s.channel c).owner with
  | .port p => s.notify p fun n => n.takeTransfer s.clock c o
  | .nobody => s
  | .peer _ _ => s

/-! ## Sources (R123, R124, R133) -/

/-- A channel's local record is its fallback: its revision is the pinned one (R133, R135). -/
def Channel.hasFallback (k : Channel) : Bool :=
  match k.record with
  | none => false
  | some r => decide (r.revision = k.pinned)

/-- The position of the first candidate after the station itself (R126, R133). -/
def Channel.afterSelf (k : Channel) : Nat :=
  match k.candidates.findIdx? (fun x => x == .self) with
  | none => 0
  | some i => i + 1

/-- A crew channel enters LOCAL with the record it holds (R124). -/
def enterLocal (c : Nat) (s : State) : State :=
  let k := s.channel c
  match k.record with
  | none => s
  | some r =>
    if r.tileCount ≤ k.curFirst then endTransfer c (.failed .range) s
    else
      crewClaim c (s.setChannel c
        { k.stopped with
          state := .localStore, window := none, curLast := min k.curLast (r.tileCount - 1),
          pinned := if k.pinned = 0 then r.revision else k.pinned })

/-- The return to LOCAL: the first tile neither received nor delivered is due as MISSING, and the reads go on from the
tile after it (R133, R135). -/
def localFallback (c : Nat) (s : State) : State :=
  enterLocal c (s.modChannel c fun k =>
    { k with missingDue := k.missingDue ++ [k.fetch], fetch := k.fetch + 1, position := k.afterSelf })

/-- A crew channel told NO_PATH (R135). -/
def channelNoPath (c : Nat) (s : State) : State :=
  if (s.channel c).hasFallback then localFallback c s else endTransfer c (.failed .noPath) s

/-- A crew channel submits the SHEET REQUEST of its window to its current candidate (R127). -/
def submitRequest (c : Nat) (s : State) : State :=
  let k := s.channel c
  match k.window, k.currentPeer with
  | some w, some a =>
    let s1 := submitSheet .sheetRequest a
      (sheetRequestPayload k.tag k.floor k.kind k.pinned w.1 w.2 (decide (w.1 < w.2))) (.request c k.gapRequest) s
    match s.rlc.answer with
    | .queued => s1.modChannel c fun x => { x with queueFullWait := none }
    | .queueFull => s1.modChannel c fun x => { x with queueFullWait := some s.clock }
    | .noPath => channelNoPath c s1
  | _, _ => s

/-- A crew channel builds a window request, or waits for a buffer (R127). -/
def buildWindow (c : Nat) (s : State) : State :=
  let s1 := crewClaim c s
  let n := min 4 (s1.emptyBuffers c).length
  if n = 0 then s1.modChannel c fun k => { k with wantWindow := true }
  else submitRequest c (s1.modChannel c fun k =>
    { k with wantWindow := false, window := some (k.fetch, min (k.fetch + n - 1) k.curLast) })

/-- A peer's record is PRESENT (R49). -/
def State.present (a : Nat) (s : State) : Bool := s.isPeer a && decide ((s.peer a).presence = .present)

/-- A candidate serves a channel as a source (R123). -/
def State.serves (k : Channel) (x : Source) (s : State) : Bool :=
  match x with
  | .self => (s.lookup k.floor k.kind k.pinned).isSome
  | .peer a => s.present a

/-- The first candidate from a channel's position onward that serves (R123). -/
def State.nextSource (k : Channel) (s : State) : Option Nat :=
  (List.range k.candidates.length).find? fun i =>
    decide (k.position ≤ i) && (match k.candidates[i]? with | none => false | some x => s.serves k x)

/-- A crew channel takes the candidate at a position as its source (R123). -/
def enterSource (c i : Nat) (s : State) : State :=
  let k := s.channel c
  match k.candidates[i]? with
  | none => s
  | some .self =>
    enterLocal c (s.setChannel c { k with position := i, record := s.lookup k.floor k.kind k.pinned })
  | some (.peer _) => buildWindow c (s.setChannel c { k with position := i, state := .request, window := none })

/-- A restart counted (R143). -/
def TransferCounters.restarted (k : TransferCounters) : TransferCounters := { k with restarts := countUp k.restarts }

/-- The reason of a failure at an exhausted list (R133, case 3). -/
def Channel.failReason (k : Channel) : FailReason := if k.lastRefuse = some .range then .range else .noHolder

/-- A channel's fields after a restart with a new candidate list (R134). -/
def Channel.restarted (k : Channel) (candidates : List Source) : Channel :=
  { k.stopped with
    restartUsed := true, pinned := 0, curFirst := k.origFirst, curLast := k.origLast, nextTile := k.origFirst,
    fetch := k.origFirst, window := none, record := none, busyRetries := 0, gapStrike := 0, missingDue := [],
    candidates := candidates, position := 0, restartOffer := some (k.delivered, k.missing), delivered := 0, missing := 0 }

/-- A restart (R134). -/
def restart (c : Nat) (s : State) : State :=
  let k := s.channel c
  let s1 := discardTiles c (fun _ => true) (withdrawRequest c (withdrawReads c s))
  let s2 := (s1.modChannel c fun x => x.restarted (s.candidates k.floor k.kind)).countTransfers TransferCounters.restarted
  let s3 := transferEvent c { k.outcome .restart with revision := 0 } s2
  let k3 := s3.channel c
  if k3.candidates = [] then endTransfer c (.failed .noHolder) s3
  else
    match s3.nextSource k3 with
    | some i => enterSource c i s3
    | none => endTransfer c (.failed k3.failReason) s3

/-- A crew channel whose candidate list is exhausted (R133). -/
def exhausted (c : Nat) (s : State) : State :=
  let k := s.channel c
  if k.hasFallback then localFallback c s
  else if k.pinned ≠ 0 ∧ k.restartUsed = false then restart c s
  else endTransfer c (.failed k.failReason) s

/-- A crew channel chooses its source from its position onward (R123). -/
def chooseSource (c : Nat) (s : State) : State :=
  let k := s.channel c
  match s.nextSource k with
  | some i => enterSource c i s
  | none => exhausted c (s.setChannel c { k with position := k.candidates.length })

/-- A channel that leaves its current candidate (R132). -/
def Channel.leave (k : Channel) : Channel :=
  { k.stopped with busyRetries := 0, gapStrike := 0, window := none, position := k.position + 1 }

/-- A SHEET CANCEL with a channel's tag to its current candidate. -/
def submitCancel (c : Nat) (s : State) : State :=
  let k := s.channel c
  match k.currentPeer with
  | none => s
  | some a => submitSheet .sheetCancel a [byte k.tag] .cancel s

/-- The current candidate of a channel is PRESENT. -/
def State.currentPresent (k : Channel) (s : State) : Bool :=
  match k.currentPeer with
  | none => false
  | some a => s.present a

/-- A channel moves to the next candidate, with a SHEET CANCEL to a PRESENT one it leaves for a response timer expiry or a
second gap (R132). -/
def moveNext (c : Nat) (cancel : Bool) (s : State) : State :=
  let s1 := if cancel && s.currentPresent (s.channel c) then submitCancel c s else s
  chooseSource c ((withdrawRequest c s1).modChannel c Channel.leave)

/-! ## Store reads of the channels (R124, R126, R140) -/

/-- The last tile a channel reads from the store: the current last tile in LOCAL, the window last in SERVE. -/
def Channel.lastRead (k : Channel) : Nat :=
  match k.state with
  | .serve => (k.window.getD (0, 0)).2
  | .localStore => k.curLast
  | .free => 0
  | .request => 0
  | .receive => 0

/-- One store read request for the next tile, with one empty buffer (R108, R124, R140). -/
def placeOne (c : Nat) (record : SheetRecord) (s : State) (b : Nat) : State :=
  let k := s.channel c
  if k.fetch ≤ k.lastRead then (placeRead c k.fetch b record s).modChannel c fun x => { x with fetch := x.fetch + 1 }
  else s

/-- A LOCAL or serving channel places one read request for each empty buffer it holds (R124, R140). -/
def placeReads (c : Nat) (s : State) : State :=
  match (s.channel c).record with
  | none => s
  | some r => (s.emptyBuffers c).foldl (placeOne c r) s

/-- A remote path remains for a LOCAL channel (R126). -/
def State.remotePath (k : Channel) (s : State) : Bool :=
  !s.rlc.blocks.any &&
    (k.candidates.drop k.afterSelf).any fun x => match x with
      | .self => false
      | .peer a => s.present a

/-- A LOCAL channel whose read of tile `n` ended BAD (R126). -/
def localBad (c n : Nat) (s : State) : State :=
  let k := s.channel c
  if s.remotePath k then
    let s1 := discardTiles c (fun t => decide (n < t)) (withdrawReads c s)
    chooseSource c (s1.modChannel c fun x => { x.leave with fetch := n, position := x.afterSelf })
  else s.modChannel c fun x => { x with missingDue := x.missingDue ++ [n] }

/-! ## Serving peers (7.7) -/

/-- The end of a service (R142). -/
def endService (c : Nat) (s : State) : State := closeChannel c s

/-- A SHEET REFUSE submitted, and counted (R139, R143). -/
def submitRefuse (dest tag : Nat) (reason : RefuseReason) (s : State) : State :=
  submitSheet .sheetRefuse dest [byte tag, byte reason.code] .refuse
    (s.countTransfers fun n => { n with serveRefuses := countUp n.serveRefuses })

/-- The serving channel of a requester and tag (R119). -/
def State.serviceOf (a tag : Nat) (s : State) : Option Nat :=
  (List.range 6).find? fun c => decide ((s.channel c).state = .serve) && decide ((s.channel c).owner = .peer a tag)

/-- How many channels are in SERVE. -/
def State.serving (s : State) : Nat := ((List.range 6).filter fun c => decide ((s.channel c).state = .serve)).length

/-- The checks NO_SHEET, REVISION and RANGE of a SHEET REQUEST payload: a refuse reason, or the record served (R139). -/
def State.requestCheck (p : List Byte) (s : State) : Except RefuseReason SheetRecord :=
  let floor := byteAt p 1
  let kind := byteAt p 2
  match s.lookup floor kind 0 with
  | none => .error .noSheet
  | some _ =>
    match s.lookup floor kind (halfAt p 3) with
    | none => .error .revision
    | some r => if halfAt p 7 < halfAt p 5 ∨ r.tileCount ≤ halfAt p 5 then .error .range else .ok r

/-- The window served for a SHEET REQUEST: at most 4 tiles, within the sheet (R139). -/
def servedWindow (p : List Byte) (r : SheetRecord) : Nat × Nat :=
  (halfAt p 5, min (halfAt p 7) (min (r.tileCount - 1) (halfAt p 5 + 3)))

/-- A channel enters SERVE for a request (R139). -/
def Channel.service (origin : Nat) (p : List Byte) (r : SheetRecord) (burst : Bool) : Channel :=
  { Channel.freed with
    state := .serve, owner := .peer origin (byteAt p 0), floor := byteAt p 1, kind := byteAt p 2, record := some r,
    window := some (servedWindow p r), nextTile := halfAt p 5, fetch := halfAt p 5, burstMode := burst }

/-- A new service, or the refuse BUSY (R139). -/
def newService (origin : Nat) (p : List Byte) (r : SheetRecord) (s : State) : State :=
  match s.freeChannel with
  | none => submitRefuse origin (byteAt p 0) .busy s
  | some c =>
    if 4 ≤ s.serving ∨ s.freeBuffers = 0 then submitRefuse origin (byteAt p 0) .busy s
    else
      let burst := decide (byteAt p 9 = 1) && decide (2 ≤ s.freeBuffers)
      claimBuffers c (if burst then 2 else 1) (s.setChannel c (Channel.service origin p r burst))

/-- A serving channel in YIELD keeps one buffer: of two, the higher-numbered one that is not busy returns to the pool
(R142). -/
def keepOneBuffer (c : Nat) (s : State) : State :=
  if 1 < s.heldBy c then
    match ((s.buffersWhere fun x => x.holder == some c).filter fun b => !s.bufferBusy b).getLast? with
    | none => s
    | some b => s.setBuffer b TileBuffer.freed
  else s

/-- An accepted replacement of the window a channel serves (R142). -/
def replaceService (c origin : Nat) (p : List Byte) (r : SheetRecord) (s : State) : State :=
  let s1 := (discardTiles c (fun _ => true) (withdrawReads c s)).modRlc (RiserLink.orphan c)
  let held := s1.heldBy c
  let burst := decide (byteAt p 9 = 1) && (decide (2 ≤ held) || decide (1 ≤ s1.freeBuffers))
  let s2 := s1.setChannel c (Channel.service origin p r burst)
  if burst then claimBuffers c (2 - held) s2 else keepOneBuffer c s2

/-- One more SHEET REQUEST ignored under a block or discarded as malformed (R139, R143). -/
def TransferCounters.ignored (k : TransferCounters) : TransferCounters := { k with serveIgnored := countUp k.serveIgnored }

/-- A SHEET REQUEST dispatched to the STE (R139, R142). -/
def takeSheetRequest (origin : Nat) (p : List Byte) (s : State) : State :=
  if s.rlc.blocks.any || !sheetRequestGood p then s.countTransfers TransferCounters.ignored
  else
    match s.serviceOf origin (byteAt p 0), s.requestCheck p with
    | none, .error reason => submitRefuse origin (byteAt p 0) reason s
    | none, .ok r => newService origin p r s
    | some c, .error reason => submitRefuse origin (byteAt p 0) reason (endService c s)
    | some c, .ok r => replaceService c origin p r s

/-- A SHEET CANCEL dispatched to the STE (R142). -/
def takeSheetCancel (origin : Nat) (p : List Byte) (s : State) : State :=
  match if p.length = 1 then s.serviceOf origin (byteAt p 0) else none with
  | some c => endService c s
  | none => s.countTransfers fun n => { n with strayCancels := countUp n.strayCancels }

/-! ## SHEET REFUSE and SHEET TILE (R128 to R131) -/

/-- The crew channel, not FREE, whose tag equals a frame's tag (R129). -/
def State.channelOfTag (tag : Nat) (s : State) : Option Nat :=
  (List.range 6).find? fun c => (s.channel c).isCrew && decide ((s.channel c).tag = tag)

/-- A gap event (R130). -/
def gapEvent (c : Nat) (s : State) : State :=
  if (s.channel c).gapStrike = 0 then
    buildWindow c (s.modChannel c fun k => { k with gapStrike := 1, gapRequest := true })
  else moveNext c true s

/-- One more stray tile (R129, R143). -/
def strayTile (s : State) : State := s.countTransfers fun n => { n with strayTiles := countUp n.strayTiles }

/-- A SHEET TILE is accepted by a channel (R129). -/
def State.tileFits (origin : Nat) (p : List Byte) (c : Nat) (s : State) : Bool :=
  let k := s.channel c
  k.isRemote && k.result.isNone && decide (k.currentPeer = some origin) && decide (k.floor = byteAt p 1) &&
    decide (k.kind = byteAt p 2) && (decide (k.pinned = 0) || decide (k.pinned = halfAt p 3)) &&
    decide (k.expected = some (halfAt p 5)) && !(s.emptyBuffers c).isEmpty

/-- The channel's fields after it has accepted a tile (R129, R131). -/
def Channel.accept (k : Channel) (now : Nat) (p : List Byte) : Channel :=
  let last := min k.curLast (halfAt p 7 - 1)
  let complete := match k.window with
    | none => true
    | some w => decide (min w.2 last < k.fetch + 1)
  { k with
    state := .receive, fetch := k.fetch + 1, curLast := last, pinned := if k.pinned = 0 then halfAt p 3 else k.pinned,
    gapStrike := 0, responseTimer := none, busyWait := none, gapTimer := if complete then none else some now }

/-- An accepted tile is copied into an empty buffer of its channel (R129). -/
def acceptTile (c : Nat) (p : List Byte) (s : State) : State :=
  match (s.emptyBuffers c).head? with
  | none => s
  | some b =>
    (s.setBuffer b { holder := some c, state := .full (halfAt p 5) (p.drop 14) }).modChannel c fun k => k.accept s.clock p

/-- A tile above the one expected, from the current candidate of a channel in RECEIVE whose window is not complete
(R130). -/
def State.tileGaps (origin : Nat) (p : List Byte) (c : Nat) (s : State) : Bool :=
  let k := s.channel c
  decide (k.state = .receive) && k.result.isNone && decide (k.currentPeer = some origin) &&
    (match k.expected with | none => false | some t => decide (t < halfAt p 5))

/-- A SHEET TILE dispatched to the STE (R129, R130). -/
def takeSheetTile (origin : Nat) (p : List Byte) (s : State) : State :=
  if !sheetTileGood p then strayTile s
  else
    match s.channelOfTag (byteAt p 0) with
    | none => strayTile s
    | some c =>
      if s.tileFits origin p c then acceptTile c p s
      else if s.tileGaps origin p c then gapEvent c (strayTile s)
      else strayTile s

/-- The reason recorded of a refuse (R128). -/
def Channel.refused (k : Channel) (reason : RefuseReason) : Channel := { k with lastRefuse := some reason }

/-- A refuse from the current candidate taken by its channel (R128). -/
def channelRefused (c : Nat) (reason : RefuseReason) (s : State) : State :=
  let k := s.channel c
  if k.state = .request ∧ reason = .busy then
    if k.busyRetries < 3 then
      s.modChannel c fun x =>
        { x with responseTimer := none, busyRetries := x.busyRetries + 1, busyWait := some s.clock }
    else moveNext c false s
  else moveNext c false (s.modChannel c fun x => x.refused reason)

/-- A SHEET REFUSE dispatched to the STE (R128, R129). -/
def takeSheetRefuse (origin : Nat) (p : List Byte) (s : State) : State :=
  let stray := s.countTransfers fun n => { n with strayRefuses := countUp n.strayRefuses }
  match (if p.length = 2 then RefuseReason.ofCode (byteAt p 1) else none), s.channelOfTag (byteAt p 0) with
  | some reason, some c =>
    let k := s.channel c
    if k.fetching && decide (k.currentPeer = some origin) then channelRefused c reason s else stray
  | _, _ => stray

/-! ## Block onsets, holder loss, cancel (R101, R135, R137, R138) -/

/-- Every serving channel is abandoned (R101, R142). -/
def abandonService (s : State) (c : Nat) : State := if (s.channel c).state = .serve then endService c s else s

def abandonServices (s : State) : State := (List.range 6).foldl abandonService s

/-- A crew channel whose current candidate is a lost peer moves on, without a SHEET CANCEL (R135). -/
def loseHolder (x : Nat) (s : State) (c : Nat) : State :=
  if (s.channel c).fetching && decide ((s.channel c).currentPeer = some x) then moveNext c false s else s

/-- The service of a lost requester ends (R142). -/
def loseRequester (x : Nat) (s : State) (c : Nat) : State :=
  if (s.channel c).state = .serve ∧ (s.channel c).requester.1 = x then endService c s else s

/-- The STE's part of the loss of a peer (R135, R142): crew channels before services, each in ascending number (log 41). -/
def holderLoss (x : Nat) (s : State) : State :=
  (List.range 6).foldl (loseRequester x) ((List.range 6).foldl (loseHolder x) s)

/-- A message being sent of a channel that has ended tells it nothing (R159). -/
def CrewPort.forget (c : Nat) (q : CrewPort) : CrewPort :=
  { q with
    sending := q.sending.map fun m =>
      match m.source with
      | .tile k => if k = c then { m with live := false } else m
      | .sheetEnd k => if k = c then { m with live := false } else m
      | .sheetRestart k => if k = c then { m with live := false } else m
      | _ => m }

/-- A crew channel is cancelled (R137). -/
def cancelChannel (p : Port) (c : Nat) (s : State) : State :=
  let s1 := if (s.channel c).isRemote then submitCancel c s else s
  (closeChannel c (withdrawRequest c s1)).modPort p (CrewPort.forget c)

/-- A channel is cancelled when the port owns it. -/
def cancelOwned (p : Port) (s : State) (c : Nat) : State := if s.ownedBy p c then cancelChannel p c s else s

/-- Every channel of a port is cancelled, in ascending channel number (R138). -/
def cancelChannels (p : Port) (s : State) : State := (List.range 6).foldl (cancelOwned p) s

/-! ## What an event leaves for the channels to do (R121, R124, R127, R131, R136, R140) -/

/-- The channel needs its next window: the present one is complete and every buffer it holds is empty (R131). -/
def State.needsWindow (c : Nat) (s : State) : Bool :=
  let k := s.channel c
  decide (k.state = .receive) && decide (k.expected = none) && decide (k.fetch ≤ k.curLast) &&
    decide ((s.emptyBuffers c).length = s.heldBy c)

/-- A crew channel tries again for the window it waits to build (R121, R127), or asks for its next one (R131). -/
def pumpWindow (c : Nat) (s : State) : State :=
  if (s.channel c).wantWindow then buildWindow c s
  else if s.needsWindow c then
    buildWindow c (s.modChannel c fun x => { x with busyRetries := 0, gapRequest := false })
  else s

/-- A crew channel ends DONE when its next tile to deliver passes the current last tile (R125, R136); otherwise it goes on
as `f` says. -/
def unlessOver (c : Nat) (f : State → State) (s : State) : State :=
  let k := s.channel c
  if k.result.isSome then s else if k.curLast < k.nextTile then endTransfer c .done s else f s

/-- A LOCAL channel places its reads, claiming buffers first when it holds none (R121, R124). -/
def pumpLocal (c : Nat) (s : State) : State := placeReads c (if s.heldBy c = 0 then crewClaim c s else s)

/-- What a channel does at the end of an event: it ends DONE, places its reads (R124, R140), or goes on with its window. A
window answered NO_PATH can bring it back to LOCAL (R135), where it acts on at once. -/
def pumpChannel (s : State) (c : Nat) : State :=
  match (s.channel c).state with
  | .free => s
  | .serve => placeReads c s
  | .localStore => unlessOver c (pumpLocal c) s
  | .request | .receive =>
    let t := unlessOver c (pumpWindow c) s
    if (t.channel c).state = .localStore then unlessOver c (pumpLocal c) t else t

/-- The channels act at the end of an event, in ascending number. -/
def pumpChannels (s : State) : State := (List.range 6).foldl pumpChannel s

/-- The result of a read is handed to its channel (R110, R126, R141). -/
def readResult (r : TileRead) (data : Option (List Byte)) (s : State) : State :=
  let h := (s.buffer r.buffer).holder
  match data with
  | some d => s.setBuffer r.buffer { holder := h, state := .full r.tile d }
  | none =>
    let s1 := s.setBuffer r.buffer { holder := h, state := .empty }
    let k := s1.channel r.channel
    match k.state with
    | .localStore => localBad r.channel r.tile s1
    | .serve => endService r.channel (submitRefuse k.requester.1 k.requester.2 .storeFault s1)
    | .free | .request | .receive => s1

/-- One more tile read BAD (R110). -/
def PlanStore.oneBad (p : PlanStore) : PlanStore := { p with tilesBad := countUp p.tilesBad }

/-- The free store takes what waits (R109); a request whose tile number is not below the tile count ends at once with
BAD (R110). `fuel` bounds the requests that can end so: the lists hold at most 16. -/
def serveStore : Nat → State → State
  | 0, s => s
  | fuel + 1, s =>
    if s.store.isFree then
      match s.store.next with
      | .nothing => s
      | .maintenance op discard => s.modStore (PlanStore.start s.clock (.maintenance op discard))
      | .tile r =>
        if r.tile < r.record.tileCount then s.modStore (PlanStore.start s.clock (.tile r))
        else serveStore fuel (readResult r none (s.modStore fun p => (p.take r).oneBad))
    else s

/-- The end of a tile read, in one event (R109 to R111): the store begins its next access, the result is handed to its
channel, or discarded with its buffer. The next access begins before the channel acts on a BAD tile, as the worked
transfer of 7.8 shows (log 14). -/
def tileReadEnds (r : TileRead) (withdrawn : Bool) (data : Option (List Byte)) (s : State) : State :=
  let s1 := beginAccess (s.modStore fun p => { p with access := .free })
  if withdrawn then bufferOver r.buffer s1 else readResult r data s1

/-! ## Crew requests (R122, R137) -/

/-- The list of a request gives a local source (R122, check 5). -/
def State.localSource (floor kind revision : Nat) (s : State) : Bool :=
  decide ((s.candidates floor kind).head? = some .self) && (s.lookup floor kind revision).isSome

/-- The fields of an accepted crew channel (R119, R122). -/
def Channel.crew (p : Port) (floor kind first last revision tag : Nat) (candidates : List Source) : Channel :=
  { Channel.freed with
    state := .request, owner := .port p, floor := floor, kind := kind, pinned := revision, origFirst := first,
    origLast := last, curFirst := first, curLast := last, nextTile := first, fetch := first, candidates := candidates,
    tag := tag }

/-- A SHEET request taken from port `p` (R122, R123, R124): the state after it, the result and the fields of the response. -/
def takeSheet (p : Port) (floor kind first last revision : Nat) (s : State) : State × Result × List Byte :=
  if (s.port p).label = none then (s, .noLabel, [])
  else if last < first then (s, .badRange, [])
  else
    match s.freeChannel with
    | none => (s, .busy, [])
    | some c =>
      if 3 ≤ (s.channelsOf p).length then (s, .busy, [])
      else if s.candidates floor kind = [] then (s, .noHolder, [])
      else if s.rlc.blocks.any && !s.localSource floor kind revision then (s, .noPath, [])
      else
        let tag := s.nextTag
        let k := Channel.crew p floor kind first last revision tag (s.candidates floor kind)
        let stepped := s.modSte fun e => { e with tagCounter := tag }
        match s.nextSource k with
        | none => (stepped, .noHolder, [])
        | some i =>
          let beyond := match k.candidates[i]? with
            | some .self => (match s.lookup floor kind revision with
              | none => false
              | some r => decide (r.tileCount ≤ first))
            | _ => false
          if beyond then (stepped, .badRange, [])
          else (enterSource c i (stepped.setChannel c k), .accepted, [byte c, byte tag])

/-- A CANCEL request taken from port `p` (R137). -/
def takeCancel (p : Port) (c : Nat) (s : State) : State × Result × List Byte :=
  if c ≤ 5 ∧ s.ownedBy p c then (cancelChannel p c s, .cancelled, [byte c]) else (s, .notOwner, [])

end Sys2Proof.Machine
end

