-- ==== Sys2Proof/Machine/Riser.lean ====
section
/-! DEFINITION. The Riser Link Controller's events (chapter 5): block onsets, the ends of a transmission, and a frame
taken from the line. -/

namespace Sys2Proof.Machine

open Sys2Proof

/-! ## Transmit blocks (R97 to R101) -/

/-- A block of the set made present or absent. -/
def State.putBlock (b : Block) (v : Bool) (s : State) : State := s.modRlc fun r => { r with blocks := r.blocks.put b v }

/-- A transmission has ended: nothing is driven, and no burst continues. -/
def RiserLink.driverOff (r : RiserLink) : RiserLink := { r with tx := none, burst := none, yieldDue := false }

/-- The transmission in progress is cut (R101, step 1). After a cut frame the receiver waits for idle detection (log 21).
A buffer under a frame whose service had ended is released. -/
def cutTransmission (s : State) : State :=
  match s.rlc.tx with
  | none => s.modRlc RiserLink.driverOff
  | some t =>
    let s1 := s.modRlc fun r => { r.driverOff with phase := if t.frame.isSome then .awaitIdle else r.phase }
    match t.source with
    | .tile _ b => if t.serviceLive then s1 else bufferOver b s1
    | _ => s1

/-- The submitter of a discarded CONTROL entry is told NO_PATH (R63, R101, R135, R143). A head its channel has withdrawn, cut in
transmission, is counted not sent, and the channel does not act on it (log 44). -/
def tellNoPath (s : State) (e : ControlEntry) : State :=
  match e.submitter with
  | .mark => s.modMarks MarkCounts.oneNotSent
  | .request c _ =>
    let s1 := s.countTransfers TransferCounters.notSent
    if !e.withdrawn && (s1.channel c).fetching then channelNoPath c s1 else s1
  | .refuse => s.countTransfers TransferCounters.notSent
  | .cancel => s.countTransfers TransferCounters.notSent

/-- Every CONTROL entry is discarded, the head first (R101, step 3). -/
def discardControl (s : State) : State :=
  s.rlc.control.foldl tellNoPath (s.modRlc fun r => { r with control := [] })

/-- An onset of a block (R101). -/
def onset (b : Block) (s : State) : State :=
  (abandonServices (discardControl (cutTransmission (s.putBlock b true)))).notifyBoth fun n => n.takeBlock s.clock b

/-- SILENCED appears with an onset that brings its count to 3 (R100). -/
def silenceAt (count : Nat) (s : State) : State :=
  if count = 3 ∧ s.rlc.blocks.silenced = false then onset .silenced s else s

/-- The onset of DUPLICATE (R98, R99). -/
def duplicateOnset (s : State) : State :=
  let n := satNext 3 s.rlc.duplicateCount
  silenceAt n (onset .duplicate (s.modRlc fun r =>
    { r with duplicateCount := n, duplicateDecay := some s.clock, duplicateHold := some s.clock }))

/-- The onset of BABBLE (R99). -/
def babbleOnset (s : State) : State :=
  let n := satNext 3 s.rlc.babbleCount
  silenceAt n (onset .babble (s.modRlc fun r =>
    { r with babbleCount := n, babbleDecay := some s.clock, babbleTimer := some s.clock }))

/-- The onset of LINE (R83, R99). -/
def lineOnset (s : State) : State := onset .line (s.modRlc fun r => { r with lineTimer := some s.clock })

/-- A duplicate event (R94, R98). -/
def duplicateEvent (s : State) : State :=
  let s1 := s.countLink fun k => { k with duplicateEvents := countUp k.duplicateEvents }
  if s.rlc.blocks.duplicate then s1.modRlc fun r => { r with duplicateHold := some s.clock } else duplicateOnset s1

/-! ## The end of a transmission (R77, R82 to R84, R87, R88, R90, R91) -/

/-- A channel is told its SHEET REQUEST sent (R127, R130). -/
def requestSent (c : Nat) (gap : Bool) (s : State) : State :=
  s.modChannel c fun k =>
    if k.isRemote && k.result.isNone then
      if gap then (if k.state = .receive ∧ k.expected.isSome then { k with gapTimer := some s.clock } else k)
      else { k with responseTimer := some s.clock }
    else k

/-- The head of the CONTROL queue was sent (R90). -/
def controlSent (s : State) : State :=
  match s.rlc.control with
  | [] => s
  | h :: rest =>
    let s1 := s.modRlc fun r => { r with control := rest }
    match h.submitter with
    | .request c gap => if h.withdrawn then s1 else requestSent c gap s1
    | .mark => s1
    | .refuse => s1
    | .cancel => s1

/-- A ZONE STATE was sent (R87, R88, R89). -/
def zoneStateSent (t : Transmission) (s : State) : State :=
  s.modRlc fun r =>
    { r with
      alarmPending := if t.alarmAtStart && !t.raisedSince then false else r.alarmPending
      refreshMark := false
      refreshTimer := some s.clock
      zoneStateSent := true }

/-- A DIRECTORY was sent (R88, R89). -/
def directoryFrameSent (s : State) : State := s.modRlc fun r => { r with directoryMark := false, directorySent := true }

/-- The serving channel moves past the tile sent, and its service ends complete with the window last (R141, R142). -/
def serviceAdvance (c b : Nat) (s : State) : State :=
  let k := s.channel c
  let s1 := (s.setBuffer b { holder := some c, state := .empty }).setChannel c { k with nextTile := k.nextTile + 1 }
  if (k.window.getD (0, 0)).2 ≤ k.nextTile then
    endService c (s1.countTransfers fun n => { n with servicesCompleted := countUp n.servicesCompleted })
  else s1

/-- A SHEET TILE was sent (R84, R91, R141, R142). -/
def tileSent (c b : Nat) (t : Transmission) (s : State) : State :=
  let s1 := s.modRlc fun r =>
    { r with bulkRotation := c, burst := if t.moreFollows && !r.alarmPending then some c else none }
  if t.serviceLive then serviceAdvance c b s1 else bufferOver b s1

/-- The frame of a transmission is sent (R77, R78, R83). -/
def RiserLink.frameSent (address : Nat) (f : Frame) (r : RiserLink) : RiserLink :=
  { r.driverOff with
    phase := .quiet
    abandoned := 0
    lastOrigins := r.lastOrigins.set f.kind.cls address
    counters := { r.counters with framesSent := countUp r.counters.framesSent } }

/-- The holding of a frame sent is updated, and its submitter or channel told (R87 to R91). -/
def holdingSent (t : Transmission) (s : State) : State :=
  match t.source with
  | .zoneState => zoneStateSent t s
  | .directory => directoryFrameSent s
  | .control => controlSent s
  | .tile c b => tileSent c b t s
  | .yieldMark => s

/-- The transmission in progress is completed (R77). -/
def completeTransmission (s : State) : State :=
  match s.rlc.tx with
  | none => s
  | some t =>
    match t.frame with
    | none => s.modRlc fun r => { r with tx := none }
    | some f => holdingSent t (s.modRlc (RiserLink.frameSent s.address f))

/-- The holding of an abandoned attempt keeps its place; an entry withdrawn meanwhile leaves the queue, and a buffer
whose service has ended is released (R82, R90, R142). -/
def holdingAbandoned (t : Transmission) (s : State) : State :=
  match t.source with
  | .control =>
    s.modRlc fun r =>
      { r with control := match r.control with | [] => [] | h :: rest => if h.withdrawn then rest else h :: rest }
  | .tile _ b => if t.serviceLive then s else bufferOver b s
  | .zoneState => s
  | .directory => s
  | .yieldMark => s

/-- An attempt abandoned by read-back: the counts go up, and the station receives the frame on the line (R82, R83). -/
def RiserLink.attemptAbandoned (r : RiserLink) : RiserLink :=
  { r.driverOff with
    phase := .receiving
    abandoned := r.abandoned + 1
    counters := { r.counters with collisions := countUp r.counters.collisions } }

/-- The eighth consecutive abandoned attempt brings the LINE block (R83). -/
def lineFault (s : State) : State :=
  if 8 ≤ s.rlc.abandoned then lineOnset (s.modRlc fun r => { r with abandoned := 0 }) else s

/-- The transmission in progress is abandoned (R82). -/
def abandonAttempt (s : State) : State :=
  match s.rlc.tx with
  | none => s
  | some t =>
    match t.frame with
    | none => s
    | some _ => lineFault (holdingAbandoned t (s.modRlc RiserLink.attemptAbandoned))

/-! ## Receive (R93 to R95) -/

/-- The receiver is at a place where a frame can end: it is live, it does not wait for idle detection, and the station
sends no frame of its own (R76, R93, R94). -/
def State.receives (s : State) : Bool :=
  (match s.rlc.phase with
    | .off => false
    | .awaitIdle => false
    | .quiet => true
    | .idle _ => true
    | .receiving => true) &&
  match s.rlc.tx with
  | none => true
  | some t => t.frame.isNone

/-- A frame ends well-formed: the last origin of its class moves (R78), and the yield decision is taken (R85, R94). -/
def RiserLink.frameEnds (f : Frame) (r : RiserLink) : RiserLink :=
  { r.driverOff with
    phase := .quiet
    lastOrigins := if validAddress f.origin then r.lastOrigins.set f.kind.cls f.origin else r.lastOrigins
    yieldDue := decide (f.kind = .sheetTile) && tileMoreFollows f.payload && r.alarmPending && !r.blocks.any }

/-- The destination does not go with the kind (R94, step 4). -/
def Frame.misdirected (f : Frame) : Bool := if f.kind.isBroadcast then decide (f.dest ≠ 63) else !validAddress f.dest

/-- A frame that ends well-formed is taken in one event (R94, R95): `act` is what the Peer Table and the block its kind
names do with it. An origin byte of 64 to 255, of which R50, R78 and R95 do not speak, is taken as 0 and 63 are
(log 42). -/
def receiveFrame (f : Frame) (act : State → State) (s : State) : State :=
  if s.receives then
    let s1 := s.modRlc (RiserLink.frameEnds f)
    if f.origin = s.address then duplicateEvent s1
    else if f.misdirected then s1.countLink fun k => { k with misdirected := countUp k.misdirected }
    else if f.dest ≠ s.address ∧ f.dest ≠ 63 then s1.countLink fun k => { k with notForThis := countUp k.notForThis }
    else
      let s2 := s1.countLink fun k => { k with accepted := countUp k.accepted }
      if validAddress f.origin then act s2
      else s2.modPeers fun t => { t with unplacedFrames := countUp t.unplacedFrames }
  else s

/-- A ZONE STATE accepted from peer `x` (R31, R32, R50). -/
def takeZoneState (x : Nat) (payload : List Byte) (s : State) : State :=
  if zonePayloadGood payload then frameHeard x (.row payload) s
  else (frameHeard x .other s).modPicture fun p => { p with rejectedReports := countUp p.rejectedReports }

/-- A DIRECTORY accepted from peer `x` (R50, R54, R55). -/
def takeDirectory (x : Nat) (payload : List Byte) (s : State) : State :=
  if directoryGood payload then frameHeard x (.directory (directoryOf payload)) s
  else (frameHeard x .other s).modPeers fun t => { t with rejectedDirectories := countUp t.rejectedDirectories }

end Sys2Proof.Machine
end

