-- ==== Sys2Proof/Machine/Requests.lean ====
section
/-! DEFINITION. The crew requests (chapters 8 and 9, 6.4): the responses, what each request does when it is taken, and
the dispatch of R151. -/

namespace Sys2Proof.Machine

open Sys2Proof

/-! ## Responses (R147, R149) -/

/-- The bodies of the parts of a response: each begins with the request's kind code, the result code, the part number and
the number of parts (8.2). -/
def responseBodies (kind : Nat) (result : Result) (parts : List (List Byte)) : List (List Byte) :=
  parts.mapIdx fun i fields => [byte kind, byte result.code, byte (i + 1), byte parts.length] ++ fields

/-- A response placed in the response slot (R149). The responses then in the store result slot were placed first (R159);
each of them has one part. -/
def CrewPort.place (bodies : List (List Byte)) (q : CrewPort) : CrewPort :=
  { q with responseSlot := bodies, storeAhead := q.storeSlot.length }

/-- A response placed in the store result slot, after those it still holds (R149; log 18). -/
def CrewPort.placeStore (bodies : List (List Byte)) (q : CrewPort) : CrewPort := { q with storeSlot := q.storeSlot ++ bodies }

/-- The response of several parts to the request last taken. -/
def respondParts (p : Port) (kind : Nat) (result : Result) (parts : List (List Byte)) (s : State) : State :=
  s.modPort p (CrewPort.place (responseBodies kind result parts))

/-- The response of one part to the request last taken. -/
def respond (p : Port) (kind : Nat) (result : Result) (fields : List Byte) (s : State) : State :=
  respondParts p kind result [fields] s

/-- The response that an owner's answer gives. -/
def answerWith (p : Port) (kind : Nat) (r : State × Result × List Byte) : State := respond p kind r.2.1 r.2.2 r.1

/-! ## Attachment (R152, R153, R146) -/

/-- The label of an ATTACH body: its first 8 characters, trailing 0x20 removed (R152). -/
def attachLabel (body : List Byte) : Text := trimText (body.take 8)

/-- The fields of an ATTACH response (R147). -/
def State.attachFields (s : State) (p : Port) : List Byte :=
  [byte s.address, byte (portCode p)] ++ padTo 8 (((s.port p).label).getD []) ++
    [byte s.condition.code, byte (bit 0 s.noConfig)]

/-- An accepted ATTACH (R152): a first one seeds the notice queue (R175). -/
def attachPort (p : Port) (label : Text) (s : State) : State :=
  let s1 := s.modPort p fun q => { q with attached := true, label := some label }
  if (s.port p).attached then s1 else s1.modNotices p fun n => n.seed s.clock s.seedAlarms

/-- An ATTACH request taken (R152). -/
def serveAttach (p : Port) (body : List Byte) (s : State) : State :=
  if allPrintable body && !(attachLabel body).isEmpty then
    let s1 := attachPort p (attachLabel body) s
    respond p 0x01 .ok (s1.attachFields p) s1
  else respond p 0x01 .format [] s

/-- What a DETACH and a port reset do to the port's neighbours: attendance withdrawn while the label is held, then the
channels cancelled, and the Notice Controller detached (R74, R138, R146, R153, R163). -/
def leavePort (p : Port) (s : State) : State :=
  (cancelChannels p (withdrawAttendance p s)).modNotices p NoticeController.detached

/-- A DETACH request taken (R153). -/
def serveDetach (p : Port) (s : State) : State :=
  respond p 0x02 .ok [] ((leavePort p s).modPort p fun q => { q with attached := false, label := none })

/-- The port's own values after a port reset (R146). The stream's period is not among them and is kept (log 3). -/
def CrewPort.afterReset (q : CrewPort) : CrewPort :=
  { q with
    attached := false, label := none, breakHeld := true, receiving := false, buffer := [],
    flags := { (default : ErrorFlags) with breakSeen := true }, responseSlot := [], storeSlot := [], storeAhead := 0,
    sending := none, rotation := 5, stream := { q.stream with isOn := false, cursor := 0, passOpen := false } }

/-- A port reset (R146). A maintenance operation goes on, its response to be discarded (R112). -/
def portReset (p : Port) (s : State) : State :=
  let s1 := (leavePort p s).modPort p CrewPort.afterReset
  if p = .a then s1.modStore PlanStore.discardResponses else s1

/-! ## Picture requests (R154, R155) -/

/-- A PICTURE request taken (R154). -/
def servePicture (p : Port) (first last : Nat) (s : State) : State :=
  if last < first then respond p 0x03 .badRange [] s
  else
    let used := min last (first + 15)
    respond p 0x03 .ok
      ([byte first, byte used] ++
        ((List.range (used - first + 1)).map fun k => summaryRecord (first + k) (s.floor (first + k))).flatten) s

/-- The counted entries of a floor, in ascending order of origin and line, as entry records (R45). -/
def State.countedRecords (s : State) (f : Nat) : List (List Byte) :=
  s.picture.entries.toList.zipIdx.filterMap fun x =>
    if x.1.countedOn f then
      some (entryRecord s.clock (x.2 / 16) (x.2 % 16) (s.presenceCode (x.2 / 16)) x.1)
    else none

/-- A list cut into runs of at most eight. -/
def runsOfEight {α : Type} : Nat → List α → List (List α)
  | 0, _ => []
  | n + 1, l => if l.isEmpty then [] else l.take 8 :: runsOfEight n (l.drop 8)

/-- The most entries a FLOOR response gives (R155). -/
def floorLimit : Nat := 32

/-- The parts of a FLOOR response (R155). -/
def State.floorParts (s : State) (f start : Nat) : List (List Byte) :=
  let all := s.countedRecords f
  let given := (all.drop start).take floorLimit
  ([summaryRecord f (s.floor f), be16 all.length, be16 start,
      [byte given.length, byte (bit 0 (decide (start + given.length < all.length)))],
      s.attendanceBytes f].flatten) :: (runsOfEight 4 given).map List.flatten

/-- A FLOOR request taken: the response is built, and the floor re-latched when it is watched (R155, R178). -/
def serveFloor (p : Port) (f start : Nat) (s : State) : State :=
  (respondParts p 0x04 .ok (s.floorParts f start) s).modNotices p fun n => n.relatch f (s.liveLatch f)

/-! ## Notices (R164, R173, R174, R176) -/

/-- A WATCH request taken (R176). -/
def serveWatch (p : Port) (body : List Byte) (s : State) : State :=
  let floors := watchFloors body
  respond p 0x05 .ok ([byte floors.length] ++ floors.map byte) (s.modNotices p fun n => n.setWatch floors s.liveLatch)

/-- A PEEK request taken (R174). -/
def servePeek (p : Port) (s : State) : State :=
  let n := s.notices p
  match if (s.port p).attached then n.stack.getLast?.bind n.find else none with
  | none => respond p 0x0A .none [] s
  | some r => respond p 0x0A .ok (s.noticeBody r n.stack.length) s

/-- The record a FINISH removes, its response built after the removal, and the watched floor queued again when it still
differs (R173, R178). -/
def finishRecord (p : Port) (r : Notice) (s : State) : State :=
  let s1 := s.modNotices p fun n => n.finishKey r.key
  (respond p 0x0B .ok (s1.noticeBody r (s1.notices p).stack.length) s1).modNotices p fun n =>
    n.requeueWatch s.clock r.key s.liveLatch

/-- A FINISH request taken (R173). -/
def serveFinish (p : Port) (level : Nat) (s : State) : State :=
  match ((s.notices p).stackAt level).bind (s.notices p).find with
  | none => respond p 0x0B .none [] s
  | some r => finishRecord p r s

/-- A MASK request taken (R164). -/
def serveMask (p : Port) (bits : Byte) (s : State) : State :=
  let s1 := s.modNotices p fun n => n.setMask bits
  respond p 0x0C .ok [(s1.notices p).mask] s1

/-! ## The picture stream (R156, R157) -/

/-- A floor has a worst other than NONE. -/
def State.floorShown (s : State) (f : Nat) : Bool := decide ((s.floor f).counts.worst ≠ .none)

/-- The lowest floor from a cursor onward with a worst other than NONE (R157). -/
def State.nextShown (s : State) (cursor : Nat) : Option Nat :=
  (List.range 256).find? fun f => decide (cursor ≤ f) && s.floorShown f

/-- A pass starts: open with the cursor at floor 0, or ended with it past 255 when the pass finds no floor at all (R156,
R157). -/
def startPass (p : Port) (s : State) : State :=
  let found := (s.nextShown 0).isSome
  s.modPort p fun q =>
    { q with stream := { q.stream with start := s.clock, cursor := if found then 0 else 256, passOpen := found } }

/-- A period clamped to 1 to 60 seconds (R156). -/
def clampPeriod (n : Nat) : Nat := max 1 (min n 60)

/-- The fields of a STREAM response (R147). -/
def State.streamFields (s : State) (p : Port) : List Byte :=
  [byte (bit 0 (s.port p).stream.isOn), byte (s.port p).stream.period]

/-- A STREAM request, on, taken (R156). -/
def serveStreamOn (p : Port) (period : Nat) (s : State) : State :=
  let s1 := s.modPort p fun q => { q with stream := { q.stream with isOn := true, period := clampPeriod period } }
  let s2 := if (s.port p).stream.isOn then s1 else startPass p s1
  respond p 0x0D .ok (s2.streamFields p) s2

/-- A STREAM request, off, taken (R156). -/
def serveStreamOff (p : Port) (s : State) : State :=
  let s1 := s.modPort p fun q => { q with stream := { q.stream with isOn := false } }
  respond p 0x0D .ok (s1.streamFields p) s1

/-! ## STATUS (R158) -/

/-- Part 1: station and port. -/
def State.statusPort (s : State) (p : Port) : List Byte :=
  let q := s.port p
  [byte s.address, byte s.condition.code, byte (bit 0 s.noConfig)] ++
    padTo 16 (match s.store.image with | none => [] | some h => h.name) ++
    be32 (satAt 4294967295 (s.clock / 1000)) ++ [byte (bit 0 q.attached)] ++ padTo 8 (q.label.getD []) ++
    [byte (statusFlags q.flags (s.notices p).lost), byte (bit 0 q.stream.isOn), byte q.stream.period,
      byte (((s.channelsOf p).map fun c => 2 ^ c).sum)]

/-- The fifteen link counters, in the order of R96. -/
def LinkCounters.list (k : LinkCounters) : List Nat :=
  [k.framesSent, k.collisions, k.guardCuts, k.yieldMarks, k.burstsYielded, k.badStart, k.framingError, k.badLength,
    k.truncated, k.badCrc, k.unknownKind, k.duplicateEvents, k.misdirected, k.notForThis, k.accepted]

/-- Part 2: riser. -/
def State.statusRiser (s : State) : List Byte :=
  let r := s.rlc
  (r.counters.list.map be16).flatten ++
    [byte r.blocks.bits, byte r.duplicateCount, byte r.babbleCount, byte r.abandoned, byte r.control.length,
      byte r.lastOrigins.alarm, byte r.lastOrigins.control, byte r.lastOrigins.bulk, byte r.lastOrigins.routine]

/-- The ten counters of R143, in the order of its table. -/
def TransferCounters.list (k : TransferCounters) : List Nat :=
  [k.done, k.failed, k.restarts, k.strayTiles, k.strayRefuses, k.servicesCompleted, k.serveRefuses, k.serveIgnored,
    k.strayCancels, k.controlNotSent]

/-- The five directory counts, in the order of R105. -/
def DirectoryCounts.list (k : DirectoryCounts) : List Nat :=
  [k.accepted, k.badCheck, k.outOfRange, k.beyond, k.duplicate]

/-- Part 3: other counters. -/
def State.statusCounters (s : State) : List Byte :=
  (([s.picture.rejectedReports, s.peers.unplacedFrames, s.peers.rejectedDirectories, s.marks.rejected,
      s.marks.discarded, s.marks.notSent] ++ s.store.counts.list ++
      [s.store.tilesOk, s.store.tilesBad, s.store.timeouts] ++ s.ste.counters.list).map be16).flatten

/-- One address of parts 4 and 5. -/
def State.statusPeer (s : State) (a : Nat) : List Byte :=
  if a = s.address then [0, 0, 0, 0xFF, 0xFF]
  else
    let r := s.peer a
    [byte r.presence.code] ++ be16 r.framesHeard ++
      (match r.directory with
        | none => [0xFF, 0xFF]
        | some d => [byte d.condition.code, byte (bit 0 d.noConfig)])

/-- Parts 4 and 5: `count` addresses from `first`. -/
def State.statusPeers (s : State) (first count : Nat) : List Byte :=
  ((List.range count).map fun k => s.statusPeer (first + k)).flatten

/-- The clear option: the five flags and NOTICE_LOST (R150, R158). -/
def clearFlags (p : Port) (s : State) : State :=
  (s.modPort p fun q => { q with flags := default }).modNotices p fun n => { n with lost := false }

/-- A STATUS request taken (R158). -/
def serveStatus (p : Port) (clear : Nat) (s : State) : State :=
  let s1 := respondParts p 0x0E .ok
    [s.statusPort p, s.statusRiser, s.statusCounters, s.statusPeers 1 31, s.statusPeers 32 31] s
  if clear = 1 then clearFlags p s1 else s1

/-! ## STORE requests (R112 to R115) -/

/-- A maintenance operation accepted, or refused BUSY (R112). An accepted one places nothing in the response slot
(R149). -/
def acceptOperation (kind : Nat) (op : MaintOp) (p : Port) (s : State) : State :=
  if s.store.maintBusy then respond p kind .busy [] s
  else s.modStore fun x => { x with waiting := some (op, false) }

/-- A STORE WRITE taken (R113). -/
def serveStoreWrite (p : Port) (body : List Byte) (s : State) : State :=
  if writeOutOfRange (wordAt body 0) (body.drop 4).length then respond p 0x10 .range [] s
  else acceptOperation 0x10 (.write (wordAt body 0) (body.drop 4)) p s

/-- A STORE ERASE taken (R114). -/
def serveStoreErase (p : Port) (block : Nat) (s : State) : State :=
  if 1023 < block then respond p 0x11 .range [] s else acceptOperation 0x11 (.erase block) p s

/-- A STORE CHECK taken (R115). -/
def serveStoreCheck (p : Port) (s : State) : State := acceptOperation 0x12 .check p s

/-- The result of a maintenance operation, placed in port A's store result slot unless it is discarded (R112, R149). -/
def storeResult (discard : Bool) (kind : Nat) (result : Result) (fields : List Byte) (s : State) : State :=
  if discard then s else s.modPort .a (CrewPort.placeStore (responseBodies kind result [fields]))

/-- The fields of a CHECKED response (R115, R147). -/
def checkedFields (x : StoreScan) : List Byte :=
  (match x.header with
    | none => [0] ++ padTo 16 [] ++ [0, 0, 0]
    | some h => [1] ++ padTo 16 h.name ++ [byte h.firstFloor, byte h.floorCount, byte h.replicas.length]) ++
    x.counts.list.map byte

/-! ## Dispatch (R151) -/

/-- The request kinds of the kind table (8.2). -/
inductive RequestKind where
  | attach
  | detach
  | picture
  | floor
  | watch
  | sheet
  | cancel
  | ack
  | attend
  | peek
  | finish
  | mask
  | stream
  | status
  | storeWrite
  | storeErase
  | storeCheck
  deriving DecidableEq, Repr, Inhabited

/-- The kind a code names (8.2). -/
def RequestKind.ofCode : Nat → Option RequestKind
  | 0x01 => some .attach
  | 0x02 => some .detach
  | 0x03 => some .picture
  | 0x04 => some .floor
  | 0x05 => some .watch
  | 0x06 => some .sheet
  | 0x07 => some .cancel
  | 0x08 => some .ack
  | 0x09 => some .attend
  | 0x0A => some .peek
  | 0x0B => some .finish
  | 0x0C => some .mask
  | 0x0D => some .stream
  | 0x0E => some .status
  | 0x10 => some .storeWrite
  | 0x11 => some .storeErase
  | 0x12 => some .storeCheck
  | _ => none

/-- The three STORE requests (R112). -/
def RequestKind.isStore : RequestKind → Bool
  | .storeWrite => true
  | .storeErase => true
  | .storeCheck => true
  | .attach | .detach | .picture | .floor | .watch | .sheet | .cancel | .ack | .attend | .peek | .finish | .mask
  | .stream | .status => false

/-- The kinds marked NO_LABEL in the kind table (8.2). -/
def RequestKind.needsLabel : RequestKind → Bool
  | .detach => true
  | .watch => true
  | .cancel => true
  | .finish => true
  | .mask => true
  | .attach | .picture | .floor | .sheet | .ack | .attend | .peek | .stream | .status | .storeWrite | .storeErase
  | .storeCheck => false

/-- The body's length is one the kind table allows, and its choices hold one of their values (R151, FORMAT). This check comes
before the serving rule, so that a STORE WRITE without data or with more than 256 bytes ends here, not at R113's RANGE for
it (log 15). -/
def RequestKind.formatGood (body : List Byte) : RequestKind → Bool
  | .attach => decide (1 ≤ body.length) && decide (body.length ≤ 299)
  | .detach => body.isEmpty
  | .picture => decide (body.length = 2)
  | .floor => decide (body.length = 3)
  | .watch => decide (body.length ≤ 299)
  | .sheet => decide (body.length = 8)
  | .cancel => decide (body.length = 1)
  | .ack => decide (body.length = 4)
  | .attend => decide (body.length = 2) && decide (byteAt body 1 ≤ 1)
  | .peek => body.isEmpty
  | .finish => decide (body.length = 1) && decide (byteAt body 0 ≤ 7)
  | .mask => decide (body.length = 1)
  | .stream => decide (body.length = 2) && decide (byteAt body 0 ≤ 1)
  | .status => decide (body.length = 1) && decide (byteAt body 0 ≤ 1)
  | .storeWrite => decide (5 ≤ body.length) && decide (body.length ≤ 260)
  | .storeErase => decide (body.length = 2)
  | .storeCheck => body.isEmpty

/-- The kind of a request as port `p` serves it; `none` is UNKNOWN (R112, R151). -/
def State.kindServed (p : Port) (code : Nat) (s : State) : Option RequestKind :=
  match RequestKind.ofCode code with
  | none => none
  | some k => if k.isStore && !(s.maintenance && decide (p = .a)) then none else some k

/-- A request that passes dispatch is handed to the block that serves it (R151). -/
def serveKind (p : Port) (body : List Byte) (s : State) : RequestKind → State
  | .attach => serveAttach p body s
  | .detach => serveDetach p s
  | .picture => servePicture p (byteAt body 0) (byteAt body 1) s
  | .floor => serveFloor p (byteAt body 0) (halfAt body 1) s
  | .watch => serveWatch p body s
  | .sheet =>
    answerWith p 0x06 (takeSheet p (byteAt body 0) (byteAt body 1) (halfAt body 2) (halfAt body 4) (halfAt body 6) s)
  | .cancel => answerWith p 0x07 (takeCancel p (byteAt body 0) s)
  | .ack => answerWith p 0x08 (takeAck p (byteAt body 0) (byteAt body 1) (halfAt body 2) s)
  | .attend =>
    answerWith p 0x09 (if byteAt body 1 = 1 then takeAttendOn p (byteAt body 0) s else takeAttendOff p (byteAt body 0) s)
  | .peek => servePeek p s
  | .finish => serveFinish p (byteAt body 0) s
  | .mask => serveMask p (body.getD 0 0) s
  | .stream => if byteAt body 0 = 1 then serveStreamOn p (byteAt body 1) s else serveStreamOff p s
  | .status => serveStatus p (byteAt body 0) s
  | .storeWrite => serveStoreWrite p body s
  | .storeErase => serveStoreErase p (halfAt body 0) s
  | .storeCheck => serveStoreCheck p s

/-- A request taken from the buffer is dispatched by its kind (R151). -/
def dispatch (p : Port) (r : Request) (s : State) : State :=
  match s.kindServed p r.kind.toNat with
  | none => respond p r.kind.toNat .unknown [] s
  | some k =>
    if !k.formatGood r.body then respond p r.kind.toNat .format [] s
    else if k.needsLabel && !(s.port p).attached then respond p r.kind.toNat .noLabel [] s
    else serveKind p r.body s k

/-! ## The receive buffer (R148, R149) -/

/-- The port takes requests while its buffer is not empty and its response slot is (R149). Only an accepted STORE request
leaves the slot empty; the buffer holds at most two. -/
def takeRequests (p : Port) : Nat → State → State
  | 0, s => s
  | fuel + 1, s =>
    match (s.port p).responseSlot, (s.port p).buffer with
    | [], r :: rest => takeRequests p fuel (dispatch p r (s.modPort p fun q => { q with buffer := rest }))
    | _, _ => s

/-- The most requests the receive buffer holds (R149). -/
def bufferLimit : Nat := 2

/-- A complete request joins the buffer, or is discarded with OVERRUN (R149). -/
def CrewPort.join (r : Request) (q : CrewPort) : CrewPort :=
  if q.buffer.length < bufferLimit then { q with buffer := q.buffer ++ [r] }
  else { q with flags := { q.flags with overrun := true } }

/-- The port's receiver takes bytes: the port is open, and no break holds its line (R144, R145). -/
def CrewPort.hears (q : CrewPort) : Bool := q.isOpen && !q.breakHeld

/-- A complete message reaches the buffer (R148, R149); the receiver hunts again. A body over 299 bytes has a length field
over 300 (R148). -/
def crewRequest (p : Port) (kind : Byte) (body : List Byte) (s : State) : State :=
  if (s.port p).hears then
    let s1 := s.modPort p fun q => { q with receiving := false }
    if 299 < body.length then s1.modPort p fun q => { q with flags := { q.flags with tooLong := true } }
    else takeRequests p (bufferLimit + 1) (s1.modPort p (CrewPort.join { kind := kind, body := body }))
  else s

end Sys2Proof.Machine
end

