-- ==== Sys2Proof/Machine/ZoneUnit.lean ====
section
/-! DEFINITION. Zone evaluation (chapter 1): reading, resistance, line class, the zone state machine, the repeat count
and its decay, and one evaluation taken whole (R8). -/

namespace Sys2Proof.Machine

open Sys2Proof

/-! ## Reading, resistance and class (1.2) -/

/-- The reading: the sum of the four samples divided by 4, rounded down (R3). -/
def readingOf (history : List Nat) : Nat := history.sum / 4

/-- The line resistance in ohms (R4). -/
def resistanceOf (v : Nat) : Nat :=
  if 1023 ≤ v then 65535 else satAt 65535 ((9400 * v + (1023 - v)) / (2 * (1023 - v)))

/-- The boundaries b1, b2 and b3 in use for a current class (R5). -/
def boundaries : LineClass → Nat × Nat × Nat
  | .normal => (135, 1350, 13200)
  | .alarm => (135, 1650, 13200)
  | .short => (165, 1650, 13200)
  | .openLoop => (135, 1350, 10800)

/-- The class of a resistance, from the current class (R5). -/
def classify (current : LineClass) (r : Nat) : LineClass :=
  let b := boundaries current
  if r < b.1 then .short else if r < b.2.1 then .alarm else if r < b.2.2 then .normal else .openLoop

/-! ## Zone types (R6) -/

/-- The restore time of a zone type in ms (R6). -/
def ZoneType.restore : ZoneType → Nat
  | .detector => 30000
  | .callpoint => 300000
  | .flow => 60000
  | .valve => 5000
  | .unused => 0

/-- The trouble delay, the length of the trouble timer and the normal-hold timer (R6). -/
def troubleDelay : Nat := 5000

/-- The length of the decay timer (R17). -/
def decayLength : Nat := 120000

/-- The trouble kind of a fault class (R15). -/
def faultKind : LineClass → Option TroubleKind
  | .openLoop => some .openLoop
  | .short => some .short
  | .alarm => none
  | .normal => none

/-! ## The zone state machine (1.4) -/

/-- Entry into PENDING, the confirm length set as R20 states. -/
def LineRecord.enterPending (l : LineRecord) (now : Nat) (boost : Bool) : LineRecord :=
  { l with
    zstate := .pending
    confirmTimer := some now
    confirmLength := if boost then l.ztype.boostedConfirm else l.ztype.confirm
    boosted := boost }

/-- The rule of state NORMAL (R9). -/
def ruleNormal (now : Nat) (boost : Bool) (c : LineClass) (l : LineRecord) : LineRecord :=
  match c with
  | .alarm => { l with troubleTimer := none }.enterPending now boost
  | .normal => { l with troubleTimer := none }
  | .openLoop | .short =>
    match l.troubleTimer with
    | none => { l with troubleTimer := some now }
    | some _ =>
      if timerDue now troubleDelay l.troubleTimer then
        { l with zstate := .trouble, trouble := faultKind c, troubleTimer := none }
      else l

/-- The exit from PENDING: the confirm timer stopped and BOOSTED cleared (R10). -/
def LineRecord.leavePending (l : LineRecord) : LineRecord := { l with confirmTimer := none, boosted := false }

/-- The raise of the repeat count at a confirmed alarm, with RECURRING (R16). -/
def LineRecord.raiseRepeat (l : LineRecord) : LineRecord :=
  { l with repeatCount := satNext 15 l.repeatCount, recurring := l.recurring || decide (3 ≤ satNext 15 l.repeatCount) }

/-- The rule of state PENDING (R10). -/
def rulePending (now : Nat) (c : LineClass) (l : LineRecord) : LineRecord :=
  match c with
  | .alarm =>
    if timerDue now l.confirmLength l.confirmTimer then
      { l.leavePending.raiseRepeat with zstate := .alarm, episodeStart := some now }
    else l
  | .normal => { l.leavePending with zstate := .normal, transientCount := satNext 255 l.transientCount }
  | .openLoop | .short =>
    { l.leavePending with
      zstate := .normal, transientCount := satNext 255 l.transientCount, troubleTimer := some now }

/-- LINE_LOST cleared and the trouble kind absent (R11). -/
def LineRecord.lineBack (l : LineRecord) : LineRecord :=
  if l.lineLost then { l with lineLost := false, trouble := none } else l

/-- The rule of state ALARM (R11). -/
def ruleAlarm (now : Nat) (c : LineClass) (l : LineRecord) : LineRecord :=
  match c with
  | .normal => { l.lineBack with zstate := .clearing, restoreTimer := some now }
  | .alarm => l.lineBack
  | .openLoop | .short => { l with lineLost := true, trouble := faultKind c }

/-- The rule of state CLEARING (R12). -/
def ruleClearing (now : Nat) (c : LineClass) (l : LineRecord) : LineRecord :=
  match c with
  | .normal =>
    if timerDue now l.ztype.restore l.restoreTimer then
      { l with zstate := .normal, restoreTimer := none, episodeStart := none }
    else l
  | .alarm => { l with zstate := .alarm, restoreTimer := none }
  | .openLoop | .short => { l with zstate := .alarm, restoreTimer := none, lineLost := true, trouble := faultKind c }

/-- The rule of state TROUBLE (R13). -/
def ruleTrouble (now : Nat) (boost : Bool) (c : LineClass) (l : LineRecord) : LineRecord :=
  match c with
  | .alarm => { l with trouble := none, holdTimer := none }.enterPending now boost
  | .normal =>
    match l.holdTimer with
    | none => { l with holdTimer := some now }
    | some _ =>
      if timerDue now troubleDelay l.holdTimer then { l with zstate := .normal, trouble := none, holdTimer := none }
      else l
  | .openLoop | .short => { l with holdTimer := none, trouble := faultKind c }

/-- The rule of the line's present zone state (R8, step 3). -/
def stateRule (now : Nat) (boost : Bool) (c : LineClass) (l : LineRecord) : LineRecord :=
  match l.zstate with
  | .normal => ruleNormal now boost c l
  | .pending => rulePending now c l
  | .alarm => ruleAlarm now c l
  | .clearing => ruleClearing now c l
  | .trouble => ruleTrouble now boost c l
  | .disabled => l

/-- The decay of the repeat count, in the state the evaluation leaves the zone in (R17). -/
def decayRule (now : Nat) (l : LineRecord) : LineRecord :=
  if (l.zstate = .normal ∨ l.zstate = .trouble) ∧ 1 ≤ l.repeatCount then
    if timerDue now decayLength l.decayTimer then
      if l.repeatCount = 1 then { l with repeatCount := 0, recurring := false, decayTimer := none }
      else { l with repeatCount := l.repeatCount - 1, decayTimer := some now }
    else
      match l.decayTimer with
      | none => { l with decayTimer := some now }
      | some _ => l
  else { l with decayTimer := none }

/-- A reportable item differs (R22). -/
def reportableDiffers (a b : LineRecord) : Bool :=
  !(a.zstate == b.zstate && a.recurring == b.recurring && a.lineLost == b.lineLost && a.boosted == b.boosted &&
    a.trouble == b.trouble && a.repeatCount == b.repeatCount)

/-- The record after steps 2 to 5 of an evaluation (R8): reading, resistance and class; the state rule; the decay; one
raise of the change number when anything reportable changed. -/
def LineRecord.evaluated (now : Nat) (boost : Bool) (l : LineRecord) : LineRecord :=
  let v := readingOf l.history
  let r := resistanceOf v
  let c := classify l.lclass r
  let next := decayRule now (stateRule now boost c { l with reading := v, resistance := r, lclass := c })
  if reportableDiffers l next then { next with changeNumber := wrapNext l.changeNumber } else next

/-- A new sample joins the history at its newest end; of five, the oldest leaves (R2). -/
def LineRecord.push (mark v : Nat) (l : LineRecord) : LineRecord :=
  { l with
    history := (if l.history.length < 4 then l.history else l.history.drop 1) ++ [v]
    lastMark := mark }

/-- The station clock stands at a 20 ms mark at which the line has not been sampled (R2). -/
def State.markDue (i : Nat) (s : State) : Bool := decide (s.clock % 20 = 0) && decide ((s.line i).lastMark < s.clock)

/-- The line takes samples: every line until the configuration is taken, the enabled lines from then on (R2). -/
def State.lineSampled (i : Nat) (s : State) : Bool := !s.zones.configTaken || s.lineEnabled i

/-- One evaluation of line `i`, taken whole (R8), with the write of its own entry (R23). -/
def evaluateLine (i : Nat) (s : State) : State :=
  let old := s.line i
  let new := old.evaluated s.clock (s.boostApplies i)
  writeOwn i (reportableDiffers old new) (s.setLine i new)

/-- The sample of line `i` at a mark: it joins the history, and starts an evaluation of an enabled line whose history
then holds four samples (R2, R3). -/
def sampleLine (i v : Nat) (s : State) : State :=
  if s.markDue i && s.lineSampled i then
    let s1 := s.setLine i ((s.line i).push s.clock v)
    if s1.lineEnabled i && decide ((s1.line i).history.length = 4) then evaluateLine i s1 else s1
  else s

/-- What the sample of line `i` would find: the line's record with the sample joined, and the class of its evaluation,
when it would be evaluated. -/
def State.evaluationFinds (i v : Nat) (s : State) : Option (LineRecord × LineClass) :=
  let l := (s.line i).push s.clock v
  if s.markDue i && s.lineEnabled i && decide (l.history.length = 4) then
    some (l, classify l.lclass (resistanceOf (readingOf l.history)))
  else none

end Sys2Proof.Machine
end

