-- ==== Sys2Proof/Machine/Output.lean ====
section
/-! DEFINITION. The output arbiter of a crew port (8.7), and the end of an event: what the channels, the store, the
Notice Controllers and the arbiters do once the event's own effect stands. -/

namespace Sys2Proof.Machine

open Sys2Proof

/-! ## The messages (R160, R161, R172) -/

/-- The body of a TILE message: the tile, or 256 zero bytes when it is MISSING (R125, R160). -/
def tileBody (c tile revision : Nat) (data : Option (List Byte)) : List Byte :=
  [byte c] ++ be16 tile ++ be16 revision ++ [byte (bit 0 data.isNone)] ++ data.getD (List.replicate 256 0)

/-- The title a SHEET-END carries: that of the local record at the pinned revision, or 24 spaces (R136). -/
def Channel.endTitle (k : Channel) : Text :=
  match k.record with
  | none => padTo 24 []
  | some r => if r.revision = k.pinned then padTo 24 r.title else padTo 24 []

/-- The body of a SHEET-END (R136, R160). -/
def sheetEndBody (c : Nat) (k : Channel) (result : TransferResult) : List Byte :=
  [byte c, byte result.code, byte result.reasonCode, byte k.floor, byte k.kind] ++ be16 k.pinned ++ be16 k.delivered ++
    be16 k.missing ++ k.endTitle

/-- The body of a SHEET-RESTART (R134, R160). -/
def sheetRestartBody (c : Nat) (counts : Nat × Nat) : List Byte := [byte c] ++ be16 counts.1 ++ be16 counts.2

/-- What a crew channel offers its port: one thing at a time (R125, R134, R136). -/
inductive ChannelOffer where
  | restart (counts : Nat × Nat)
  | finished (result : TransferResult)
  | tile (buffer : Nat) (data : List Byte)
  | missing
  deriving DecidableEq, Repr

/-- The offer of a channel: a SHEET-RESTART before anything else, then a SHEET-END, then its next tile. -/
def State.offer (c : Nat) (s : State) : Option ChannelOffer :=
  let k := s.channel c
  match k.restartOffer, k.result with
  | some n, _ => some (.restart n)
  | none, some r => some (.finished r)
  | none, none =>
    if k.missingDue.contains k.nextTile then some .missing
    else (s.fullBuffer c k.nextTile).map fun b => .tile b.1 b.2

/-- A channel has delivered its next tile (R125). -/
def Channel.delivers (k : Channel) : Channel := { k with nextTile := k.nextTile + 1, delivered := k.delivered + 1 }

/-- A channel has delivered its next tile as MISSING (R125). -/
def Channel.deliversMissing (k : Channel) : Channel :=
  { k with nextTile := k.nextTile + 1, missing := k.missing + 1,
           missingDue := k.missingDue.filter fun t => decide (t ≠ k.nextTile) }

/-- The port begins a message. -/
def beginMessage (p : Port) (source : MsgSource) (kind : Nat) (body : List Byte) (s : State) : State :=
  s.modPort p fun q => { q with sending := some { source := source, kind := byte kind, body := body, live := true } }

/-- The port begins a channel's message, and its rotation names that channel (R159). A tile is delivered in the event its
message begins (R125, R160). -/
def beginChannelMessage (p : Port) (c : Nat) (o : ChannelOffer) (s : State) : State :=
  let k := s.channel c
  let s1 := s.modPort p fun q => { q with rotation := c }
  match o with
  | .restart n => beginMessage p (.sheetRestart c) 0x85 (sheetRestartBody c n) s1
  | .finished r => beginMessage p (.sheetEnd c) 0x84 (sheetEndBody c k r) s1
  | .tile b d =>
    (beginMessage p (.tile c) 0x83 (tileBody c k.nextTile k.pinned (some d)) (s1.setBuffer b
      { holder := some c, state := .empty })).setChannel c k.delivers
  | .missing =>
    (beginMessage p (.tile c) 0x83 (tileBody c k.nextTile k.pinned none) s1).setChannel c k.deliversMissing

/-! ## The arbiter (R159) -/

/-- The part of a response that goes next: of the slot placed first, when both hold one (R159). -/
def CrewPort.nextPart (q : CrewPort) : Option (MsgSource × List Byte) :=
  match q.responseSlot, q.storeSlot with
  | [], [] => none
  | r :: _, [] => some (.response, r)
  | [], t :: _ => some (.storeResult, t)
  | r :: _, t :: _ => if 1 ≤ q.storeAhead then some (.storeResult, t) else some (.response, r)

/-- The first channel of a port that offers something, after the one its rotation names (R159). -/
def State.channelChoice (p : Port) (s : State) : Option (Nat × ChannelOffer) :=
  (rotationOrder (s.port p).rotation).findSome? fun c =>
    if s.ownedBy p c then (s.offer c).map fun o => (c, o) else none

/-- A SUMMARY begins, and the cursor moves past its floor (R157, R161). -/
def beginSummary (p : Port) (f : Nat) (s : State) : State :=
  (beginMessage p .summary 0x86 (summaryRecord f (s.floor f)) s).modPort p fun q =>
    { q with stream := { q.stream with cursor := f + 1 } }

/-- The pass ends, and the cursor re-arms past 255 (R157). -/
def endPass (p : Port) (s : State) : State :=
  s.modPort p fun q => { q with stream := { q.stream with cursor := 256, passOpen := false } }

/-- The moment of the next pass has come (R157). -/
def State.passDue (p : Port) (s : State) : Bool :=
  decide ((s.port p).stream.start + 1000 * (s.port p).stream.period ≤ s.clock)

/-- The arbiter comes to the stream's turn while a pass is open (R157): the lowest floor from the cursor onward that has
something to show, or the end of the pass, with the next one at once when its moment has passed. -/
def streamTurn (p : Port) (s : State) : State :=
  let st := (s.port p).stream
  if st.isOn && st.passOpen then
    match s.nextShown st.cursor with
    | some f => beginSummary p f s
    | none =>
      let ended := endPass p s
      if s.passDue p then
        match s.nextShown 0 with
        | some f => beginSummary p f (startPass p ended)
        | none => startPass p ended
      else ended
  else s

/-- A NOTICE begins: the front of the notices due leaves that list, and its body is built now (R171, R172). -/
def beginNotice (p : Port) (k : NoticeKey) (s : State) : State :=
  let n := s.notices p
  let s1 := s.modNotices p fun x => { x with due := x.due.drop 1 }
  match n.find k with
  | none => s1
  | some r => beginMessage p .notice 0x82 (s.noticeBody r n.stack.length) s1

/-- The arbiter's choice at a moment the port sends nothing (R159). -/
def chooseMessage (p : Port) (s : State) : State :=
  match (s.port p).nextPart with
  | some part => beginMessage p part.1 0x81 part.2 s
  | none =>
    match (s.notices p).due with
    | k :: _ => beginNotice p k s
    | [] =>
      match s.channelChoice p with
      | some co => beginChannelMessage p co.1 co.2 s
      | none => streamTurn p s

/-- The arbiter of a port chooses when the port is open and sends nothing (R144, R159). -/
def arbitrate (p : Port) (s : State) : State :=
  if (s.port p).isOpen && (s.port p).sending.isNone then chooseMessage p s else s

/-- A part of a response has been sent (R149). -/
def CrewPort.partSent (q : CrewPort) : CrewPort :=
  { q with responseSlot := q.responseSlot.drop 1 }

/-- A response of the store result slot has been sent (R149, R159). -/
def CrewPort.storePartSent (q : CrewPort) : CrewPort :=
  { q with storeSlot := q.storeSlot.drop 1, storeAhead := q.storeAhead - 1 }

/-- The TRANSFER event of a SHEET-END sent, and then the channel FREE (R136). -/
def sheetEndSent (c : Nat) (s : State) : State :=
  match (s.channel c).result with
  | none => s
  | some r => closeChannel c (transferEvent c ((s.channel c).outcome r) s)

/-- The source of a message is told sent (R159). -/
def sourceSent (p : Port) (m : OutMessage) (s : State) : State :=
  match m.source with
  | .response => s.modPort p CrewPort.partSent
  | .storeResult => s.modPort p CrewPort.storePartSent
  | .notice => s
  | .tile _ => s
  | .sheetRestart c => if m.live then s.modChannel c fun k => { k with restartOffer := none } else s
  | .sheetEnd c => if m.live then sheetEndSent c s else s
  | .summary => s

/-- The message being sent ends: its source is told, and the port takes its next request when it may (R149, R159). -/
def endMessage (p : Port) (s : State) : State :=
  match (s.port p).sending with
  | none => s
  | some m => takeRequests p (bufferLimit + 1) (sourceSent p m (s.modPort p fun q => { q with sending := none }))

/-! ## The end of an event -/

/-- The most read requests the lists hold together (R108), and one look more. -/
def storeFuel : Nat := 17

/-- What the channels and the store do at the end of an event. -/
def settleTransfers (s : State) : State := serveStore storeFuel (pumpChannels s)

/-- The end of an event that began in `before`: the channels and the store, then the selections of the Notice Controllers,
then the output arbiters, and what the channels do with a buffer a message has emptied (log 12). -/
def settle (before s : State) : State :=
  settleTransfers (arbitrate .b (arbitrate .a (State.selectBoth before (settleTransfers s))))

/-- A running station takes an event, with the end of that event; a station held in reset takes none (R179). -/
def event (f : State → State) (s : State) : Host.Outcome State Fault Refusal :=
  .next (if s.held then s else settle s (f s))

/-- A running station takes an event that leaves the channels, the notices and the ports nothing to do; a station held in
reset takes none (R179). -/
def quietEvent (f : State → State) (s : State) : Host.Outcome State Fault Refusal :=
  .next (if s.held then s else f s)

/-! ## Sampling ready (R2, R182) -/

/-- Every enabled line holds four samples, and the configuration has been taken (R2). -/
def State.samplingComplete (s : State) : Bool :=
  s.zones.configTaken &&
    (List.range 16).all fun i => !s.lineEnabled i || decide ((s.line i).history.length = 4)

/-- Sampling ready: STARTING ends, both ports open, the receiver is live and the join listen starts (R182). -/
def samplingReady (s : State) : State :=
  if s.starting && s.samplingComplete then
    { s with
      starting := false
      zones := { s.zones with readyReported := true }
      rlc := { s.rlc with phase := .awaitIdle, joinTimer := some s.clock }
      portA := { s.portA with isOpen := true }
      portB := { s.portB with isOpen := true } }
  else s

end Sys2Proof.Machine
end

