-- ==== Sys2Proof/Machine/CrewCommands.lean ====
section
/-! DEFINITION. The commands of the crew ports (chapters 4, 8 and 9): a request's row is that request complete at the
port (log 10), with the events of the serial line, of the output and of the picture stream. -/

namespace Sys2Proof.Machine

open Sys2Proof

/-! ## The line (R144, R145, R148) -/

/-- A break is detected (R145). -/
def breakDetected (p : Port) (s : State) : State := if (s.port p).hears then portReset p s else s

/-- BREAK (R145). -/
def execBreakDetected (p : Port) (s : State) : Host.Outcome State Fault Refusal := event (breakDetected p) s

/-- A whole message has arrived (R148): it is discarded as too long or for a bad check, or is complete. -/
def messageReceived (p : Port) (kind : Byte) (body : List Byte) (check : Half) (s : State) : State :=
  if (s.port p).hears then
    if body.length ≤ 299 ∧ check ≠ crc16 (crewCovered kind body) then
      s.modPort p fun q => { q with receiving := false, flags := { q.flags with badCheck := true } }
    else crewRequest p kind body s
  else s

/-- CREW_MESSAGE_RECEIVED (R148). -/
def execCrewMessageReceived (p : Port) (kind : Byte) (body : List Byte) (check : Half) (s : State) :
    Host.Outcome State Fault Refusal := event (messageReceived p kind body check) s

/-- A failure that sets FRAMING and returns the receiver to hunting (R148). -/
def framingFailure (p : Port) (s : State) : State :=
  if (s.port p).hears then s.modPort p fun q => { q with receiving := false, flags := { q.flags with framing := true } }
  else s

/-- RECEIVE_STALL (R148). -/
def execReceiveStall (p : Port) (s : State) : Host.Outcome State Fault Refusal := quietEvent (framingFailure p) s

/-- CREW_BYTE_FRAMING_ERROR (R148). -/
def execCrewByteFramingError (p : Port) (s : State) : Host.Outcome State Fault Refusal := quietEvent (framingFailure p) s

/-- A length field of 0 sets FRAMING, one over 300 TOO_LONG (R148). -/
def lengthFault (p : Port) (length : Nat) (s : State) : State :=
  if length = 0 then framingFailure p s
  else if 300 < length ∧ (s.port p).hears then
    s.modPort p fun q => { q with receiving := false, flags := { q.flags with tooLong := true } }
  else s

/-- CREW_LENGTH_FIELD_FAULT (R148). -/
def execCrewLengthFieldFault (p : Port) (length : Half) (s : State) : Host.Outcome State Fault Refusal :=
  quietEvent (lengthFault p length.toNat) s

/-- The line of a port has returned high: the receiver takes bytes again (R145). -/
def lineHigh (p : Port) (s : State) : State :=
  if (s.port p).isOpen then s.modPort p fun q => { q with breakHeld := false } else s

/-- LINE_RETURNED_HIGH (R145). -/
def execLineReturnedHigh (p : Port) (s : State) : Host.Outcome State Fault Refusal := quietEvent (lineHigh p) s

/-! ## Requests (R151) -/

/-- UNKNOWN (R151). -/
def execUnknown (p : Port) (kind : Byte) (body : List Byte) (s : State) : Host.Outcome State Fault Refusal :=
  event (crewRequest p kind body) s

/-- ATTACH (R152). -/
def execAttach (p : Port) (body : List Byte) (s : State) : Host.Outcome State Fault Refusal :=
  event (crewRequest p 0x01 body) s

/-- DETACH (R153). -/
def execDetach (p : Port) (s : State) : Host.Outcome State Fault Refusal := event (crewRequest p 0x02 []) s

/-- PICTURE (R154). -/
def execPicture (p : Port) (first last : Byte) (s : State) : Host.Outcome State Fault Refusal :=
  event (crewRequest p 0x03 [first, last]) s

/-- FLOOR (R155). -/
def execFloor (p : Port) (floor : Byte) (start : Half) (s : State) : Host.Outcome State Fault Refusal :=
  event (crewRequest p 0x04 ([floor] ++ be16 start.toNat)) s

/-- WATCH (R176). -/
def execWatch (p : Port) (floors : List Byte) (s : State) : Host.Outcome State Fault Refusal :=
  event (crewRequest p 0x05 floors) s

/-- ACK (R64, R65). -/
def execAck (p : Port) (station line : Byte) (change : Half) (s : State) : Host.Outcome State Fault Refusal :=
  event (crewRequest p 0x08 ([station, line] ++ be16 change.toNat)) s

/-- ATTEND_ON (R71). -/
def execAttendOn (p : Port) (floor : Byte) (s : State) : Host.Outcome State Fault Refusal :=
  event (crewRequest p 0x09 [floor, 1]) s

/-- ATTEND_OFF (R71). -/
def execAttendOff (p : Port) (floor : Byte) (s : State) : Host.Outcome State Fault Refusal :=
  event (crewRequest p 0x09 [floor, 0]) s

/-- PEEK (R174). -/
def execPeek (p : Port) (s : State) : Host.Outcome State Fault Refusal := event (crewRequest p 0x0A []) s

/-- FINISH (R173). -/
def execFinish (p : Port) (level : Byte) (s : State) : Host.Outcome State Fault Refusal :=
  event (crewRequest p 0x0B [level]) s

/-- MASK (R164). -/
def execMask (p : Port) (bits : Byte) (s : State) : Host.Outcome State Fault Refusal :=
  event (crewRequest p 0x0C [bits]) s

/-- STREAM_ON (R156). -/
def execStreamOn (p : Port) (period : Byte) (s : State) : Host.Outcome State Fault Refusal :=
  event (crewRequest p 0x0D [1, period]) s

/-- STREAM_OFF (R156). -/
def execStreamOff (p : Port) (period : Byte) (s : State) : Host.Outcome State Fault Refusal :=
  event (crewRequest p 0x0D [0, period]) s

/-- STATUS (R158). -/
def execStatus (p : Port) (clear : Byte) (s : State) : Host.Outcome State Fault Refusal :=
  event (crewRequest p 0x0E [clear]) s

/-! ## Output (R157, R159) -/

/-- The next pass of the picture stream starts, when none is open and its moment has come (R157). -/
def passStarts (p : Port) (s : State) : State :=
  if (s.port p).isOpen && (s.port p).stream.isOn && !(s.port p).stream.passOpen && s.passDue p then
    startPass p s
  else s

/-- STREAM_PASS_START (R157). -/
def execStreamPassStart (p : Port) (s : State) : Host.Outcome State Fault Refusal := event (passStarts p) s

/-- MESSAGE_END (R159). -/
def execMessageEnd (p : Port) (s : State) : Host.Outcome State Fault Refusal := event (endMessage p) s

end Sys2Proof.Machine
end

