-- ==== Sys2Proof/Machine/FrameCommands.lean ====
section
/-! DEFINITION. The commands of a frame that ends well-formed at the station's receiver (5.6), one for each frame kind,
and of a peer's silence (R52). -/

namespace Sys2Proof.Machine

open Sys2Proof

/-- A received frame with its fields as they stood on the line. -/
def frameOf (kind : FrameKind) (origin dest : Byte) (payload : List Byte) : Frame :=
  { kind := kind, origin := origin.toNat, dest := dest.toNat, payload := payload }

/-- The kind of a ZONE STATE frame (5.2). -/
def reportKind : ReportClass → FrameKind
  | .alarm => .zoneStateAlarm
  | .routine => .zoneStateRoutine

/-- ZONE_STATE (R32). -/
def execZoneState (cls : ReportClass) (origin dest : Byte) (payload : List Byte) (s : State) :
    Host.Outcome State Fault Refusal :=
  event (receiveFrame (frameOf (reportKind cls) origin dest payload) (takeZoneState origin.toNat payload)) s

/-- DIRECTORY (R55). -/
def execDirectory (origin dest : Byte) (payload : List Byte) (s : State) : Host.Outcome State Fault Refusal :=
  event (receiveFrame (frameOf .directory origin dest payload) (takeDirectory origin.toNat payload)) s

/-- SHEET_REQUEST (R139). -/
def execSheetRequest (origin dest : Byte) (payload : List Byte) (s : State) : Host.Outcome State Fault Refusal :=
  event (receiveFrame (frameOf .sheetRequest origin dest payload) fun t =>
    takeSheetRequest origin.toNat payload (frameHeard origin.toNat .other t)) s

/-- SHEET_REFUSE (R128). -/
def execSheetRefuse (origin dest : Byte) (payload : List Byte) (s : State) : Host.Outcome State Fault Refusal :=
  event (receiveFrame (frameOf .sheetRefuse origin dest payload) fun t =>
    takeSheetRefuse origin.toNat payload (frameHeard origin.toNat .other t)) s

/-- SHEET_CANCEL (R142). -/
def execSheetCancel (origin dest : Byte) (payload : List Byte) (s : State) : Host.Outcome State Fault Refusal :=
  event (receiveFrame (frameOf .sheetCancel origin dest payload) fun t =>
    takeSheetCancel origin.toNat payload (frameHeard origin.toNat .other t)) s

/-- SHEET_TILE (R129). -/
def execSheetTile (origin dest : Byte) (payload : List Byte) (s : State) : Host.Outcome State Fault Refusal :=
  event (receiveFrame (frameOf .sheetTile origin dest payload) fun t =>
    takeSheetTile origin.toNat payload (frameHeard origin.toNat .other t)) s

/-- MARK_ACK (R68). The Mark Handler reads the mark kind from the payload (R67). -/
def execMarkAck (origin dest : Byte) (payload : List Byte) (s : State) : Host.Outcome State Fault Refusal :=
  event (receiveFrame (frameOf .mark origin dest payload) (takeMark origin.toNat payload)) s

/-- MARK_ATTEND_ON (R72). -/
def execMarkAttendOn (origin dest : Byte) (payload : List Byte) (s : State) : Host.Outcome State Fault Refusal :=
  event (receiveFrame (frameOf .mark origin dest payload) (takeMark origin.toNat payload)) s

/-- MARK_ATTEND_OFF (R72). -/
def execMarkAttendOff (origin dest : Byte) (payload : List Byte) (s : State) : Host.Outcome State Fault Refusal :=
  event (receiveFrame (frameOf .mark origin dest payload) (takeMark origin.toNat payload)) s

/-- The length of a silence timer (R52). -/
def silenceLength : Nat := 6000

/-- A peer's silence timer expires (R52): it is LOST, and the Sheet Transfer Engine takes the loss (R135, R142) after the
Notice Controllers and the picture, an order R52 leaves open (log 41). -/
def silenceExpiry (x : Nat) (s : State) : State :=
  if s.present x && timerDue s.clock silenceLength (s.peer x).silence then holderLoss x (peerLost x s) else s

/-- SILENCE_TIMER_EXPIRY (R52). -/
def execSilenceTimerExpiry (peer : BitVec 6) (s : State) : Host.Outcome State Fault Refusal :=
  event (silenceExpiry peer.toNat) s

end Sys2Proof.Machine
end

