-- ==== Sys2Proof/Machine/RiserCommands.lean ====
section
/-! DEFINITION. The commands of the riser link that are no received frame (chapter 5): timers, idle rounds, start moments
and the ends of a transmission. Each acts when its event can occur in the state it finds, and otherwise leaves the state
as it is (log 9). -/

namespace Sys2Proof.Machine

open Sys2Proof

/-! ## Timers (R88, R97 to R99, R183) -/

/-- The length of the join listen (R182). -/
def joinLength : Nat := 2500

/-- The length of the refresh timer (R88). -/
def refreshLength : Nat := 2000

/-- The length of the directory timer (R88). -/
def directoryLength : Nat := 10000

/-- The length of the hold timer of DUPLICATE (R98). -/
def holdLength : Nat := 30000

/-- The time BABBLE stands (R99). -/
def babbleLength : Nat := 2000

/-- The time LINE stands (R99). -/
def lineLength : Nat := 5000

/-- The length of the decay timers of the duplicate and babble counts (R99). -/
def countDecayLength : Nat := 600000

/-- The end of the join listen: JOIN clears, both marks are set and both timers start (R88, R89, R183). -/
def joinListenEnd (s : State) : State :=
  if timerDue s.clock joinLength s.rlc.joinTimer then
    (s.putBlock .join false).modRlc fun r =>
      { r with joinTimer := none, directoryMark := true, refreshMark := true, refreshTimer := some s.clock,
               directoryTimer := some s.clock }
  else s

/-- The refresh timer, a rate generator, expires (R88). -/
def refreshExpiry (s : State) : State :=
  if timerDue s.clock refreshLength s.rlc.refreshTimer then
    s.modRlc fun r => { r with refreshMark := true, refreshTimer := some s.clock }
  else s

/-- The directory timer, a rate generator, expires (R88). -/
def directoryExpiry (s : State) : State :=
  if timerDue s.clock directoryLength s.rlc.directoryTimer then
    s.modRlc fun r => { r with directoryMark := true, directoryTimer := some s.clock }
  else s

/-- DUPLICATE clears (R98). -/
def duplicateHoldExpiry (s : State) : State :=
  if timerDue s.clock holdLength s.rlc.duplicateHold then
    (s.putBlock .duplicate false).modRlc fun r => { r with duplicateHold := none }
  else s

/-- BABBLE clears (R99). -/
def babbleClear (s : State) : State :=
  if timerDue s.clock babbleLength s.rlc.babbleTimer then
    (s.putBlock .babble false).modRlc fun r => { r with babbleTimer := none }
  else s

/-- LINE clears (R99). -/
def lineClear (s : State) : State :=
  if timerDue s.clock lineLength s.rlc.lineTimer then
    (s.putBlock .line false).modRlc fun r => { r with lineTimer := none }
  else s

/-- A decay timer after its expiry: it restarts while the count is above 0 (R99). -/
def decayRestart (now count : Nat) : Option Nat := if 1 ≤ count - 1 then some now else none

/-- The duplicate count falls by 1 (R99). -/
def duplicateDecay (s : State) : State :=
  if timerDue s.clock countDecayLength s.rlc.duplicateDecay then
    s.modRlc fun r =>
      { r with duplicateCount := r.duplicateCount - 1, duplicateDecay := decayRestart s.clock r.duplicateCount }
  else s

/-- The babble count falls by 1 (R99). -/
def babbleDecay (s : State) : State :=
  if timerDue s.clock countDecayLength s.rlc.babbleDecay then
    s.modRlc fun r => { r with babbleCount := r.babbleCount - 1, babbleDecay := decayRestart s.clock r.babbleCount }
  else s

/-! ## The line (R76, R81, R84 to R86, R93) -/

/-- The station drives no frame. -/
def RiserLink.silent (r : RiserLink) : Bool :=
  match r.tx with
  | none => true
  | some t => t.frame.isNone

/-- Idle detection can be reached: the receiver is live and in no idle round, and the station drives no frame (R76). -/
def RiserLink.canGoIdle (r : RiserLink) : Bool :=
  r.silent &&
    match r.phase with
    | .quiet => true
    | .awaitIdle => true
    | .receiving => true
    | .off => false
    | .idle _ => false

/-- The line reaches idle detection: the first idle round begins (R76). -/
def idleDetected (s : State) : State :=
  if s.rlc.canGoIdle then s.modRlc fun r => { r.driverOff with phase := .idle 0 } else s

/-- A further idle round begins (R76). -/
def idleRoundBegins (s : State) : State :=
  match s.rlc.phase with
  | .idle _ => s.modRlc fun r => { r with phase := .idle 0 }
  | .off => s
  | .quiet => s
  | .awaitIdle => s
  | .receiving => s

/-- The station starts at a moment of the idle round: the class of that moment is the highest it has pending, and no
transmit block is present (R80, R81). -/
def State.startsAt (offset : Nat) (s : State) : Option AccessClass :=
  match s.contends with
  | none => none
  | some k => if !s.rlc.blocks.any && decide (offset = s.rlc.startMoment s.address k) then some k else none

/-- A start moment of an idle round (R81): the frame begins, or the moment is let pass. -/
def startMoment (offset : Nat) (s : State) : State :=
  match s.rlc.phase, s.rlc.tx with
  | .idle passed, none =>
    if passed ≤ offset then
      match s.startsAt offset with
      | some k => beginClass k s
      | none => s.modRlc fun r => { r with phase := .idle (offset + 1) }
    else s
  | _, _ => s

/-- Activity on the line ends the idle round (R76, R81). -/
def lineActive (s : State) : State :=
  match s.rlc.phase with
  | .idle _ => s.modRlc fun r => { r with phase := .receiving }
  | .off => s
  | .quiet => s
  | .awaitIdle => s
  | .receiving => s

/-- Dominant sensed after the frame end of a burst: the burst does not continue, and is counted (R84, R86). -/
def dominantSensed (s : State) : State :=
  match s.rlc.burst with
  | none => s
  | some _ =>
    s.modRlc fun r =>
      { r with burst := none, counters := { r.counters with burstsYielded := countUp r.counters.burstsYielded } }

/-- The burst continues with the next tile of its channel at 16 µs, or ends (R84). -/
def burstContinues (s : State) : State :=
  match s.rlc.burst, s.rlc.tx with
  | some c, none =>
    let s1 := s.modRlc fun r => { r with burst := none }
    if !s.rlc.blocks.any && s1.offersTile c then beginTile c s1 else s1
  | _, _ => s

/-- The yield mark decided on is driven, and counted (R85). -/
def yieldMarkDriven (s : State) : State :=
  if s.rlc.yieldDue && !s.rlc.blocks.any then
    (beginTransmission .yieldMark none false s).modRlc fun r =>
      { r with yieldDue := false, counters := { r.counters with yieldMarks := countUp r.counters.yieldMarks } }
  else s

/-- The time one transmission may be driven (R92). -/
def guardLength : Nat := 10

/-- The transmit guard cuts a transmission driven for 10 ms, and BABBLE appears (R92). -/
def guardCut (s : State) : State :=
  match s.rlc.tx with
  | none => s
  | some t =>
    if guardLength ≤ s.clock - t.start then
      babbleOnset (s.countLink fun k => { k with guardCuts := countUp k.guardCuts })
    else s

/-- Where the receiver goes after a discard (R93). -/
def ReceiveFault.next (phase : RiserPhase) : ReceiveFault → RiserPhase
  | .badStart => .awaitIdle
  | .framing => .awaitIdle
  | .badLength => .awaitIdle
  | .truncated => (match phase with | .idle n => .idle n | _ => .quiet)
  | .badCrc => .quiet
  | .unknownKind => .quiet

/-- A frame is discarded at its first failure, which is counted (R93). -/
def receiveFailure (bytes : List LineByte) (s : State) : State :=
  match receiveFault bytes with
  | none => s
  | some f =>
    if s.receives then
      s.modRlc fun r =>
        { r.driverOff with phase := f.next r.phase, counters := r.counters.fault f }
    else s

/-! ## The commands -/

/-- JOIN_LISTEN_END (R183). -/
def execJoinListenEnd (s : State) : Host.Outcome State Fault Refusal := quietEvent joinListenEnd s

/-- IDLE_DETECTION (R76). -/
def execIdleDetection (s : State) : Host.Outcome State Fault Refusal := quietEvent idleDetected s

/-- IDLE_ROUND (R76). -/
def execIdleRound (s : State) : Host.Outcome State Fault Refusal := quietEvent idleRoundBegins s

/-- START_MOMENT (R81). -/
def execStartMoment (offset : Nat) (s : State) : Host.Outcome State Fault Refusal := quietEvent (startMoment offset) s

/-- TRANSMISSION_COMPLETE (R77). -/
def execTransmissionComplete (s : State) : Host.Outcome State Fault Refusal := event completeTransmission s

/-- ATTEMPT_ABANDONED (R82). -/
def execAttemptAbandoned (s : State) : Host.Outcome State Fault Refusal := event abandonAttempt s

/-- BURST_CONTINUATION (R84). -/
def execBurstContinuation (s : State) : Host.Outcome State Fault Refusal := quietEvent burstContinues s

/-- DOMINANT_SENSED (R84, R86). -/
def execDominantSensed (s : State) : Host.Outcome State Fault Refusal := quietEvent dominantSensed s

/-- YIELD_MARK (R85). -/
def execYieldMark (s : State) : Host.Outcome State Fault Refusal := quietEvent yieldMarkDriven s

/-- TRANSMIT_GUARD_CUT (R92). -/
def execTransmitGuardCut (s : State) : Host.Outcome State Fault Refusal := event guardCut s

/-- DUPLICATE_HOLD_EXPIRY (R98). -/
def execDuplicateHoldExpiry (s : State) : Host.Outcome State Fault Refusal := quietEvent duplicateHoldExpiry s

/-- BABBLE_CLEAR (R99). -/
def execBabbleClear (s : State) : Host.Outcome State Fault Refusal := quietEvent babbleClear s

/-- LINE_CLEAR (R99). -/
def execLineClear (s : State) : Host.Outcome State Fault Refusal := quietEvent lineClear s

/-- DUPLICATE_COUNT_DECAY (R99). -/
def execDuplicateCountDecay (s : State) : Host.Outcome State Fault Refusal := quietEvent duplicateDecay s

/-- BABBLE_COUNT_DECAY (R99). -/
def execBabbleCountDecay (s : State) : Host.Outcome State Fault Refusal := quietEvent babbleDecay s

/-- REFRESH_TIMER_EXPIRY (R88). -/
def execRefreshTimerExpiry (s : State) : Host.Outcome State Fault Refusal := quietEvent refreshExpiry s

/-- DIRECTORY_TIMER_EXPIRY (R88). -/
def execDirectoryTimerExpiry (s : State) : Host.Outcome State Fault Refusal := quietEvent directoryExpiry s

/-- RECEIVE_FAILURE (R93). -/
def execReceiveFailure (bytes : List LineByte) (s : State) : Host.Outcome State Fault Refusal :=
  quietEvent (receiveFailure bytes) s

/-- LINE_ACTIVITY (R81). -/
def execLineActivity (s : State) : Host.Outcome State Fault Refusal := quietEvent lineActive s

end Sys2Proof.Machine
end

