-- ==== Sys2Proof/Machine/Startup.lean ====
section
/-! DEFINITION. Start-up (chapter 10, 6.2): the reset, the store-ready event, and the commands that bring them about. -/

namespace Sys2Proof.Machine

open Sys2Proof

/-! ## Reset (R179, R180) -/

/-- The station at its reset values (R179), with the straps and the store given. The queue of waiting commands and the
count of draws are the model's own and are kept (log 1, log 4). -/
def resetStation (address : Nat) (maintenance held : Bool) (store : PlanStore) (draws : Nat) (s : State) : State :=
  { State.reset with
    held := held
    address := address
    maintenance := maintenance
    rlc := RiserLink.atReset address maintenance
    store := store
    draws := draws
    pending := s.pending }

/-- RESET (R179, R180, R116): the reset takes effect, the straps are read, the start-up read begins. -/
def execReset (address : BitVec 6) (maintenance : Bool) (s : State) : Host.Outcome State Fault Refusal :=
  .next (resetStation address.toNat maintenance false (PlanStore.atReset (s.store.abandoned s.draws)) (s.draws + 1) s)

/-- RESET_ASSERTED (R179): while the pin is asserted every block holds its reset values and nothing happens. The straps
are read at its release. -/
def execResetAsserted (s : State) : Host.Outcome State Fault Refusal :=
  .next (resetStation s.address s.maintenance true
    { PlanStore.atReset (s.store.abandoned s.draws) with access := .free } (s.draws + 1) s)

/-! ## The store-ready event (R1, R14, R23, R56, R104, R106) -/

/-- A line takes its configuration (R1, R2, R14): a disabled line is held as UNUSED in DISABLED, its history emptied. -/
def configureLine (image : Option HeaderImage) (i : Nat) (l : LineRecord) : LineRecord :=
  match image with
  | none =>
    { l with ztype := .unused, floor := 0, label := List.replicate 8 space, history := [], zstate := .disabled }
  | some h =>
    let cfg := h.lines.getD i { ztype := .unused, offset := 0, label := List.replicate 8 space }
    let onFloor := decide (cfg.offset < h.floorCount)
    let placed := { l with floor := if onFloor then h.firstFloor + cfg.offset else h.firstFloor, label := cfg.label }
    if onFloor && decide (cfg.ztype ≠ .unused) then { placed with ztype := cfg.ztype }
    else { placed with ztype := .unused, history := [], zstate := .disabled }

/-- The lines as the configuration leaves them. -/
def configuredLines (image : Option HeaderImage) (s : State) : Vector LineRecord 16 :=
  tbuild 16 fun i => configureLine image i (s.line i)

/-- The own entries as the configuration leaves them: each disabled line written without a raise, all sixteen labelled
(R14, R23). -/
def configuredEntries (s : State) : List EntryChange :=
  (List.range 16).map fun i =>
    let l := s.line i
    let old := s.entry s.ownOrigin i
    let written := if l.ztype = .unused then ownEntryOf s.clock l false old else old
    { origin := s.ownOrigin, line := i, new := written.relabel l.label }

/-- The images become fixed (R104, R105, R106). -/
def fixImages (x : StoreScan) (s : State) : State :=
  { s.modStore fun p =>
      { p with image := x.header, sheets := x.records, counts := x.counts, ready := true, access := .free } with
    noConfig := x.header.isNone }

/-- The Zone Unit takes its configuration (R1). -/
def takeConfiguration (s : State) : State :=
  s.modZones fun z => { z with lines := configuredLines s.store.image s, configTaken := true }

/-- The own holdings are taken (R56). -/
def takeHoldings (s : State) : State :=
  s.modHolders fun h => { h with own := some (ownHoldingsOf s.store.image s.store.sheets) }

/-- The store-ready event (R106), with sampling ready when no line is enabled or every history is full (R2). -/
def storeReady (x : StoreScan) (s : State) : State :=
  let s1 := takeHoldings (takeConfiguration (fixImages x s))
  let s2 := recomputeHolders s1
  samplingReady (pictureEvent (configuredEntries s2) (changedOwnerLabels s1 s2) [] s2)

/-- A start-up read has ended with the bytes it found: the next of the 97 begins, or the store is ready (R103). -/
def startupReadEnds (slot : Option Nat) (x : StoreScan) (bytes : Option (List Byte)) (s : State) : State :=
  let x1 := x.takeRead slot bytes
  match nextRead slot with
  | some n => s.modStore fun p => { p with access := .startup (some n) x1 s.clock }
  | none => storeReady x1 s

/-- The flash completes the header read (R103, R104). -/
def headerReadDone (s : State) : State :=
  match s.store.access with
  | .startup none x begun => startupReadEnds none x (s.scanRead none begun) s
  | _ => s

/-- The flash completes a slot read (R103, R105). -/
def slotReadDone (s : State) : State :=
  match s.store.access with
  | .startup (some n) x begun => startupReadEnds (some n) x (s.scanRead (some n) begun) s
  | _ => s

/-- A start-up read has not been completed within its 1 ms (R103). -/
def startupReadTimeout (s : State) : State :=
  match s.store.access with
  | .startup slot x begun => if readLimit ≤ s.clock - begun then startupReadEnds slot x none s else s
  | _ => s

/-- HEADER_READ_DONE (R104). -/
def execHeaderReadDone (s : State) : Host.Outcome State Fault Refusal := event headerReadDone s

/-- SLOT_READ_DONE (R105, R106). -/
def execSlotReadDone (s : State) : Host.Outcome State Fault Refusal := event slotReadDone s

/-- STARTUP_READ_TIMEOUT (R103). -/
def execStartupReadTimeout (s : State) : Host.Outcome State Fault Refusal := event startupReadTimeout s

end Sys2Proof.Machine
end

