-- ==== Sys2Proof/Machine/StoreCommands.lean ====
section
/-! DEFINITION. The commands of the plan store (chapter 6): the ends of tile reads and of maintenance operations, and
the STORE requests. -/

namespace Sys2Proof.Machine

open Sys2Proof

/-! ## Tile reads (R110, R111) -/

/-- The reader's counters at the end of a read the flash delivered (R110). -/
def PlanStore.countRead (ok : Bool) (p : PlanStore) : PlanStore :=
  if ok then { p with tilesOk := countUp p.tilesOk } else { p with tilesBad := countUp p.tilesBad }

/-- A tile read that the flash has not completed within its 1 ms ends BAD, counted as a read timeout (R110). -/
def tileTooLate (r : TileRead) (withdrawn : Bool) (s : State) : State :=
  tileReadEnds r withdrawn none (s.modStore fun p => { p with timeouts := countUp p.timeouts })

/-- The flash has delivered the 258 bytes of a tile (R110). -/
def tileDelivered (r : TileRead) (withdrawn : Bool) (s : State) : State :=
  let data := tileData (s.store.memory.readRange r.offset 258)
  tileReadEnds r withdrawn data (s.modStore (PlanStore.countRead data.isSome))

/-- The bytes of a tile would lie beyond the last store offset (6.1). -/
def TileRead.beyond (r : TileRead) : Bool := decide (storeSize < r.offset + 258)

/-- TILE_READ_END (R110): past its 1 ms a read ends as a timeout, whatever the flash then delivers (log 11). -/
def execTileReadEnd (s : State) : Host.Outcome State Fault Refusal :=
  match s.store.access with
  | .tile r begun withdrawn =>
    if inTime readLimit begun s.clock then
      if r.beyond && !s.held then .fault (.beyondStore r.offset) else event (tileDelivered r withdrawn) s
    else event (tileTooLate r withdrawn) s
  | _ => .next s

/-- The flash has not delivered a tile within 1 ms (R110). -/
def tileReadTimeout (s : State) : State :=
  match s.store.access with
  | .tile r begun withdrawn => if readLimit ≤ s.clock - begun then tileTooLate r withdrawn s else s
  | _ => s

/-- TILE_READ_TIMEOUT (R110). -/
def execTileReadTimeout (s : State) : Host.Outcome State Fault Refusal := event tileReadTimeout s

/-! ## Maintenance operations (R112 to R115) -/

/-- The flash free after an operation, holding `m`. -/
def PlanStore.operationOver (m : Memory) (p : PlanStore) : PlanStore := { p with memory := m, access := .free }

/-- A write whose programming and read-back are complete in time (R113). -/
def writeCompleted (offset : Nat) (data : List Byte) (discard : Bool) (s : State) : State :=
  let m := s.store.memory.program offset data
  let s1 := s.modStore (PlanStore.operationOver m)
  match m.firstDiffering offset data with
  | none => storeResult discard 0x10 .written [] s1
  | some a => storeResult discard 0x10 .verifyFail (be32 a) s1

/-- A write not completed within its 5 ms: the bytes hold whatever the flash has programmed (R113; log 4). -/
def writeFaulted (offset : Nat) (data : List Byte) (discard : Bool) (s : State) : State :=
  storeResult discard 0x10 .storeFault []
    { s.modStore (PlanStore.operationOver (s.store.memory.timeoutWrite s.draws offset data)) with draws := s.draws + 1 }

/-- The flash completes a write and its read-back: STORE_FAULT past the 5 ms (R113; log 11). -/
def storeWriteDone (s : State) : State :=
  match s.store.access with
  | .write offset data begun discard =>
    if inTime writeLimit begun s.clock then writeCompleted offset data discard s else writeFaulted offset data discard s
  | _ => s

/-- STORE_WRITE_DONE (R113). -/
def execStoreWriteDone (s : State) : Host.Outcome State Fault Refusal := event storeWriteDone s

/-- A write's 5 ms have passed (R113). -/
def storeWriteTimeout (s : State) : State :=
  match s.store.access with
  | .write offset data begun discard =>
    if writeLimit ≤ s.clock - begun then writeFaulted offset data discard s else s
  | _ => s

/-- STORE_WRITE_TIMEOUT (R113). -/
def execStoreWriteTimeout (s : State) : Host.Outcome State Fault Refusal := event storeWriteTimeout s

/-- An erase not reported complete within its 2000 ms (R114): what the block then holds is not stated (log 4). -/
def eraseFaulted (block : Nat) (discard : Bool) (s : State) : State :=
  storeResult discard 0x11 .storeFault []
    { s.modStore (PlanStore.operationOver (s.store.memory.timeoutErase s.draws block)) with draws := s.draws + 1 }

/-- The flash reports an erase complete: STORE_FAULT past the 2000 ms (R114; log 11). -/
def storeEraseDone (s : State) : State :=
  match s.store.access with
  | .erase block begun discard =>
    if inTime eraseLimit begun s.clock then
      storeResult discard 0x11 .erased [] (s.modStore (PlanStore.operationOver (s.store.memory.eraseBlock block)))
    else eraseFaulted block discard s
  | _ => s

/-- STORE_ERASE_DONE (R114). -/
def execStoreEraseDone (s : State) : Host.Outcome State Fault Refusal := event storeEraseDone s

/-- An erase's 2000 ms have passed (R114). -/
def storeEraseTimeout (s : State) : State :=
  match s.store.access with
  | .erase block begun discard => if eraseLimit ≤ s.clock - begun then eraseFaulted block discard s else s
  | _ => s

/-- STORE_ERASE_TIMEOUT (R114). -/
def execStoreEraseTimeout (s : State) : Host.Outcome State Fault Refusal := event storeEraseTimeout s

/-- One of the 97 reads of a STORE CHECK has ended: the next begins, or the operation ends with its response (R115). -/
def checkReadEnds (slot : Option Nat) (x : StoreScan) (discard : Bool) (bytes : Option (List Byte)) (s : State) : State :=
  let x1 := x.takeRead slot bytes
  match nextRead slot with
  | some n => s.modStore fun p => { p with access := .check (some n) x1 s.clock discard }
  | none => storeResult discard 0x12 .checked (checkedFields x1) (s.modStore fun p => { p with access := .free })

/-- The flash completes a read of a STORE CHECK (R115). -/
def storeCheckReadDone (s : State) : State :=
  match s.store.access with
  | .check slot x begun discard => checkReadEnds slot x discard (s.scanRead slot begun) s
  | _ => s

/-- STORE_CHECK_READ_DONE (R115). -/
def execStoreCheckReadDone (s : State) : Host.Outcome State Fault Refusal := event storeCheckReadDone s

/-- A read of a STORE CHECK has not been completed within its 1 ms (R103, R115). -/
def storeCheckReadTimeout (s : State) : State :=
  match s.store.access with
  | .check slot x begun discard => if readLimit ≤ s.clock - begun then checkReadEnds slot x discard none s else s
  | _ => s

/-- STORE_CHECK_READ_TIMEOUT (R115). -/
def execStoreCheckReadTimeout (s : State) : Host.Outcome State Fault Refusal := event storeCheckReadTimeout s

/-! ## STORE requests (R112 to R115) -/

/-- STORE_WRITE (R113): the request complete at the port. -/
def execStoreWrite (p : Port) (offset : BitVec 32) (data : List Byte) (s : State) : Host.Outcome State Fault Refusal :=
  event (crewRequest p 0x10 (be32 offset.toNat ++ data)) s

/-- STORE_ERASE (R114). -/
def execStoreErase (p : Port) (block : Half) (s : State) : Host.Outcome State Fault Refusal :=
  event (crewRequest p 0x11 (be16 block.toNat)) s

/-- STORE_CHECK (R115). -/
def execStoreCheck (p : Port) (s : State) : Host.Outcome State Fault Refusal := event (crewRequest p 0x12 []) s

end Sys2Proof.Machine
end

