-- ==== Sys2Proof/Machine/TransferCommands.lean ====
section
/-! DEFINITION. The commands of sheet transfers (chapter 7): the crew requests SHEET and CANCEL, and the timers of a
channel. -/

namespace Sys2Proof.Machine

open Sys2Proof

/-- SHEET (R122): the request complete at the port. -/
def execSheet (p : Port) (floor kind : Byte) (first last revision : Half) (s : State) :
    Host.Outcome State Fault Refusal :=
  event (crewRequest p 0x06 ([floor, kind] ++ be16 first.toNat ++ be16 last.toNat ++ be16 revision.toNat)) s

/-- CANCEL (R137): the request complete at the port. -/
def execCancel (p : Port) (channel : Byte) (s : State) : Host.Outcome State Fault Refusal :=
  event (crewRequest p 0x07 [channel]) s

/-- The wait after a submission answered QUEUE_FULL (R127). -/
def queueFullLength : Nat := 20

/-- The length of the response timer (R127). -/
def responseLength : Nat := 60

/-- The wait before a BUSY retry (R128). -/
def busyLength : Nat := 100

/-- The length of the gap timer (R129). -/
def gapLength : Nat := 100

/-- A channel still fetching submits its request again (R127). -/
def queueFullRetry (c : Nat) (s : State) : State :=
  let k := s.channel c
  if k.fetching && timerDue s.clock queueFullLength k.queueFullWait then submitRequest c s else s

/-- QUEUE_FULL_RETRY (R127). -/
def execQueueFullRetry (channel : Fin 6) (s : State) : Host.Outcome State Fault Refusal :=
  event (queueFullRetry channel.val) s

/-- The response timer of a channel expires, and it moves to the next candidate (R128). -/
def responseExpiry (c : Nat) (s : State) : State :=
  let k := s.channel c
  if k.fetching && timerDue s.clock responseLength k.responseTimer then moveNext c true s else s

/-- RESPONSE_TIMER_EXPIRY (R128). -/
def execResponseTimerExpiry (channel : Fin 6) (s : State) : Host.Outcome State Fault Refusal :=
  event (responseExpiry channel.val) s

/-- A channel builds a new window request to the candidate that was BUSY (R128). -/
def busyRetry (c : Nat) (s : State) : State :=
  let k := s.channel c
  if k.fetching && timerDue s.clock busyLength k.busyWait then
    buildWindow c (s.modChannel c fun x => { x with busyWait := none })
  else s

/-- BUSY_RETRY (R128). -/
def execBusyRetry (channel : Fin 6) (s : State) : Host.Outcome State Fault Refusal := event (busyRetry channel.val) s

/-- The gap timer of a channel in RECEIVE whose window is not complete expires: a gap event (R130). -/
def gapExpiry (c : Nat) (s : State) : State :=
  let k := s.channel c
  if decide (k.state = .receive) && k.fetching && k.expected.isSome && timerDue s.clock gapLength k.gapTimer then
    gapEvent c (s.modChannel c fun x => { x with gapTimer := none })
  else s

/-- GAP_TIMER_EXPIRY (R130). -/
def execGapTimerExpiry (channel : Fin 6) (s : State) : Host.Outcome State Fault Refusal :=
  event (gapExpiry channel.val) s

end Sys2Proof.Machine
end

