-- ==== Sys2Proof/Machine/ZoneCommands.lean ====
section
/-! DEFINITION. The commands of the zone lines (chapter 1): the samples of a mark, and the evaluations in which a zone
timer is found expired. -/

namespace Sys2Proof.Machine

open Sys2Proof

/-- The sample of one line of a mark, with its evaluation an event of its own that has its own end (R8; log 7), and sampling
ready when it completes the histories (R2). -/
def sampleEvent (values : Vector (BitVec 10) 16) (s : State) (i : Nat) : State :=
  if s.markDue i && s.lineSampled i then settle s (samplingReady (sampleLine i (tget 0#10 values i).toNat s)) else s

/-- The samples of a 20 ms mark (R2). R8 calls each evaluation one event and does not say in which order the sixteen of a mark
come: line 0 first, each with the end of its event before the next line's sample, is the model's choice (log 7). -/
def sampleMark (values : Vector (BitVec 10) 16) (s : State) : State := (List.range 16).foldl (sampleEvent values) s

/-- The sample of one line at a mark, when its evaluation finds what a test says (R8; log 8). -/
def sampleWhen (i v : Nat) (test : LineRecord → LineClass → Bool) (s : State) : State :=
  match s.evaluationFinds i v with
  | none => s
  | some f => if test f.1 f.2 then samplingReady (sampleLine i v s) else s

/-- A class of a fault (R9, R15). -/
def LineClass.isFault (c : LineClass) : Bool := decide (c = .openLoop) || decide (c = .short)

/-- The evaluation finds PENDING, class ALARM and the confirm timer expired (R10). -/
def confirmDue (now : Nat) (l : LineRecord) (c : LineClass) : Bool :=
  decide (l.zstate = .pending) && decide (c = .alarm) && timerDue now l.confirmLength l.confirmTimer

/-- The evaluation finds NORMAL, a fault class and the trouble timer expired (R9). -/
def troubleDue (now : Nat) (l : LineRecord) (c : LineClass) : Bool :=
  decide (l.zstate = .normal) && c.isFault && timerDue now troubleDelay l.troubleTimer

/-- The evaluation finds CLEARING, class NORMAL and the restore timer expired (R12). -/
def restoreDue (now : Nat) (l : LineRecord) (c : LineClass) : Bool :=
  decide (l.zstate = .clearing) && decide (c = .normal) && timerDue now l.ztype.restore l.restoreTimer

/-- The evaluation finds TROUBLE, class NORMAL and the normal-hold timer expired (R13). -/
def normalHoldDue (now : Nat) (l : LineRecord) (c : LineClass) : Bool :=
  decide (l.zstate = .trouble) && decide (c = .normal) && timerDue now troubleDelay l.holdTimer

/-- The evaluation leaves the zone in NORMAL or TROUBLE with a repeat count, and finds the decay timer expired (R17). -/
def decayDue (now : Nat) (boost : Bool) (l : LineRecord) (c : LineClass) : Bool :=
  let l1 := stateRule now boost c l
  (decide (l1.zstate = .normal) || decide (l1.zstate = .trouble)) && decide (1 ≤ l1.repeatCount) &&
    timerDue now decayLength l1.decayTimer

/-- SAMPLE (R2, R8): sixteen events, of which none has an end beyond its own. -/
def execSample (values : Vector (BitVec 10) 16) (s : State) : Host.Outcome State Fault Refusal :=
  quietEvent (sampleMark values) s

/-- CONFIRM_TIMER_EXPIRY (R10). -/
def execConfirmTimerExpiry (line : Fin 16) (value : BitVec 10) (s : State) : Host.Outcome State Fault Refusal :=
  event (sampleWhen line.val value.toNat (confirmDue s.clock)) s

/-- TROUBLE_TIMER_EXPIRY (R9). -/
def execTroubleTimerExpiry (line : Fin 16) (value : BitVec 10) (s : State) : Host.Outcome State Fault Refusal :=
  event (sampleWhen line.val value.toNat (troubleDue s.clock)) s

/-- RESTORE_TIMER_EXPIRY (R12). -/
def execRestoreTimerExpiry (line : Fin 16) (value : BitVec 10) (s : State) : Host.Outcome State Fault Refusal :=
  event (sampleWhen line.val value.toNat (restoreDue s.clock)) s

/-- NORMAL_HOLD_TIMER_EXPIRY (R13). -/
def execNormalHoldTimerExpiry (line : Fin 16) (value : BitVec 10) (s : State) : Host.Outcome State Fault Refusal :=
  event (sampleWhen line.val value.toNat (normalHoldDue s.clock)) s

/-- DECAY_TIMER_EXPIRY (R17). -/
def execDecayTimerExpiry (line : Fin 16) (value : BitVec 10) (s : State) : Host.Outcome State Fault Refusal :=
  event (sampleWhen line.val value.toNat (decayDue s.clock (s.boostApplies line.val))) s

end Sys2Proof.Machine
end

