-- ==== Sys2Proof/Machine/Dispatch.lean ====
section
/-! DEFINITION. What each command does to everything but the queue of commands. -/

namespace Sys2Proof.Machine

open Sys2Proof

def exec (i : Instr) (s : State) : Host.Outcome State Fault Refusal :=
  match i with
  | .reset address maintenance => Sys2Proof.Machine.execReset address maintenance s
  | .headerReadDone => Sys2Proof.Machine.execHeaderReadDone s
  | .slotReadDone => Sys2Proof.Machine.execSlotReadDone s
  | .startupReadTimeout => Sys2Proof.Machine.execStartupReadTimeout s
  | .sample values => Sys2Proof.Machine.execSample values s
  | .confirmTimerExpiry line value => Sys2Proof.Machine.execConfirmTimerExpiry line value s
  | .troubleTimerExpiry line value => Sys2Proof.Machine.execTroubleTimerExpiry line value s
  | .restoreTimerExpiry line value => Sys2Proof.Machine.execRestoreTimerExpiry line value s
  | .normalHoldTimerExpiry line value => Sys2Proof.Machine.execNormalHoldTimerExpiry line value s
  | .decayTimerExpiry line value => Sys2Proof.Machine.execDecayTimerExpiry line value s
  | .joinListenEnd => Sys2Proof.Machine.execJoinListenEnd s
  | .idleDetection => Sys2Proof.Machine.execIdleDetection s
  | .idleRound => Sys2Proof.Machine.execIdleRound s
  | .startMoment offset => Sys2Proof.Machine.execStartMoment offset s
  | .transmissionComplete => Sys2Proof.Machine.execTransmissionComplete s
  | .attemptAbandoned => Sys2Proof.Machine.execAttemptAbandoned s
  | .burstContinuation => Sys2Proof.Machine.execBurstContinuation s
  | .dominantSensed => Sys2Proof.Machine.execDominantSensed s
  | .yieldMark => Sys2Proof.Machine.execYieldMark s
  | .transmitGuardCut => Sys2Proof.Machine.execTransmitGuardCut s
  | .duplicateHoldExpiry => Sys2Proof.Machine.execDuplicateHoldExpiry s
  | .babbleClear => Sys2Proof.Machine.execBabbleClear s
  | .lineClear => Sys2Proof.Machine.execLineClear s
  | .duplicateCountDecay => Sys2Proof.Machine.execDuplicateCountDecay s
  | .babbleCountDecay => Sys2Proof.Machine.execBabbleCountDecay s
  | .refreshTimerExpiry => Sys2Proof.Machine.execRefreshTimerExpiry s
  | .directoryTimerExpiry => Sys2Proof.Machine.execDirectoryTimerExpiry s
  | .receiveFailure bytes => Sys2Proof.Machine.execReceiveFailure bytes s
  | .zoneState cls origin dest payload => Sys2Proof.Machine.execZoneState cls origin dest payload s
  | .directory origin dest payload => Sys2Proof.Machine.execDirectory origin dest payload s
  | .sheetRequest origin dest payload => Sys2Proof.Machine.execSheetRequest origin dest payload s
  | .sheetRefuse origin dest payload => Sys2Proof.Machine.execSheetRefuse origin dest payload s
  | .sheetCancel origin dest payload => Sys2Proof.Machine.execSheetCancel origin dest payload s
  | .sheetTile origin dest payload => Sys2Proof.Machine.execSheetTile origin dest payload s
  | .markAck origin dest payload => Sys2Proof.Machine.execMarkAck origin dest payload s
  | .markAttendOn origin dest payload => Sys2Proof.Machine.execMarkAttendOn origin dest payload s
  | .markAttendOff origin dest payload => Sys2Proof.Machine.execMarkAttendOff origin dest payload s
  | .silenceTimerExpiry peer => Sys2Proof.Machine.execSilenceTimerExpiry peer s
  | .tileReadEnd => Sys2Proof.Machine.execTileReadEnd s
  | .tileReadTimeout => Sys2Proof.Machine.execTileReadTimeout s
  | .storeWrite port offset data => Sys2Proof.Machine.execStoreWrite port offset data s
  | .storeErase port block => Sys2Proof.Machine.execStoreErase port block s
  | .storeCheck port => Sys2Proof.Machine.execStoreCheck port s
  | .storeWriteDone => Sys2Proof.Machine.execStoreWriteDone s
  | .storeWriteTimeout => Sys2Proof.Machine.execStoreWriteTimeout s
  | .storeEraseDone => Sys2Proof.Machine.execStoreEraseDone s
  | .storeEraseTimeout => Sys2Proof.Machine.execStoreEraseTimeout s
  | .storeCheckReadDone => Sys2Proof.Machine.execStoreCheckReadDone s
  | .storeCheckReadTimeout => Sys2Proof.Machine.execStoreCheckReadTimeout s
  | .sheet port floor kind first last revision => Sys2Proof.Machine.execSheet port floor kind first last revision s
  | .queueFullRetry channel => Sys2Proof.Machine.execQueueFullRetry channel s
  | .responseTimerExpiry channel => Sys2Proof.Machine.execResponseTimerExpiry channel s
  | .busyRetry channel => Sys2Proof.Machine.execBusyRetry channel s
  | .gapTimerExpiry channel => Sys2Proof.Machine.execGapTimerExpiry channel s
  | .cancel port channel => Sys2Proof.Machine.execCancel port channel s
  | .breakDetected port => Sys2Proof.Machine.execBreakDetected port s
  | .crewMessageReceived port kind body check => Sys2Proof.Machine.execCrewMessageReceived port kind body check s
  | .receiveStall port => Sys2Proof.Machine.execReceiveStall port s
  | .unknown port kind body => Sys2Proof.Machine.execUnknown port kind body s
  | .attach port body => Sys2Proof.Machine.execAttach port body s
  | .detach port => Sys2Proof.Machine.execDetach port s
  | .picture port first last => Sys2Proof.Machine.execPicture port first last s
  | .floor port floor start => Sys2Proof.Machine.execFloor port floor start s
  | .watch port floors => Sys2Proof.Machine.execWatch port floors s
  | .ack port station line change => Sys2Proof.Machine.execAck port station line change s
  | .attendOn port floor => Sys2Proof.Machine.execAttendOn port floor s
  | .attendOff port floor => Sys2Proof.Machine.execAttendOff port floor s
  | .peek port => Sys2Proof.Machine.execPeek port s
  | .finish port level => Sys2Proof.Machine.execFinish port level s
  | .mask port bits => Sys2Proof.Machine.execMask port bits s
  | .streamOn port period => Sys2Proof.Machine.execStreamOn port period s
  | .streamOff port period => Sys2Proof.Machine.execStreamOff port period s
  | .streamPassStart port => Sys2Proof.Machine.execStreamPassStart port s
  | .status port clear => Sys2Proof.Machine.execStatus port clear s
  | .messageEnd port => Sys2Proof.Machine.execMessageEnd port s
  | .resetAsserted => Sys2Proof.Machine.execResetAsserted s
  | .lineActivity => Sys2Proof.Machine.execLineActivity s
  | .lineReturnedHigh port => Sys2Proof.Machine.execLineReturnedHigh port s
  | .crewByteFramingError port => Sys2Proof.Machine.execCrewByteFramingError port s
  | .crewLengthFieldFault port length => Sys2Proof.Machine.execCrewLengthFieldFault port length s

end Sys2Proof.Machine
end

