-- ==== Sys2Proof/Safety.lean ====
section
/-! DEFINITION. What the statements speak of: the laws of the manual that every step keeps, the state a crew request finds
when the port serves it at once, and what the end of an event leaves as the event made it. -/

namespace Sys2Proof.Machine

open Sys2Proof

/-! ## The laws -/

/-- The plan store's list of bytes is in its one canonical form (6.1). -/
abbrev MemoryLaw (s : State) : Prop := s.store.memory.wf = true

/-- The station drives only while no transmit block is present (R97); ADDRESS and MAINTENANCE stand as the straps of the
last reset placed them (R180); the four last origins are addresses from 1 to 62 (R78). -/
abbrev LinkLaw (s : State) : Prop :=
  (s.rlc.tx.isSome = true → s.rlc.blocks.any = false) ∧
  s.address ≤ 63 ∧ s.rlc.blocks.address = !validAddress s.address ∧
  s.rlc.blocks.maintenance = s.maintenance ∧
  validAddress s.rlc.lastOrigins.alarm = true ∧ validAddress s.rlc.lastOrigins.control = true ∧
  validAddress s.rlc.lastOrigins.bulk = true ∧ validAddress s.rlc.lastOrigins.routine = true

/-- The CONTROL queue holds at most 8 entries (R90), the duplicate and babble counts stay at 3 or below (R99), and the
consecutive abandoned attempts return to 0 at 8 (R83). -/
abbrev LinkLimits (s : State) : Prop :=
  s.rlc.control.length ≤ 8 ∧ s.rlc.duplicateCount ≤ 3 ∧ s.rlc.babbleCount ≤ 3 ∧ s.rlc.abandoned ≤ 7

/-- Every attendance list holds at most 4 entries, never two for the same station and port (R41). -/
abbrev AttendanceLaw (s : State) : Prop :=
  ∀ f < 256, (s.floor f).attendance.length ≤ 4 ∧
    (s.floor f).attendance.Pairwise fun a b => ¬(a.station = b.station ∧ a.port = b.port)

/-- A notice queue holds at most 32 records and never two of one level and subject (R168); every record in service is in
the queue, and each has a lower level number than those beneath it (R170); the notices due are in service (R171). -/
abbrev NoticeController.Lawful (n : NoticeController) : Prop :=
  n.queue.length ≤ 32 ∧ (n.queue.map (·.key)).Nodup ∧
  (∀ k ∈ n.stack, k ∈ n.queue.map (·.key)) ∧
  n.stack.Pairwise (fun beneath above => above.level < beneath.level) ∧
  (∀ k ∈ n.due, k ∈ n.stack)

abbrev NoticeLaw (s : State) : Prop := s.noticesA.Lawful ∧ s.noticesB.Lawful

/-- A remote KNOWN entry is STALE exactly when its origin's peer record is LOST, and no KNOWN entry of the own row is
STALE (R36). -/
abbrev StaleLaw (s : State) : Prop :=
  ∀ o ≤ 62, ∀ l ≤ 15, (s.entry o l).known = true →
    (o = s.ownOrigin → (s.entry o l).stale = false) ∧
    (s.isPeer o = true → ((s.entry o l).stale = true ↔ (s.peer o).presence = .lost))

/-- A remote entry carries an acknowledgement only in ALARM or CLEARING and at its own change number (R26). -/
abbrev RemoteAckLaw (s : State) : Prop :=
  ∀ o ≤ 62, ∀ l ≤ 15, s.isPeer o = true → ∀ a, (s.entry o l).ack = some a →
    (s.entry o l).zstate.inEpisode = true ∧ a.change = (s.entry o l).changeNumber

/-- A line that no evaluation has touched: its reset values but for the samples taken (R2, R24). -/
abbrev LineRecord.Untouched (l : LineRecord) : Prop := { l with history := [], lastMark := 0 } = LineRecord.atReset

/-- A start-up read is in progress. -/
def FlashAccess.isStartup : FlashAccess → Bool
  | .startup _ _ _ => true
  | .free => false
  | .tile _ _ _ => false
  | .write _ _ _ _ => false
  | .erase _ _ _ => false
  | .check _ _ _ _ => false

/-- The start-up reading comes before the store-ready event alone, which gives the Zone Unit its configuration (R103,
R106); no line is evaluated before it (R1, R3). -/
abbrev StartUpLaw (s : State) : Prop :=
  (s.store.access.isStartup = true → s.store.ready = false) ∧ s.zones.configTaken = s.store.ready ∧
  (s.zones.configTaken = false → ∀ i < 16, (s.line i).Untouched)

/-- Each floor's summary says what its counted entries give (R38, R39, R42). The own entries are EMPTY until the
configuration is taken, and then stand on their lines' floors (R1, R14, R23). -/
abbrev SummaryLaw (s : State) : Prop :=
  StartUpLaw s ∧
  (∀ i < 16, (s.entry s.ownOrigin i).known = true →
    s.zones.configTaken = true ∧ (s.entry s.ownOrigin i).floor = (s.line i).floor) ∧
  ∀ f < 256, (s.floor f).counts = countsOf (s.picture.counted f)

/-- The laws of one line record: what each flag, count and timer says of the zone state (R7, R10, R15 to R19). -/
abbrev LineRecord.Lawful (l : LineRecord) : Prop :=
  l.history.length ≤ 4 ∧
  (l.lineLost = true → l.zstate = .alarm) ∧
  (l.trouble.isSome = true ↔ (l.zstate = .trouble ∨ l.lineLost = true)) ∧
  (l.boosted = true → l.zstate = .pending ∧ l.ztype.isFire = true) ∧
  (l.recurring = true → 1 ≤ l.repeatCount) ∧ l.repeatCount ≤ 15 ∧ l.transientCount ≤ 255 ∧
  (l.episodeStart.isSome = true ↔ (l.zstate = .alarm ∨ l.zstate = .clearing)) ∧
  (l.confirmTimer.isSome = true ↔ l.zstate = .pending) ∧
  (l.restoreTimer.isSome = true ↔ l.zstate = .clearing) ∧
  (l.troubleTimer.isSome = true → l.zstate = .normal) ∧
  (l.holdTimer.isSome = true → l.zstate = .trouble) ∧
  (l.decayTimer.isSome = true → (l.zstate = .normal ∨ l.zstate = .trouble) ∧ 1 ≤ l.repeatCount)

/-- The laws of the sixteen lines, with the start-up law they rest on. -/
abbrev ZoneLaw (s : State) : Prop := StartUpLaw s ∧ ∀ i < 16, (s.line i).Lawful

/-- At most 4 channels are in SERVE, and at most 3 channels belong to one crew port (R117). -/
abbrev ChannelLimits (s : State) : Prop := s.serving ≤ 4 ∧ ∀ p, (s.channelsOf p).length ≤ 3

/-! ## The state a command finds -/

/-- A complete crew request is taken in the event it arrives: the station runs, the port takes bytes, its receive buffer
and its response slot are empty (R144, R145, R149). -/
abbrev Ready (p : Port) (s : State) : Prop :=
  s.held = false ∧ (s.port p).hears = true ∧ (s.port p).buffer = [] ∧ (s.port p).responseSlot = []

/-- The receiver of a port after a message has ended: it hunts (R148). -/
def State.hunting (p : Port) (s : State) : State := s.modPort p fun q => { q with receiving := false }

/-- An evaluation of line `i` comes with sample `v`: the clock stands at a 20 ms mark, the line is enabled, and its
history then holds four samples (R2, R3). -/
abbrev State.evaluates (i v : Nat) (s : State) : Prop :=
  s.held = false ∧ s.starting = false ∧ s.markDue i = true ∧ s.lineEnabled i = true ∧
    ((s.line i).push s.clock v).history.length = 4

/-- The class that evaluation finds (R3 to R5). -/
def State.classFound (i v : Nat) (s : State) : LineClass :=
  classify (s.line i).lclass (resistanceOf (readingOf ((s.line i).push s.clock v).history))

/-! ## The end of an event

After the event's own effect, the channels, the store, the Notice Controllers' selections and the output arbiters act
(R109, R121, R124, R127, R136, R140, R159, R170; log 12). -/

/-- A transmission but for whether its service is live. -/
def Transmission.apart (t : Transmission) : Transmission := { t with serviceLive := true }

/-- The records of levels 0 to 6, the mask and the watch list: what of a Notice Controller the end of an event leaves. -/
def NoticeController.lasting (n : NoticeController) : NoticeController :=
  { n with queue := n.queue.filter (fun r => decide (r.key.level < 7)), stack := [], due := [], lost := false }

/-- The state with everything that the end of an event may change put to one value: the CONTROL queue, and whether the
frame on the line belongs to a live service; the store's access, waiting requests, rotation and count of BAD tiles; the
channels, their buffers and counters; of the Notice Controllers the records of level TRANSFER, the stack, the notices due
and NOTICE_LOST; of the ports the message being sent, the rotation and the stream's cursor, start and open pass. -/
def State.lasting (s : State) : State :=
  { s with
    rlc := { s.rlc with control := [], tx := s.rlc.tx.map Transmission.apart }
    store := { s.store with access := .free, waiting := none, lists := Vector.replicate 6 [], rotation := 0, tilesBad := 0 }
    ste := { s.ste with
      channels := Vector.replicate 6 Channel.freed
      buffers := Vector.replicate 16 TileBuffer.freed
      counters := default }
    portA := { s.portA with sending := none, rotation := 0, stream := { s.portA.stream with cursor := 0, start := 0, passOpen := false } }
    portB := { s.portB with sending := none, rotation := 0, stream := { s.portB.stream with cursor := 0, start := 0, passOpen := false } }
    noticesA := s.noticesA.lasting
    noticesB := s.noticesB.lasting }

/-- `t` is how an event ends that left the state `u` before its end: nothing else is changed, and a message being sent
goes on. -/
structure EndsAs (u t : State) : Prop where
  lasting : t.lasting = u.lasting
  sending : ∀ p m, (u.port p).sending = some m → (t.port p).sending = some m

/-! ## What a change of the picture leaves alone -/

/-- The state with everything that a change of zone entries may change put to one value: the picture's entries and
summaries, the lines that take a boost, the ALARM mark they set, and the queues of the Notice Controllers. -/
def State.apartPicture (s : State) : State :=
  { s with
    zones := { s.zones with lines := Vector.replicate 16 LineRecord.atReset }
    picture := { s.picture with entries := Vector.replicate 1008 ZoneEntry.empty, floors := Vector.replicate 256 FloorSummary.atReset }
    rlc := { s.rlc with alarmPending := false, tx := s.rlc.tx.map fun t => { t with raisedSince := false } }
    noticesA := { s.noticesA with queue := [], stack := [], due := [], lost := false }
    noticesB := { s.noticesB with queue := [], stack := [], due := [], lost := false } }

/-- The lines but one are as they were, but that lines in PENDING may have taken the boost (R21). -/
abbrev OtherLinesKept (skip : Nat) (s t : State) : Prop :=
  ∀ i < 16, i ≠ skip → t.line i = s.line i ∨ t.line i = (s.line i).boost

/-- Between two states no more has changed than an event of the picture and its end may change; each floor keeps its label
and its attendance list. -/
structure OnlyPicture (s t : State) : Prop where
  rest : t.lasting.apartPicture = s.lasting.apartPicture
  labels : ∀ f < 256, (t.floor f).label = (s.floor f).label
  attendance : ∀ f < 256, (t.floor f).attendance = (s.floor f).attendance

/-! ## Effects that several commands share, written out -/

/-- The response slot of a port holds these parts, placed now (R149, R159). -/
def State.answer (p : Port) (parts : List (List Byte)) (s : State) : State :=
  s.modPort p fun q => { q with responseSlot := parts, storeAhead := q.storeSlot.length }

/-- A one-part response of a maintenance operation joins port A's store result slot (R149, R159). -/
def State.storeAnswer (body : List Byte) (s : State) : State :=
  { s with portA := { s.portA with storeSlot := s.portA.storeSlot ++ [body] } }

/-- An entry joins the tail of the CONTROL queue (R90). -/
def State.queueControl (kind : FrameKind) (dest : Nat) (payload : List Byte) (who : Submitter) (s : State) : State :=
  { s with
    rlc := { s.rlc with
      control := s.rlc.control ++
        [{ kind := kind, dest := dest, payload := payload, submitter := who, withdrawn := false }] } }

/-- A transmission is in progress from now on (R77, R87); no burst continues. -/
def State.driving (source : TxSource) (frame : Option Frame) (more : Bool) (s : State) : State :=
  { s with
    rlc := { s.rlc with
      tx := some { source := source, frame := frame, start := s.clock, alarmAtStart := s.rlc.alarmPending,
                   raisedSince := false, moreFollows := more, serviceLive := true }
      phase := .quiet
      burst := none } }

/-- A frame of the station's own, of a class, has been sent (R77, R78, R83, R96). -/
def State.sent (k : AccessClass) (s : State) : State :=
  { s with
    rlc := { s.rlc with
      tx := none
      burst := none
      yieldDue := false
      phase := .quiet
      abandoned := 0
      lastOrigins := s.rlc.lastOrigins.set k s.address
      counters := { s.rlc.counters with framesSent := countUp s.rlc.counters.framesSent } } }

/-- The station can take a frame of a class from peer `x` (R93, R94): it runs, its receiver is at a place where a frame can
end, and the frame is for it. -/
abbrev State.canTake (x : Nat) (s : State) : Prop := s.held = false ∧ s.receives = true ∧ s.isPeer x = true

/-- A frame of a class from peer `x` has been accepted (R78, R94, R96), with the yield decision given (R85). -/
def State.accepted (k : AccessClass) (x : Nat) (yields : Bool) (s : State) : State :=
  { s with
    rlc := { s.rlc with
      tx := none
      burst := none
      yieldDue := yields
      phase := .quiet
      lastOrigins := s.rlc.lastOrigins.set k x
      counters := { s.rlc.counters with accepted := countUp s.rlc.counters.accepted } } }

/-- A frame of a class from peer `x`, whose record is PRESENT, has been accepted and heard (R50, R94). -/
def State.acceptedPresent (k : AccessClass) (x : Nat) (yields : Bool) (s : State) : State :=
  (s.accepted k x yields).setPeer x
    { s.peer x with silence := some s.clock, framesHeard := countUp (s.peer x).framesHeard }

/-- The floor labels of `v` after those of `s` (R40, R59): a floor whose owner has changed, or is `again`, takes the label
that its owner gives it, from the station header or from the owner's DIRECTORY; any other floor keeps its label. -/
structure LabelsFollow (again : Option Source) (s v : State) : Prop where
  kept : ∀ f < 256, (v.ownerOf f = none ∨ (v.ownerOf f = s.ownerOf f ∧ v.ownerOf f ≠ again)) →
    (v.floor f).label = (s.floor f).label
  fromHeader : ∀ f < 256, ∀ h l, v.ownerOf f = some .self → (s.ownerOf f ≠ some .self ∨ again = some .self) →
    v.store.image = some h → h.firstFloor ≤ f → f < h.firstFloor + h.floorCount →
    h.floorLabels[f - h.firstFloor]? = some l → (v.floor f).label = some l
  fromPeer : ∀ f < 256, ∀ a d l, v.ownerOf f = some (.peer a) →
    (s.ownerOf f ≠ some (.peer a) ∨ again = some (.peer a)) → (v.peer a).directory = some d → d.firstFloor ≤ f →
    f < d.firstFloor + d.floorCount → d.floorLabels[f - d.firstFloor]? = some l → (v.floor f).label = some l

/-- Between `s` and `v` a frame of a class from peer `x`, of any presence, has been accepted and heard, and nothing else has
happened: the peer is PRESENT (R50, R51, R53, R94); a return clears STALE on its row and is told to the Notice Controllers
(R35, R53); the rows are formed anew for a peer that was not PRESENT (R59). -/
structure FrameHeard (k : AccessClass) (x : Nat) (yields : Bool) (s v : State) : Prop where
  present : (s.peer x).presence = .present → v = s.acceptedPresent k x yields
  link : v.rlc = (s.accepted k x yields).rlc
  peers : v.peers = (s.setPeer x { s.peer x with
    presence := .present, silence := some s.clock, framesHeard := min 65535 ((s.peer x).framesHeard + 1) }).peers
  entries : ∀ o ≤ 62, ∀ l ≤ 15, v.entry o l = { s.entry o l with
    stale := (s.entry o l).stale && !(decide (o = x) && decide ((s.peer x).presence = .lost)) }
  rows : (s.peer x).presence ≠ .present → ∀ f < 256, v.holderRow f = rowFrom v.allClaims f
  labels : LabelsFollow none s v
  floors : ∀ f < 256, (v.floor f).attendance = (s.floor f).attendance ∧
    (v.floor f = s.floor f ∨ (v.floor f).changeNumber = ((s.floor f).changeNumber + 1) % 65536)
  back : SummaryLaw s → (s.peer x).presence = .lost → ∀ p, (s.port p).attached = true →
    (s.notices p).queue.length < 32 →
    ∃ r, (v.notices p).find { level := 4, subject := .station x } = some r ∧ r.detail = 2
  own : v.holders.own = s.holders.own ∧ v.picture.rejectedReports = s.picture.rejectedReports
  rest : { v with
      rlc := s.rlc, peers := s.peers, holders := s.holders, picture := s.picture
      noticesA := s.noticesA, noticesB := s.noticesB } = s

/-- Between `v` and `u` channel `c` has become FREE and nothing else has happened (R117, R118, R120, R137, R142): its read requests
and its buffers are given back, but for a buffer in a read in progress or under a frame in transmission; a read in progress
of the channel is withdrawn (R111); a tile of it on the line no longer belongs to a live service. -/
structure ChannelClosed (c : Nat) (v u : State) : Prop where
  freed : u.channel c = Channel.freed ∧ u.readList c = []
  others : ∀ d < 6, d ≠ c → u.channel d = v.channel d ∧ u.readList d = v.readList d
  released : ∀ b < 16, (v.buffer b).holder = some c → v.bufferBusy b = false →
    u.buffer b = { holder := none, state := .empty }
  kept : ∀ b < 16, (∀ r ∈ v.readList c, r.buffer ≠ b) → ((v.buffer b).holder ≠ some c ∨ v.bufferBusy b = true) →
    u.buffer b = v.buffer b
  access : (∀ r begun w, v.store.access = .tile r begun w →
      u.store.access = .tile r begun (w || decide (r.channel = c))) ∧
    ((∀ r begun w, v.store.access ≠ .tile r begun w) → u.store.access = v.store.access)
  line : ∀ x, v.rlc.tx = some x →
    ((∃ b, x.source = .tile c b) → u.rlc.tx = some { x with serviceLive := false }) ∧
    ((∀ b, x.source ≠ .tile c b) → u.rlc.tx = some x)
  rest : { u with
      ste := { u.ste with channels := v.ste.channels, buffers := v.ste.buffers }
      store := { u.store with lists := v.store.lists, access := v.store.access }
      rlc := { u.rlc with tx := v.rlc.tx } } = v

/-- Between `v` and `u` channel `c` has withdrawn its read requests (R108, R111) and discarded the tiles of its full buffers,
but for one under a frame in transmission (R142), and nothing else has happened. -/
structure TilesDropped (c : Nat) (v u : State) : Prop where
  reads : u.readList c = [] ∧ ∀ d < 6, d ≠ c → u.readList d = v.readList d
  withdrawn : ∀ r ∈ v.readList c, r.buffer < 16 → u.buffer r.buffer = { v.buffer r.buffer with state := .empty }
  discarded : ∀ b < 16, (∃ n d, v.buffer b = { holder := some c, state := .full n d }) → v.rlc.sendingFrom ≠ some b →
    u.buffer b = { holder := some c, state := .empty }
  kept : ∀ b < 16, (∀ r ∈ v.readList c, r.buffer ≠ b) →
    ((∀ n d, v.buffer b ≠ { holder := some c, state := .full n d }) ∨ v.rlc.sendingFrom = some b) →
    u.buffer b = v.buffer b
  access : (∀ r begun w, v.store.access = .tile r begun w →
      u.store.access = .tile r begun (w || decide (r.channel = c))) ∧
    ((∀ r begun w, v.store.access ≠ .tile r begun w) → u.store.access = v.store.access)
  rest : { u with
      ste := { u.ste with buffers := v.ste.buffers }
      store := { u.store with lists := v.store.lists, access := v.store.access } } = v

/-- An entry of the CONTROL queue is a SHEET REQUEST of channel `c`. -/
abbrev ControlEntry.OfChannel (c : Nat) (e : ControlEntry) : Prop :=
  e.submitter = .request c false ∨ e.submitter = .request c true

/-- `q` is the CONTROL queue of `r` without the SHEET REQUESTs of channel `c`; one whose transmission is in progress stays at
the head, withdrawn (R90). -/
structure RequestsWithdrawn (c : Nat) (r : RiserLink) (q : List ControlEntry) : Prop where
  empty : r.control = [] → q = []
  stays : ∀ e rest, r.control = e :: rest → ¬e.OfChannel c → q = e :: rest.filter fun x => decide (¬x.OfChannel c)
  leaves : ∀ e rest, r.control = e :: rest → e.OfChannel c → (∀ x, r.tx = some x → x.source ≠ .control) →
    q = rest.filter fun x => decide (¬x.OfChannel c)
  onLine : ∀ e rest, r.control = e :: rest → e.OfChannel c → (∃ x, r.tx = some x ∧ x.source = .control) →
    q = { e with withdrawn := true } :: rest.filter fun x => decide (¬x.OfChannel c)

/-- Between `v` and `u` the crew transfer of channel `c` has ended DONE or FAILED, and nothing else has happened (R136): its
timers and waits are stopped, its reads, tiles and SHEET REQUESTs given up, the end counted (R143) and its SHEET-END
offered. -/
abbrev TransferEnded (c : Nat) (result : TransferResult) (v u : State) : Prop :=
  ∃ (w : State) (q : List ControlEntry), TilesDropped c v w ∧ RequestsWithdrawn c v.rlc q ∧
    u = (State.setChannel c
      { v.channel c with
        responseTimer := none, gapTimer := none, busyWait := none, queueFullWait := none, wantWindow := false,
        gapRequest := false, window := none, missingDue := [], result := some result }
      { w with rlc := { w.rlc with control := q } }).countTransfers fun n =>
        if result = .done then { n with done := countUp n.done } else { n with failed := countUp n.failed }

/-- Between `v` and `u` channel `c` has placed one read request for each of its empty buffers, lowest first (log 26), from
its next tile to fetch up to tile `last` (R108, R124, R140), and nothing else has happened. -/
structure ReadsPlaced (c last : Nat) (v u : State) : Prop where
  placed : ∀ r e n, (v.channel c).record = some r → e = v.emptyBuffers c →
    n = min e.length (last + 1 - (v.channel c).fetch) →
    u.channel c = { v.channel c with fetch := (v.channel c).fetch + n } ∧
    u.readList c = v.readList c ++ (List.range n).map (fun i =>
      { channel := c, record := r, tile := (v.channel c).fetch + i, buffer := e.getD i 0 }) ∧
    (∀ i < n, u.buffer (e.getD i 0) = { holder := some c, state := .reading ((v.channel c).fetch + i) }) ∧
    ∀ b < 16, b ∉ e.take n → u.buffer b = v.buffer b
  nothing : (v.channel c).record = none → u = v
  others : ∀ d < 6, d ≠ c → u.channel d = v.channel d ∧ u.readList d = v.readList d
  rest : { u with
      ste := { u.ste with channels := v.ste.channels, buffers := v.ste.buffers }
      store := { u.store with lists := v.store.lists } } = v

/-- What the onset of a block leaves of the link (R101): nothing driven, no CONTROL entry, no channel in SERVE; the ALARM
and ROUTINE slots kept with their marks and timers; a SUPERVISORY event taken by each attached Notice Controller is the
Notice Controllers' part. -/
structure AfterOnset (s u : State) : Prop where
  silent : u.rlc.tx = none
  noControl : u.rlc.control = []
  noService : ∀ c < 6, (u.channel c).state ≠ .serve
  alarm : u.rlc.alarmPending = s.rlc.alarmPending
  refresh : u.rlc.refreshMark = s.rlc.refreshMark ∧ u.rlc.refreshTimer = s.rlc.refreshTimer
  directory : u.rlc.directoryMark = s.rlc.directoryMark ∧ u.rlc.directoryTimer = s.rlc.directoryTimer
  untouched : u.zones = s.zones ∧ u.picture = s.picture ∧ u.peers = s.peers ∧ u.holders = s.holders ∧
    u.store.memory = s.store.memory ∧ u.clock = s.clock ∧ u.pending = s.pending

/-- The notices of a port hold a SUPERVISORY record for a block (R167), or the port is DETACHED (R163), or the queue was
full (R169). -/
abbrev BlockNoticed (b : Block) (s u : State) : Prop :=
  ∀ p, (s.port p).attached = true → (s.notices p).queue.length < 32 →
    (u.notices p).find { level := 6, subject := .block b } ≠ none

/-- What a DETACH and a port reset leave of a port's attachment (R74, R138, R146, R153, R163): no label, no record, no watch
list; the port's own attendance withdrawn and its channels FREE; the other port, the serving channels and the zone entries
untouched. -/
structure PortLeft (p : Port) (s u : State) : Prop where
  detached : (u.port p).attached = false ∧ (u.port p).label = none
  notices : (u.notices p).queue = [] ∧ (u.notices p).stack = [] ∧ (u.notices p).due = [] ∧ (u.notices p).mask = 0#8 ∧
    (u.notices p).watch = []
  attendance : ∀ label, (s.port p).label = some label → ∀ f < 256,
    (u.floor f).attendance =
      (s.floor f).attendance.filter (fun a => !(decide (a.station = s.address) && decide (a.port = p)))
  freed : ∀ c < 6, (s.channel c).owner = .port p → u.channel c = Channel.freed ∧ u.readList c = []
  others : ∀ c < 6, (s.channel c).owner ≠ .port p → u.channel c = s.channel c ∧ u.readList c = s.readList c
  marksFirst : s.rlc.control = [] → ∃ marks cancels, u.rlc.control = marks ++ cancels ∧
    (∀ e ∈ marks, e.kind = .mark) ∧ ∀ e ∈ cancels, e.kind = .sheetCancel
  otherPort : ∀ q, q ≠ p → u.port q = s.port q
  rest : u.picture.entries = s.picture.entries ∧ u.zones = s.zones ∧ u.peers = s.peers ∧ u.holders = s.holders ∧
    u.store.memory = s.store.memory ∧ u.clock = s.clock ∧ u.pending = s.pending

end Sys2Proof.Machine
end

