-- ==== Sys2Proof/Certificates/Slice0/Obligations.lean ====
section
/-! DEFINITION. The statements for the provers, from the numbered rules of spec/.

A statement of what a command does reads `exec c s = .next (settle s u)`: `u`, written out from the rules, is the state
the command's own effect leaves, and `settle s u` the end of that event; what that end leaves unchanged is
`Obligations.EndOfEventKeepsTheRest`. Everything `u` does not name is as in `s`: that is the command's frame. -/

open Sys2Proof Sys2Proof.Machine

/-! ## Steps and resets -/

/-- The block's queue (log 1): a step takes the command at the front and does what `exec` says, the rest left waiting. -/
def Obligations.StepTakesFront : Prop :=
  ∀ (c : Instr) (rest : List Instr) (s : State),
    step { s with pending := c :: rest } = exec c { s with pending := rest }

/-- The idle step (log 1, the model's choice; log 22): with no command waiting a running station's 48-bit clock counts one
millisecond up to its limit, a held one's does not; nothing else changes. -/
def Obligations.EmptyQueueCountsMillisecond : Prop :=
  ∀ s : State, s.pending = [] →
    step s = .next { s with clock := if s.held then s.clock else min 281474976710655 (s.clock + 1) }

/-- R179: while the reset pin is asserted nothing happens; only the reset itself is taken. -/
def Obligations.HeldStationTakesNothing : Prop :=
  ∀ (c : Instr) (s : State), s.held = true → (∀ a m, c ≠ .reset a m) → c ≠ .resetAsserted → exec c s = .next s

/-- R24, R48, R61, R75, R96, R97, R106, R116, R117, R143, R162, R163, R179, R180: the reset values, at the release of the pin
with the straps as read, and while it is asserted; and what a reset that abandons a write or an erase leaves in the flash.
The model's choices: the queue of waiting commands stays and no mark counts as sampled (logs 1, 5); lines and EMPTY entries
stand as UNUSED on floor 0, lines labelled with spaces, entries DISABLED (log 39); which of a byte's two values is left is
free (log 4). -/
def Obligations.ResetGivesResetValues : Prop :=
  ∀ (a : BitVec 6) (m : Bool) (s : State), ∃ t u, exec (.reset a m) s = .next t ∧ exec .resetAsserted s = .next u ∧
    t.held = false ∧ t.address = a.toNat ∧ t.maintenance = m ∧ u.held = true ∧
    t.rlc.blocks = { join := true, address := decide (a = 0#6 ∨ a = 63#6), maintenance := m, duplicate := false,
                     babble := false, line := false, silenced := false } ∧
    t.store.access = .startup none default 0 ∧ u.store.access = .free ∧
    ∀ r, r = t ∨ r = u →
      r.clock = 0 ∧ r.starting = true ∧ r.noConfig = false ∧ r.pending = s.pending ∧
      (∀ i < 16, r.line i =
        { ztype := .unused, floor := 0, label := List.replicate 8 0x20#8, history := [], reading := 0, resistance := 0,
          lclass := .normal, zstate := .normal, trouble := none, recurring := false, lineLost := false, boosted := false,
          repeatCount := 0, transientCount := 0, changeNumber := 0, confirmTimer := none, troubleTimer := none,
          restoreTimer := none, holdTimer := none, decayTimer := none, confirmLength := 0, episodeStart := none,
          lastMark := 0 }) ∧
      r.zones.configTaken = false ∧ r.zones.readyReported = false ∧
      (∀ o ≤ 62, ∀ l ≤ 15, r.entry o l =
        { known := false, floor := 0, ztype := .unused, zstate := .disabled, trouble := none, recurring := false,
          lineLost := false, boosted := false, stale := false, repeatCount := 0, transientCount := 0, resistance := 0,
          changeNumber := 0, age := .absent, ack := none, label := none, lastHeard := none }) ∧
      (∀ f < 256, r.floor f =
        { label := none, attendance := [], changeNumber := 0,
          counts := { worst := .none, fire := 0, pending := 0, clearing := 0, supervisory := 0, trouble := 0, stale := 0,
                      anyRecurring := false, anyLineLost := false } }) ∧
      r.picture.rejectedReports = 0 ∧
      (∀ x ≤ 63, r.peer x = { presence := .unknown, silence := none, framesHeard := 0, directory := none }) ∧
      r.peers.unplacedFrames = 0 ∧ r.peers.rejectedDirectories = 0 ∧
      r.holders.own = none ∧ (∀ f < 256, r.holderRow f = { owner := none, replicas := [] }) ∧
      r.marks = { rejected := 0, discarded := 0, notSent := 0 } ∧
      r.rlc.phase = .off ∧ r.rlc.tx = none ∧ r.rlc.burst = none ∧ r.rlc.yieldDue = false ∧ r.rlc.control = [] ∧
      r.rlc.alarmPending = false ∧ r.rlc.refreshMark = false ∧ r.rlc.directoryMark = false ∧
      r.rlc.refreshTimer = none ∧ r.rlc.directoryTimer = none ∧ r.rlc.directorySent = false ∧
      r.rlc.zoneStateSent = false ∧ r.rlc.joinTimer = none ∧ r.rlc.duplicateHold = none ∧ r.rlc.babbleTimer = none ∧
      r.rlc.lineTimer = none ∧ r.rlc.duplicateDecay = none ∧ r.rlc.babbleDecay = none ∧
      r.rlc.lastOrigins = { alarm := 62, control := 62, bulk := 62, routine := 62 } ∧ r.rlc.bulkRotation = 5 ∧
      r.rlc.abandoned = 0 ∧ r.rlc.duplicateCount = 0 ∧ r.rlc.babbleCount = 0 ∧
      r.rlc.counters.list = List.replicate 15 0 ∧
      r.store.image = none ∧ r.store.sheets = [] ∧ r.store.counts.list = List.replicate 5 0 ∧ r.store.ready = false ∧
      r.store.waiting = none ∧ (∀ c < 6, r.readList c = []) ∧ r.store.rotation = 5 ∧
      r.store.tilesOk = 0 ∧ r.store.tilesBad = 0 ∧ r.store.timeouts = 0 ∧
      (∀ c < 6, r.channel c = Channel.freed) ∧ r.freeBuffers = 16 ∧ r.ste.tagCounter = 0 ∧
      r.ste.counters.list = List.replicate 10 0 ∧
      (∀ p, (r.port p).isOpen = false ∧ (r.port p).attached = false ∧ (r.port p).label = none ∧
        (r.port p).buffer = [] ∧ (r.port p).responseSlot = [] ∧ (r.port p).storeSlot = [] ∧
        (r.port p).sending = none ∧ (r.port p).rotation = 5 ∧ (r.port p).stream.isOn = false ∧
        (r.port p).stream.cursor = 0 ∧ (r.port p).stream.passOpen = false ∧ (r.port p).storeAhead = 0 ∧
        (r.port p).breakHeld = false ∧ (r.port p).receiving = false ∧
        (r.port p).flags = { framing := false, overrun := false, badCheck := false, tooLong := false, breakSeen := false }) ∧
      (∀ p, (r.notices p).queue = [] ∧ (r.notices p).stack = [] ∧ (r.notices p).due = [] ∧ (r.notices p).mask = 0#8 ∧
        (r.notices p).watch = [] ∧ (r.notices p).lost = false) ∧
      ((∀ o d b w, s.store.access ≠ .write o d b w) → (∀ k b w, s.store.access ≠ .erase k b w) →
        r.store.memory = s.store.memory) ∧
      (∀ o d b w, MemoryLaw s → s.store.access = .write o d b w → ∀ x,
        r.store.memory.read x = s.store.memory.read x ∨
        (o ≤ x ∧ x < o + d.length ∧ r.store.memory.read x = s.store.memory.read x &&& d.getD (x - o) 0#8)) ∧
      (∀ k b w, MemoryLaw s → s.store.access = .erase k b w → ∀ x,
        r.store.memory.read x = s.store.memory.read x ∨
        (65536 * k ≤ x ∧ x < 65536 * k + 65536 ∧ r.store.memory.read x = 0xFF#8))

/-- The laws that every step keeps hold in the machine right after reset, with the straps of log 2. -/
def Obligations.LawsHoldAtReset : Prop :=
  MemoryLaw State.reset ∧ LinkLaw State.reset ∧ LinkLimits State.reset ∧ AttendanceLaw State.reset ∧
  NoticeLaw State.reset ∧ StaleLaw State.reset ∧ RemoteAckLaw State.reset ∧ SummaryLaw State.reset ∧
  ZoneLaw State.reset ∧ ChannelLimits State.reset

/-! ## Laws that every step keeps -/

/-- 6.1: the plan store's list of bytes stays in its canonical form. -/
def Obligations.MemoryStaysCanonical : Prop :=
  ∀ s t : State, MemoryLaw s → step s = .next t → MemoryLaw t

/-- R97, R78, R180: the station drives only while no transmit block is present; the strapped blocks stand as the straps
say; last origins stay addresses. -/
def Obligations.LinkLawKept : Prop :=
  ∀ s t : State, LinkLaw s → step s = .next t → LinkLaw t

/-- R83, R90, R99: the limits of the CONTROL queue and of the link's counts. -/
def Obligations.LinkLimitsKept : Prop :=
  ∀ s t : State, LinkLimits s → step s = .next t → LinkLimits t

/-- R41: every attendance list holds at most 4 entries, never two of one station and port. -/
def Obligations.AttendanceLawKept : Prop :=
  ∀ s t : State, AttendanceLaw s → step s = .next t → AttendanceLaw t

/-- R168, R170, R171: at most 32 records, never two of one level and subject; the in-service stack descends in level number
to its top. -/
def Obligations.NoticeLawKept : Prop :=
  ∀ s t : State, NoticeLaw s → step s = .next t → NoticeLaw t

/-- R36: a remote KNOWN entry is STALE exactly when its origin's record is LOST; own entries are never STALE. R26: a remote
entry carries an acknowledgement only in ALARM or CLEARING, at its own change number. -/
def Obligations.RemoteEntryLawsKept : Prop :=
  (∀ s t : State, StaleLaw s → step s = .next t → StaleLaw t) ∧
  (∀ s t : State, RemoteAckLaw s → step s = .next t → RemoteAckLaw t)

/-- R38, R39, R42: every floor's summary says what the floor's counted entries give (with R23: an own entry stands on its
line's floor). -/
def Obligations.SummaryLawKept : Prop :=
  ∀ s t : State, SummaryLaw s → step s = .next t → SummaryLaw t

/-- R7, R10, R15 to R19 (with R103, R106): what each line's flags, counts and timers say of its zone state. -/
def Obligations.ZoneLawKept : Prop :=
  ∀ s t : State, ZoneLaw s → step s = .next t → ZoneLaw t

/-- R117: at most 4 channels in SERVE, at most 3 of one crew port. -/
def Obligations.ChannelLimitsKept : Prop :=
  ∀ s t : State, ChannelLimits s → step s = .next t → ChannelLimits t

/-- R109, R121, R124, R125, R127, R131, R135, R136, R140, R157, R159, R170, R171: what acts at the end of an event, and what
that end leaves as the event's own effect made it. The order (the channels, lowest first, and the store, the two selections,
the two arbiters, the channels and the store again) is the model's choice (log 12), as is which empty buffer takes a read
(log 26). -/
def Obligations.EndOfEventKeepsTheRest : Prop :=
  (∀ before u : State, EndsAs u (settle before u) ∧
    settle before u =
      settleTransfers (arbitrate .b (arbitrate .a (State.selectBoth before (settleTransfers u)))) ∧
    settleTransfers u = serveStore storeFuel (pumpChannels u)) ∧
  (∀ s : State,
    (s.store.access ≠ .free → serveStore storeFuel s = s) ∧
    (∀ op w, s.store.access = .free → s.store.waiting = some (op, w) →
      serveStore storeFuel s = { s with
        store := { s.store with
          waiting := none
          access := match op with
            | .write o d => .write o d s.clock w
            | .erase k => .erase k s.clock w
            | .check => .check none default s.clock w } }) ∧
    (s.store.access = .free → s.store.waiting = none →
      ((∀ c < 6, s.readList c = []) → serveStore storeFuel s = s) ∧
      (∀ k < 6, ∀ c r rest, c = (s.store.rotation + 1 + k) % 6 → s.readList c = r :: rest → r.channel = c →
        r.tile < r.record.tileCount → (∀ j < k, s.readList ((s.store.rotation + 1 + j) % 6) = []) →
        ∃ u, serveStore storeFuel s = u ∧ u.readList c = rest ∧ (∀ d < 6, d ≠ c → u.readList d = s.readList d) ∧
          u = { s with
            store := { s.store with lists := u.store.lists, rotation := c, access := .tile r s.clock false } }))) ∧
  (∀ s : State, pumpChannels s = [0, 1, 2, 3, 4, 5].foldl pumpChannel s) ∧
  (∀ (c : Nat) (s : State) (k : Channel), c < 6 → k = s.channel c →
    ((k.state = .free ∨ (k.state ≠ .serve ∧ k.result ≠ none)) → pumpChannel s c = s) ∧
    (k.state ≠ .free → k.state ≠ .serve → k.result = none → k.curLast < k.nextTile →
      ∃ u, pumpChannel s c = u ∧ TransferEnded c .done s u) ∧
    (∀ w, k.state = .serve → k.window = some w → ∃ u, pumpChannel s c = u ∧ ReadsPlaced c w.2 s u) ∧
    (∀ v, k.state = .localStore → k.result = none → k.nextTile ≤ k.curLast →
      v = (if s.heldBy c = 0 then claimBuffers c (claimable 0 s.freeBuffers) s else s) →
      ∃ u, pumpChannel s c = u ∧ ReadsPlaced c k.curLast v u) ∧
    (∀ (complete : Bool) (l : Channel) (v : State) (n last : Nat), (k.state = .request ∨ k.state = .receive) →
      k.result = none → k.nextTile ≤ k.curLast →
      (complete = true ↔ k.state = .receive ∧ k.fetch ≤ k.curLast ∧
        (∀ w, k.window = some w → ¬(w.1 ≤ k.fetch ∧ k.fetch ≤ w.2)) ∧
        ∀ b < 16, (s.buffer b).holder = some c → (s.buffer b).state = .empty) →
      l = (if k.wantWindow = true then k else { k with busyRetries := 0, gapRequest := false }) →
      v = claimBuffers c (claimable (s.heldBy c) s.freeBuffers) s → n = min 4 (v.emptyBuffers c).length →
      last = min (k.fetch + n - 1) k.curLast →
      (k.wantWindow = false → complete = false → pumpChannel s c = s) ∧
      ((k.wantWindow = true ∨ complete = true) →
        (n = 0 → pumpChannel s c = v.setChannel c { l with wantWindow := true }) ∧
        (∀ a, 1 ≤ n → k.currentPeer = some a →
          let asks := v.setChannel c { l with wantWindow := false, window := some (k.fetch, last), queueFullWait := none }
          (s.rlc.blocks.any = false → s.rlc.control.length < 8 →
            pumpChannel s c = asks.queueControl .sheetRequest a
              ([byte k.tag, byte k.floor, byte k.kind] ++ be16 k.pinned ++ be16 k.fetch ++ be16 last ++
                [if k.fetch < last then 1#8 else 0#8]) (.request c l.gapRequest)) ∧
          (s.rlc.blocks.any = false → 8 ≤ s.rlc.control.length →
            pumpChannel s c = (asks.modChannel c fun x => { x with queueFullWait := some s.clock }).countTransfers fun m =>
              { m with controlNotSent := min 65535 (m.controlNotSent + 1) }) ∧
          (s.rlc.blocks.any = true → (∀ r, k.record = some r → r.revision ≠ k.pinned) →
            ∃ u, pumpChannel s c = u ∧ TransferEnded c (.failed .noPath) (asks.countTransfers fun m =>
              { m with controlNotSent := min 65535 (m.controlNotSent + 1) }) u) ∧
          (∀ r later, s.rlc.blocks.any = true → k.record = some r → r.revision = k.pinned →
            k.candidates = .self :: later →
            let end_ := min k.curLast (r.tileCount - 1)
            let left := (asks.modChannel c fun x =>
              { x with
                missingDue := k.missingDue ++ [k.fetch], fetch := k.fetch + 1, position := 1 }).countTransfers fun m =>
                { m with controlNotSent := min 65535 (m.controlNotSent + 1) }
            let back := claimBuffers c (claimable (v.heldBy c) v.freeBuffers) (left.modChannel c fun x =>
              { x.stopped with state := .localStore, window := none, curLast := end_ })
            (r.tileCount ≤ k.curFirst → ∃ u, pumpChannel s c = u ∧ TransferEnded c (.failed .range) left u) ∧
            (k.curFirst < r.tileCount → end_ < k.nextTile → ∃ u, pumpChannel s c = u ∧ TransferEnded c .done back u) ∧
            (k.curFirst < r.tileCount → k.nextTile ≤ end_ →
              ∃ u, pumpChannel s c = u ∧ ReadsPlaced c end_ back u)))))) ∧
  (∀ before n : NoticeController, NoticeController.selectAfter before n =
    if before.queue = n.queue ∧ before.stack = n.stack ∧ before.mask = n.mask then n else n.select) ∧
  (∀ n : NoticeController,
    let waits := fun (r : Notice) => r.key ∉ n.stack ∧ n.mask.getLsbD r.key.level = false
    ((∀ r ∈ n.queue, ¬waits r) → n.select = n) ∧
    (∀ older r newer, n.queue = older ++ r :: newer → waits r → r.key.level ≤ 7 →
      (∀ q ∈ older, waits q → r.key.level < q.key.level) → (∀ q ∈ newer, waits q → r.key.level ≤ q.key.level) →
      ((∀ top, n.stack.getLast? = some top → r.key.level < top.level) →
        n.select = { n with stack := n.stack ++ [r.key], due := n.due ++ [r.key] }) ∧
      (∀ top, n.stack.getLast? = some top → top.level ≤ r.key.level → n.select = n))) ∧
  ∀ (p : Port) (s : State) (q : CrewPort) (n : NoticeController), q = s.port p → n = s.notices p →
    let begun := fun (source : MsgSource) (kind : Byte) (body : List Byte) =>
      some ({ source := source, kind := kind, body := body, live := true } : OutMessage)
    let offers := fun (c : Nat) => (s.channel c).owner = .port p ∧
      ((s.channel c).restartOffer ≠ none ∨ (s.channel c).result ≠ none ∨
        (s.channel c).nextTile ∈ (s.channel c).missingDue ∨ s.fullBuffer c (s.channel c).nextTile ≠ none)
    ((q.isOpen = false ∨ q.sending ≠ none) → arbitrate p s = s) ∧
    (q.isOpen = true → q.sending = none →
      (∀ part rest, q.responseSlot = part :: rest → (q.storeSlot = [] ∨ q.storeAhead = 0) →
        arbitrate p s = s.modPort p fun x => { x with sending := begun .response 0x81#8 part }) ∧
      (∀ part rest, q.storeSlot = part :: rest → (q.responseSlot = [] ∨ 1 ≤ q.storeAhead) →
        arbitrate p s = s.modPort p fun x => { x with sending := begun .storeResult 0x81#8 part }) ∧
      (q.responseSlot = [] → q.storeSlot = [] →
        (∀ k rest r, n.due = k :: rest → n.find k = some r →
          arbitrate p s = (s.modNotices p fun x => { x with due := rest }).modPort p fun x =>
            { x with sending := begun .notice 0x82#8 (s.noticeBody r n.stack.length) }) ∧
        (∀ i < 6, ∀ c k, n.due = [] → c = (q.rotation + 1 + i) % 6 → k = s.channel c → k.owner = .port p →
          (∀ j < i, ¬offers ((q.rotation + 1 + j) % 6)) →
          (∀ d m, k.restartOffer = some (d, m) →
            arbitrate p s = s.modPort p fun x =>
              { x with rotation := c, sending := begun (.sheetRestart c) 0x85#8 ([byte c] ++ be16 d ++ be16 m) }) ∧
          (∀ r, k.restartOffer = none → k.result = some r →
            arbitrate p s = s.modPort p fun x =>
              { x with
                rotation := c
                sending := begun (.sheetEnd c) 0x84#8
                  ([byte c, if r = .done then 0#8 else if r = .restart then 2#8 else 1#8,
                    if r = .failed .noHolder then 1#8 else if r = .failed .noPath then 2#8
                    else if r = .failed .range then 3#8 else 0#8, byte k.floor, byte k.kind] ++
                    be16 k.pinned ++ be16 k.delivered ++ be16 k.missing ++
                    (match k.record with
                      | none => List.replicate 24 0x20#8
                      | some x => if x.revision = k.pinned then padTo 24 x.title else List.replicate 24 0x20#8)) }) ∧
          (k.restartOffer = none → k.result = none → k.nextTile ∈ k.missingDue →
            arbitrate p s = (s.modPort p fun x =>
              { x with
                rotation := c
                sending := begun (.tile c) 0x83#8
                  ([byte c] ++ be16 k.nextTile ++ be16 k.pinned ++ [1#8] ++ List.replicate 256 0#8) }).setChannel c
              { k with
                nextTile := k.nextTile + 1, missing := k.missing + 1,
                missingDue := k.missingDue.filter fun t => decide (t ≠ k.nextTile) }) ∧
          (∀ b d, k.restartOffer = none → k.result = none → k.nextTile ∉ k.missingDue →
            s.fullBuffer c k.nextTile = some (b, d) →
            arbitrate p s = ((s.modPort p fun x =>
              { x with
                rotation := c
                sending := begun (.tile c) 0x83#8
                  ([byte c] ++ be16 k.nextTile ++ be16 k.pinned ++ [0#8] ++ d) }).setBuffer b
                { holder := some c, state := .empty }).setChannel c
              { k with nextTile := k.nextTile + 1, delivered := k.delivered + 1 })) ∧
        (n.due = [] → (∀ c < 6, ¬offers c) →
          let first := fun (from_ f : Nat) => from_ ≤ f ∧ f < 256 ∧ (s.floor f).counts.worst ≠ .none ∧
            ∀ g < f, from_ ≤ g → (s.floor g).counts.worst = .none
          let ended := ∀ f < 256, q.stream.cursor ≤ f → (s.floor f).counts.worst = .none
          let due := q.stream.start + 1000 * q.stream.period ≤ s.clock
          ((q.stream.isOn = false ∨ q.stream.passOpen = false) → arbitrate p s = s) ∧
          (q.stream.isOn = true → q.stream.passOpen = true →
            (∀ f, first q.stream.cursor f → arbitrate p s = s.modPort p fun x =>
              { x with
                stream := { x.stream with cursor := f + 1 }
                sending := begun .summary 0x86#8 (summaryRecord f (s.floor f)) }) ∧
            (ended → ¬due → arbitrate p s = s.modPort p fun x =>
              { x with stream := { x.stream with cursor := 256, passOpen := false } }) ∧
            (∀ f, ended → due → first 0 f → arbitrate p s = s.modPort p fun x =>
              { x with
                stream := { x.stream with start := s.clock, cursor := f + 1, passOpen := true }
                sending := begun .summary 0x86#8 (summaryRecord f (s.floor f)) }) ∧
            (ended → due → (∀ f < 256, (s.floor f).counts.worst = .none) → arbitrate p s = s.modPort p fun x =>
              { x with stream := { x.stream with start := s.clock, cursor := 256, passOpen := false } })))))

/-- R97, R100, R179, R180: no command but a reset sets the clock, the straps as read, the reset pin, or the blocks ADDRESS and
MAINTENANCE; SILENCED once present stays; none touches the queue of waiting commands (the model's, log 1). -/
def Obligations.FixedUntilReset : Prop :=
  ∀ (c : Instr) (s t : State), exec c s = .next t →
    t.pending = s.pending ∧
    ((∀ a m, c ≠ .reset a m) → c ≠ .resetAsserted →
      t.clock = s.clock ∧ t.held = s.held ∧ t.address = s.address ∧ t.maintenance = s.maintenance ∧
      t.rlc.blocks.address = s.rlc.blocks.address ∧ t.rlc.blocks.maintenance = s.rlc.blocks.maintenance ∧
      (s.rlc.blocks.silenced = true → t.rlc.blocks.silenced = true))

/-- R106, R107: from the store-ready event until the next reset the header image, the Sheet Directory, the directory
counts, NO_CONFIG, the own holdings and so the answer of every lookup do not change. -/
def Obligations.ReadyStoreIsFixed : Prop :=
  ∀ (c : Instr) (s t : State), StartUpLaw s → s.store.ready = true → (∀ a m, c ≠ .reset a m) → c ≠ .resetAsserted →
    exec c s = .next t →
    t.store.ready = true ∧ t.store.image = s.store.image ∧ t.store.sheets = s.store.sheets ∧
    t.store.counts = s.store.counts ∧ t.noConfig = s.noConfig ∧ t.holders.own = s.holders.own ∧
    ∀ floor kind revision, t.lookup floor kind revision = s.lookup floor kind revision

/-! ## Formulas -/

/-- R4: for readings below 955 the resistance is 4700 × V / (1023 − V) to the nearest ohm, an exact half rounded up; from
955 on it reads 65535. R5: the class a resistance gives, from the current class: each boundary 10 % of its base away from
the current class. R6: the times of the zone types. -/
def Obligations.ResistanceIsNearest : Prop :=
  resistanceOf 0 = 0 ∧
  (∀ v : Nat, v < 955 →
    2 * 4700 * (v : Int) - (1023 - v) < 2 * (resistanceOf v : Int) * (1023 - v) ∧
    2 * (resistanceOf v : Int) * (1023 - v) ≤ 2 * 4700 * (v : Int) + (1023 - v)) ∧
  (∀ v : Nat, 955 ≤ v → resistanceOf v = 65535) ∧
  (∀ (current : LineClass) (r rank b1 b2 b3 : Nat),
    rank = (if current = .short then 0 else if current = .alarm then 1 else if current = .normal then 2 else 3) →
    b1 = (if 1 ≤ rank then 150 - 15 else 150 + 15) → b2 = (if 2 ≤ rank then 1500 - 150 else 1500 + 150) →
    b3 = (if 3 ≤ rank then 12000 - 1200 else 12000 + 1200) →
    (classify current r = .short ↔ r < b1) ∧ (classify current r = .alarm ↔ b1 ≤ r ∧ r < b2) ∧
    (classify current r = .normal ↔ b2 ≤ r ∧ r < b3) ∧ (classify current r = .openLoop ↔ b3 ≤ r)) ∧
  (∀ t : ZoneType, t ≠ .unused →
    (t.isFire = true ↔ t ≠ .valve) ∧ (t.isFire = true → t.boostedConfirm = max 250 (t.confirm / 4)) ∧
    t.confirm = (if t = .detector then 2000 else if t = .callpoint then 250 else if t = .flow then 10000 else 5000) ∧
    t.restore = (if t = .detector then 30000 else if t = .callpoint then 300000 else if t = .flow then 60000 else 5000))

/-- R79, R80: a station's slot, and its start moments: each class before the next, stations at least 8 µs apart. -/
def Obligations.StartMomentsKeepApart : Prop :=
  (∀ a o : Nat, validAddress a = true → validAddress o = true →
    ((slotOf a o : Nat) : Int) = ((a : Int) - o - 1) % 62 ∧ slotOf a o ≤ 61 ∧ slotOf o o = 61 ∧ slotOf 1 62 = 0) ∧
  (∀ (a b : Nat) (r : RiserLink) (k : AccessClass), validAddress a = true → validAddress b = true →
    validAddress (r.lastOrigins.get k) = true →
    r.startMoment a k = k.base + 8 * slotOf a (r.lastOrigins.get k) ∧
    k.base ≤ r.startMoment a k ∧ r.startMoment a k ≤ k.base + 488 ∧
    (a ≠ b → r.startMoment a k + 8 ≤ r.startMoment b k ∨ r.startMoment b k + 8 ≤ r.startMoment a k)) ∧
  AccessClass.alarm.base = 0 ∧ AccessClass.control.base = 500 ∧ AccessClass.bulk.base = 1000 ∧
  AccessClass.routine.base = 1500

/-- R107: what a lookup gives, over every directory. -/
def Obligations.LookupGives : Prop :=
  ∀ (sheets : List SheetRecord) (floor kind revision : Nat),
    (∀ r, lookupSheet sheets floor kind revision = some r →
      r ∈ sheets ∧ r.floor = floor ∧ r.kind = kind ∧ (revision = 0 ∨ r.revision = revision) ∧
      ((∃ q ∈ sheets, q.floor = floor ∧ q.kind = kind ∧ (revision = 0 ∨ q.revision = revision) ∧ q.role = .owner) →
        r.role = .owner)) ∧
    (lookupSheet sheets floor kind revision = none ↔
      ∀ q ∈ sheets, ¬(q.floor = floor ∧ q.kind = kind ∧ (revision = 0 ∨ q.revision = revision)))

/-- R119: the tag counter stops within seven steps at a value from 1 to 255 that no crew channel carries, passing over
those in use. R121: what a crew channel may claim of the pool, and what a claim takes: that many buffers, empty. -/
def Obligations.TagsAndBuffersGiven : Prop :=
  (∀ s : State, s.ste.tagCounter ≤ 255 →
    1 ≤ s.nextTag ∧ s.nextTag ≤ 255 ∧ s.tagInUse s.nextTag = false ∧
    ∃ k < 7, s.nextTag = (s.ste.tagCounter + k) % 255 + 1 ∧
      ∀ j < k, s.tagInUse ((s.ste.tagCounter + j) % 255 + 1) = true) ∧
  (∀ f, claimable 0 f = if f = 0 then 0 else 1 + min 3 (f - 3)) ∧
  (∀ h f, 1 ≤ h → h ≤ 3 → claimable h f = min (4 - h) (f - 2)) ∧ (∀ f, claimable 4 f = 0) ∧
  (∀ (c n : Nat) (s : State), n ≤ s.freeBuffers →
    (claimBuffers c n s).heldBy c = s.heldBy c + n ∧ (claimBuffers c n s).freeBuffers + n = s.freeBuffers ∧
    ((claimBuffers c n s).emptyBuffers c).length = (s.emptyBuffers c).length + n ∧
    (∀ b, s.buffer b ≠ (claimBuffers c n s).buffer b →
      (s.buffer b).holder = none ∧ (claimBuffers c n s).buffer b = { holder := some c, state := .empty }))

/-! ## Zone lines -/

/-- R2 to R5, R182: at a 20 ms mark every sampled line's history takes its sample; an enabled line that then holds four
forms its reading, resistance and class; a line not sampled keeps them. STARTING ends when the histories are complete. R7 to
R13, R15 to R20, R22, R23: one evaluation, with every move of the zone state machine, the boost at entry to PENDING, the
repeat count and its decay, the change number and the write of the own entry. That a mark is due once for each line is kept
by the model's own field (log 5); that line 0 comes first and each line's sample is an event with an end of its own is the
model's choice (log 7). -/
def Obligations.SampleJoinsHistories : Prop :=
  (∀ (values : Vector (BitVec 10) 16) (s : State), s.held = false →
    ∃ t, exec (.sample values) s = .next t ∧
      t = (List.range 16).foldl
        (fun u i => if u.markDue i && u.lineSampled i then
          settle u (samplingReady (sampleLine i (values.toList.getD i 0#10).toNat u)) else u) s ∧
      ((∀ i < 16, (s.markDue i && s.lineSampled i) = false) → t = s) ∧
      (∀ i : Fin 16,
        ((s.markDue i.val && s.lineSampled i.val) = true →
          (t.line i.val).history =
            (if (s.line i.val).history.length < 4 then (s.line i.val).history else (s.line i.val).history.drop 1) ++
              [(values[i]).toNat]) ∧
        ((s.markDue i.val && s.lineSampled i.val) = true → s.lineEnabled i.val = true →
          (t.line i.val).history.length = 4 →
          (t.line i.val).reading = (t.line i.val).history.sum / 4 ∧
          (t.line i.val).resistance = resistanceOf (t.line i.val).reading ∧
          (t.line i.val).lclass = classify (s.line i.val).lclass (t.line i.val).resistance) ∧
        ((s.markDue i.val && s.lineSampled i.val) = false →
          (t.line i.val).history = (s.line i.val).history ∧ (t.line i.val).reading = (s.line i.val).reading ∧
          (t.line i.val).resistance = (s.line i.val).resistance ∧ (t.line i.val).lclass = (s.line i.val).lclass ∧
          (t.line i.val).zstate = (s.line i.val).zstate)) ∧
      (s.starting = false → OnlyPicture s t) ∧
      (s.starting = true → (∃ i < 16, (s.markDue i && s.lineSampled i) = true) →
        t.starting = !t.samplingComplete ∧
        (t.starting = false →
          (t.portA).isOpen = true ∧ (t.portB).isOpen = true ∧ t.rlc.phase = .awaitIdle ∧
          t.rlc.joinTimer = some s.clock)) ∧
      (∀ o ≤ 62, o ≠ s.ownOrigin → ∀ l ≤ 15, t.entry o l = s.entry o l)) ∧
  (∀ (i v : Nat) (s u : State) (k l : LineRecord), i < 16 → (s.markDue i && s.lineSampled i) = true →
    k = { s.line i with
      history := (if (s.line i).history.length < 4 then (s.line i).history else (s.line i).history.drop 1) ++ [v]
      lastMark := s.clock } →
    u = sampleLine i v s → l = u.line i →
    (¬(s.lineEnabled i = true ∧ k.history.length = 4) → u = s.setLine i k) ∧
    (s.lineEnabled i = true → k.history.length = 4 →
      l = k.evaluated s.clock (s.boostApplies i) ∧ OtherLinesKept i s u ∧
      u.entry s.ownOrigin i =
        { known := true, floor := l.floor, ztype := l.ztype, zstate := l.zstate, trouble := l.trouble,
          recurring := l.recurring, lineLost := l.lineLost, boosted := l.boosted, stale := false,
          repeatCount := l.repeatCount, transientCount := l.transientCount, resistance := l.resistance,
          changeNumber := l.changeNumber,
          age := (match l.episodeStart with | none => .absent | some b => .own b)
          ack := if l.changeNumber = (s.line i).changeNumber then (s.entry s.ownOrigin i).ack else none
          label := (s.entry s.ownOrigin i).label, lastHeard := some s.clock } ∧
      (l.changeNumber ≠ (s.line i).changeNumber → u.rlc.alarmPending = true) ∧
      (s.boostApplies i = true ↔
        ((s.line i).ztype = .detector ∨ (s.line i).ztype = .callpoint ∨ (s.line i).ztype = .flow) ∧
        ∃ o ≤ 62, ∃ j ≤ 15, ∃ e, e = s.entry o j ∧ (o, j) ≠ (s.ownOrigin, i) ∧ e.known = true ∧
          (e.ztype = .detector ∨ e.ztype = .callpoint ∨ e.ztype = .flow) ∧ e.zstate = .alarm ∧
          e.floor ≤ (s.line i).floor + 1 ∧ (s.line i).floor ≤ e.floor + 1))) ∧
  ∀ (now : Nat) (boost : Bool) (l e base : LineRecord) (c : LineClass), e = l.evaluated now boost →
    c = classify l.lclass (resistanceOf (l.history.sum / 4)) →
    base = { l with reading := l.history.sum / 4, resistance := resistanceOf (l.history.sum / 4), lclass := c } →
    let leaves := fun (x : LineRecord) =>
      { e with repeatCount := 0, recurring := false, decayTimer := none, changeNumber := 0 } =
        { x with repeatCount := 0, recurring := false, decayTimer := none, changeNumber := 0 }
    let fault := c = .openLoop ∨ c = .short
    let kind := if c = .openLoop then some TroubleKind.openLoop else some .short
    let pending := { base with
      zstate := .pending, trouble := if l.zstate = .trouble then none else l.trouble
      troubleTimer := if l.zstate = .normal then none else l.troubleTimer
      holdTimer := if l.zstate = .trouble then none else l.holdTimer
      confirmTimer := some now, boosted := boost
      confirmLength := if boost then l.ztype.boostedConfirm else l.ztype.confirm }
    let raised := decide (l.zstate = .pending) && decide (e.zstate = .alarm)
    let count := if raised then min 15 (l.repeatCount + 1) else l.repeatCount
    let recurring := l.recurring || (raised && decide (3 ≤ count))
    let quiet := (e.zstate = .normal ∨ e.zstate = .trouble) ∧ 1 ≤ count
    (l.zstate = .normal →
      (c = .alarm → leaves pending) ∧
      (fault → l.troubleTimer = none → leaves { base with troubleTimer := some now }) ∧
      (∀ b, fault → l.troubleTimer = some b → now - b < 5000 → leaves base) ∧
      (∀ b, fault → l.troubleTimer = some b → 5000 ≤ now - b →
        leaves { base with zstate := .trouble, trouble := kind, troubleTimer := none }) ∧
      (c = .normal → leaves { base with troubleTimer := none })) ∧
    (l.zstate = .pending →
      (c = .alarm → timerDue now l.confirmLength l.confirmTimer = true →
        leaves { base with zstate := .alarm, confirmTimer := none, boosted := false, episodeStart := some now }) ∧
      (c = .alarm → timerDue now l.confirmLength l.confirmTimer = false → leaves base) ∧
      (c = .normal → leaves { base with
        zstate := .normal, confirmTimer := none, boosted := false, transientCount := min 255 (l.transientCount + 1) }) ∧
      (fault → leaves { base with
        zstate := .normal, confirmTimer := none, boosted := false, transientCount := min 255 (l.transientCount + 1)
        troubleTimer := some now })) ∧
    (l.zstate = .alarm →
      (c = .normal → leaves { base with
        zstate := .clearing, restoreTimer := some now, lineLost := false
        trouble := if l.lineLost then none else l.trouble }) ∧
      (c = .alarm → leaves { base with lineLost := false, trouble := if l.lineLost then none else l.trouble }) ∧
      (fault → leaves { base with lineLost := true, trouble := kind })) ∧
    (l.zstate = .clearing →
      (c = .normal → timerDue now l.ztype.restore l.restoreTimer = true →
        leaves { base with zstate := .normal, restoreTimer := none, episodeStart := none }) ∧
      (c = .normal → timerDue now l.ztype.restore l.restoreTimer = false → leaves base) ∧
      (c = .alarm → leaves { base with zstate := .alarm, restoreTimer := none }) ∧
      (fault → leaves { base with zstate := .alarm, restoreTimer := none, lineLost := true, trouble := kind })) ∧
    (l.zstate = .trouble →
      (c = .alarm → leaves pending) ∧
      (c = .normal → l.holdTimer = none → leaves { base with holdTimer := some now }) ∧
      (∀ b, c = .normal → l.holdTimer = some b → now - b < 5000 → leaves base) ∧
      (∀ b, c = .normal → l.holdTimer = some b → 5000 ≤ now - b →
        leaves { base with zstate := .normal, trouble := none, holdTimer := none }) ∧
      (fault → leaves { base with holdTimer := none, trouble := kind })) ∧
    (l.zstate = .disabled → leaves base) ∧
    (¬quiet → e.repeatCount = count ∧ e.recurring = recurring ∧ e.decayTimer = none) ∧
    (quiet → timerDue now 120000 l.decayTimer = true →
      e.repeatCount = count - 1 ∧ e.recurring = (recurring && decide (2 ≤ count)) ∧
      e.decayTimer = if 2 ≤ count then some now else none) ∧
    (quiet → timerDue now 120000 l.decayTimer = false →
      e.repeatCount = count ∧ e.recurring = recurring ∧ e.decayTimer = some (l.decayTimer.getD now)) ∧
    e.changeNumber =
      (if e.zstate = l.zstate ∧ e.recurring = l.recurring ∧ e.lineLost = l.lineLost ∧ e.boosted = l.boosted ∧
          e.trouble = l.trouble ∧ e.repeatCount = l.repeatCount then l.changeNumber
       else (l.changeNumber + 1) % 65536)

/-- R9, R10, R12, R13, R16, R17, R19, R22, R23: the evaluations in which a line's confirm, trouble, restore or
normal-hold timer is found expired, or the decay timer in one that leaves the zone in NORMAL or TROUBLE, with the raise,
the write of the own entry and the frame. That the command carries that evaluation's sample is the model's choice
(log 8). -/
def Obligations.ZoneTimersExpire : Prop :=
  ∀ (i : Fin 16) (v : BitVec 10) (s : State), s.evaluates i.val v.toNat →
    ((s.line i.val).zstate = .pending → s.classFound i.val v.toNat = .alarm →
      timerDue s.clock (s.line i.val).confirmLength (s.line i.val).confirmTimer = true →
      ∃ t, exec (.confirmTimerExpiry i v) s = .next t ∧ OnlyPicture s t ∧ OtherLinesKept i.val s t ∧
        (t.line i.val).zstate = .alarm ∧ (t.line i.val).confirmTimer = none ∧ (t.line i.val).boosted = false ∧
        (t.line i.val).repeatCount = min 15 ((s.line i.val).repeatCount + 1) ∧
        (t.line i.val).recurring =
          ((s.line i.val).recurring || decide (3 ≤ min 15 ((s.line i.val).repeatCount + 1))) ∧
        (t.line i.val).episodeStart = some s.clock ∧ (t.line i.val).decayTimer = none ∧
        (t.line i.val).changeNumber = ((s.line i.val).changeNumber + 1) % 65536 ∧
        (t.entry s.ownOrigin i.val).zstate = .alarm ∧ (t.entry s.ownOrigin i.val).ack = none ∧
        (t.entry s.ownOrigin i.val).changeNumber = (t.line i.val).changeNumber ∧
        (t.entry s.ownOrigin i.val).lastHeard = some s.clock ∧ t.rlc.alarmPending = true) ∧
    ((s.line i.val).zstate = .normal →
      (s.classFound i.val v.toNat = .openLoop ∨ s.classFound i.val v.toNat = .short) →
      timerDue s.clock 5000 (s.line i.val).troubleTimer = true →
      ∃ t, exec (.troubleTimerExpiry i v) s = .next t ∧ OnlyPicture s t ∧ OtherLinesKept i.val s t ∧
        (t.line i.val).zstate = .trouble ∧ (t.line i.val).troubleTimer = none ∧
        (t.line i.val).trouble =
          (if s.classFound i.val v.toNat = .openLoop then some .openLoop else some .short) ∧
        (t.line i.val).changeNumber = ((s.line i.val).changeNumber + 1) % 65536 ∧
        (t.entry s.ownOrigin i.val).zstate = .trouble ∧ (t.entry s.ownOrigin i.val).trouble = (t.line i.val).trouble ∧
        t.rlc.alarmPending = true) ∧
    ((s.line i.val).zstate = .clearing → s.classFound i.val v.toNat = .normal →
      timerDue s.clock (s.line i.val).ztype.restore (s.line i.val).restoreTimer = true →
      ∃ t, exec (.restoreTimerExpiry i v) s = .next t ∧ OnlyPicture s t ∧ OtherLinesKept i.val s t ∧
        (t.line i.val).zstate = .normal ∧ (t.line i.val).restoreTimer = none ∧
        (t.line i.val).episodeStart = none ∧
        (t.line i.val).changeNumber = ((s.line i.val).changeNumber + 1) % 65536 ∧
        (t.entry s.ownOrigin i.val).zstate = .normal ∧ (t.entry s.ownOrigin i.val).age = .absent ∧
        t.rlc.alarmPending = true) ∧
    ((s.line i.val).zstate = .trouble → s.classFound i.val v.toNat = .normal →
      timerDue s.clock 5000 (s.line i.val).holdTimer = true →
      ∃ t, exec (.normalHoldTimerExpiry i v) s = .next t ∧ OnlyPicture s t ∧ OtherLinesKept i.val s t ∧
        (t.line i.val).zstate = .normal ∧ (t.line i.val).holdTimer = none ∧ (t.line i.val).trouble = none ∧
        (t.line i.val).changeNumber = ((s.line i.val).changeNumber + 1) % 65536 ∧
        (t.entry s.ownOrigin i.val).zstate = .normal ∧ (t.entry s.ownOrigin i.val).trouble = none ∧
        t.rlc.alarmPending = true) ∧
    (((s.line i.val).zstate = .normal ∨ (s.line i.val).zstate = .trouble) → s.classFound i.val v.toNat ≠ .alarm →
      1 ≤ (s.line i.val).repeatCount → timerDue s.clock 120000 (s.line i.val).decayTimer = true →
      ∃ t, exec (.decayTimerExpiry i v) s = .next t ∧ OnlyPicture s t ∧ OtherLinesKept i.val s t ∧
        (t.line i.val).repeatCount = (s.line i.val).repeatCount - 1 ∧
        (t.line i.val).recurring = ((s.line i.val).recurring && decide (2 ≤ (s.line i.val).repeatCount)) ∧
        (t.line i.val).decayTimer = (if 2 ≤ (s.line i.val).repeatCount then some s.clock else none) ∧
        (t.line i.val).changeNumber = ((s.line i.val).changeNumber + 1) % 65536 ∧
        (t.entry s.ownOrigin i.val).repeatCount = (t.line i.val).repeatCount ∧ t.rlc.alarmPending = true)

/-! ## Start-up -/

/-- R103: the header read and the slot reads of start-up, done or not completed within 1 ms, each followed by the next of the
97 reads; a read that the flash completes later is a failed one, and the row may come at any moment (log 11). R104: which
header is good, and the image kept of it. R105: what becomes of a slot, first check first. -/
def Obligations.StartUpReadsFollow : Prop :=
  (∀ (s : State) (x : StoreScan) (begun : Nat), s.held = false →
    let failed := { x with counts := { x.counts with badCheck := x.counts.badCheck + 1 } }
    (s.store.access = .startup none x begun →
      (s.clock - begun ≤ 1 →
        exec .headerReadDone s = .next (settle s { s with
          store := { s.store with
            access := .startup (some 0)
              { x with header := scanHeader (some (s.store.memory.readRange 0 207)) } s.clock } })) ∧
      (1 < s.clock - begun →
        exec .headerReadDone s = .next (settle s { s with
          store := { s.store with access := .startup (some 0) { x with header := none } s.clock } })) ∧
      (1 ≤ s.clock - begun →
        exec .startupReadTimeout s = .next (settle s { s with
          store := { s.store with access := .startup (some 0) { x with header := none } s.clock } }))) ∧
    (∀ n < 95, s.store.access = .startup (some n) x begun →
      (s.clock - begun ≤ 1 →
        exec .slotReadDone s = .next (settle s { s with
          store := { s.store with
            access := .startup (some (n + 1)) (x.takeSlot (some (s.store.memory.readRange (4096 + 40 * n) 40)))
              s.clock } })) ∧
      (1 < s.clock - begun →
        exec .slotReadDone s = .next (settle s { s with
          store := { s.store with access := .startup (some (n + 1)) failed s.clock } })) ∧
      (1 ≤ s.clock - begun →
        exec .startupReadTimeout s = .next (settle s { s with
          store := { s.store with access := .startup (some (n + 1)) failed s.clock } })))) ∧
  (∀ h : List Byte, h.length = 207 →
    let text := fun (n : Nat) => 0x20 ≤ byteAt h n ∧ byteAt h n ≤ 0x7E
    let good := halfAt h 0 = 0x5A31 ∧ (crc16 (h.take 205)).toNat = halfAt h 205 ∧
      1 ≤ byteAt h 19 ∧ byteAt h 19 ≤ 4 ∧ byteAt h 18 + byteAt h 19 ≤ 256 ∧
      (∀ k < 16, byteAt h (36 + 10 * k) ≤ 4 ∧ byteAt h (37 + 10 * k) ≤ 3) ∧ byteAt h 196 ≤ 8 ∧
      (∀ n < 16, text (2 + n)) ∧ (∀ n < 4 * byteAt h 19, text (20 + n)) ∧ ∀ k < 16, ∀ n < 8, text (38 + 10 * k + n)
    (¬good → scanHeader (some h) = none) ∧
    (good → ∃ g, scanHeader (some h) = some g ∧ g.name = slice h 2 16 ∧ g.firstFloor = byteAt h 18 ∧
      g.floorCount = byteAt h 19 ∧ g.floorLabels.length = byteAt h 19 ∧
      (∀ k < byteAt h 19, g.floorLabels[k]? = some (slice h (20 + 4 * k) 4)) ∧ g.lines.length = 16 ∧
      (∀ k < 16, ∃ c, g.lines[k]? = some c ∧ c.offset = byteAt h (37 + 10 * k) ∧ c.label = slice h (38 + 10 * k) 8 ∧
        c.ztype = (if byteAt h (36 + 10 * k) = 0 then .unused else if byteAt h (36 + 10 * k) = 1 then .detector
          else if byteAt h (36 + 10 * k) = 2 then .callpoint else if byteAt h (36 + 10 * k) = 3 then .flow
          else .valve)) ∧
      g.replicas = (List.range (byteAt h 196)).map fun k => byteAt h (197 + k))) ∧
  scanHeader none = none ∧
  ∀ (l : List Byte) (x : StoreScan), l.length = 40 →
    let empty := ∀ n < 37, byteAt l n = 0xFF
    let check := (crc16 (l.take 35)).toNat = halfAt l 35
    let inRange := byteAt l 1 ≤ 5 ∧ (byteAt l 2 = 1 ∨ byteAt l 2 = 2) ∧ 1 ≤ halfAt l 3 ∧ 1 ≤ halfAt l 5 ∧
      halfAt l 5 ≤ 1024 ∧ 65536 ≤ wordAt l 7 ∧ wordAt l 7 + 258 * halfAt l 5 ≤ 67108864 ∧
      ∀ n < 24, 0x20 ≤ byteAt l (11 + n) ∧ byteAt l (11 + n) ≤ 0x7E
    let fits := ∃ h, x.header = some h ∧
      ((byteAt l 2 = 1 ∧ h.firstFloor ≤ byteAt l 0 ∧ byteAt l 0 < h.firstFloor + h.floorCount) ∨
        (byteAt l 2 = 2 ∧ byteAt l 0 ∈ h.replicas))
    let twice := ∃ q ∈ x.records, q.floor = byteAt l 0 ∧ q.kind = byteAt l 1 ∧ (q.role = .owner ↔ byteAt l 2 = 1)
    x.takeSlot none = { x with counts := { x.counts with badCheck := x.counts.badCheck + 1 } } ∧
    (empty → x.takeSlot (some l) = x) ∧
    (¬empty → ¬check →
      x.takeSlot (some l) = { x with counts := { x.counts with badCheck := x.counts.badCheck + 1 } }) ∧
    (¬empty → check → ¬inRange →
      x.takeSlot (some l) = { x with counts := { x.counts with outOfRange := x.counts.outOfRange + 1 } }) ∧
    (¬empty → check → inRange → ¬fits →
      x.takeSlot (some l) = { x with counts := { x.counts with beyond := x.counts.beyond + 1 } }) ∧
    (¬empty → check → inRange → fits → twice →
      x.takeSlot (some l) = { x with counts := { x.counts with duplicate := x.counts.duplicate + 1 } }) ∧
    (¬empty → check → inRange → fits → ¬twice →
      x.takeSlot (some l) = { x with
        records := x.records ++
          [{ floor := byteAt l 0, kind := byteAt l 1, role := if byteAt l 2 = 1 then .owner else .replica,
             revision := halfAt l 3, tileCount := halfAt l 5, location := wordAt l 7, title := slice l 11 24 }]
        counts := { x.counts with accepted := x.counts.accepted + 1 } })

/-- R1, R14, R56, R103, R104, R106: with the last slot dealt with, read in time, or not completed within its 1 ms and
counted bad check, the images become fixed and are handed on: the Holder Table is formed anew (R59) and the floor labels
follow it (R40). R2, R181, R182: STARTING ends in this event when sampling is already complete, with no line enabled
too, and not otherwise. A row that comes later than the 1 ms is a failed read (log 11). -/
def Obligations.StoreReadyFixesImages : Prop :=
  ∀ (s : State) (x y : StoreScan) (begun : Nat) (cmd : Instr), s.held = false →
    s.store.access = .startup (some 95) x begun →
    ((cmd = .slotReadDone ∧ s.clock - begun ≤ 1 ∧ y = x.takeSlot (some (s.store.memory.readRange 7896 40))) ∨
      (((cmd = .slotReadDone ∧ 1 < s.clock - begun) ∨ (cmd = .startupReadTimeout ∧ 1 ≤ s.clock - begun)) ∧
        y = { x with counts := { x.counts with badCheck := x.counts.badCheck + 1 } })) →
    ∃ t, exec cmd s = .next t ∧
      t.store.ready = true ∧ t.store.access.isStartup = false ∧ t.store.image = x.header ∧
      t.store.sheets = y.records ∧ t.store.counts = y.counts ∧
      t.noConfig = x.header.isNone ∧ t.zones.configTaken = true ∧
      t.holders.own = some (ownHoldingsOf x.header t.store.sheets) ∧
      (∀ i < 16, x.header = none →
        (t.line i).ztype = .unused ∧ (t.line i).zstate = .disabled ∧ (t.line i).floor = 0 ∧
        (t.line i).label = List.replicate 8 0x20#8) ∧
      (∀ i < 16, ∀ h c, x.header = some h → h.lines[i]? = some c →
        (t.line i).label = c.label ∧
        (if c.offset < h.floorCount ∧ c.ztype ≠ .unused then
          (t.line i).ztype = c.ztype ∧ (t.line i).floor = h.firstFloor + c.offset ∧
            (t.line i).zstate = (s.line i).zstate ∧ (t.line i).history = (s.line i).history
        else (t.line i).ztype = .unused ∧ (t.line i).zstate = .disabled ∧ (t.line i).history = [])) ∧
      (∀ i < 16, (t.entry s.ownOrigin i).label = some (t.line i).label ∧
        (t.line i).changeNumber = (s.line i).changeNumber ∧
        ((t.line i).ztype = .unused →
          (t.entry s.ownOrigin i).known = true ∧ (t.entry s.ownOrigin i).ztype = .unused ∧
          (t.entry s.ownOrigin i).zstate = .disabled)) ∧
      (∀ f < 256, t.holderRow f = rowFrom t.allClaims f) ∧ LabelsFollow none s t ∧
      (∀ complete : Prop, (complete ↔ ∀ i < 16, (t.line i).ztype = .unused ∨ (t.line i).history.length = 4) →
        (s.starting = true → complete →
          t.starting = false ∧ t.zones.readyReported = true ∧ t.portA.isOpen = true ∧ t.portB.isOpen = true ∧
          t.rlc.phase = .awaitIdle ∧ t.rlc.joinTimer = some s.clock) ∧
        (¬(s.starting = true ∧ complete) →
          t.starting = s.starting ∧ t.zones.readyReported = s.zones.readyReported ∧
          t.portA.isOpen = s.portA.isOpen ∧ t.portB.isOpen = s.portB.isOpen ∧ t.rlc.phase = s.rlc.phase ∧
          t.rlc.joinTimer = s.rlc.joinTimer)) ∧
      t.rlc.blocks = s.rlc.blocks ∧
      t.store.memory = s.store.memory ∧ t.peers = s.peers ∧ t.marks = s.marks ∧
      (∀ o ≤ 62, o ≠ s.ownOrigin → ∀ l ≤ 15, t.entry o l = s.entry o l)

/-! ## The riser link -/

/-- R88, R89, R98, R99, R183: the end of the join listen and the expiries of the link's other timers. A row finds its timer
expired at the station clock of its command, however late that is, and a timer that runs on, a rate generator (0.7, Time),
starts anew from that moment: the model's choice (log 27). -/
def Obligations.LinkTimersExpire : Prop :=
  ∀ (s : State) (begun : Nat), s.held = false →
    (s.rlc.joinTimer = some begun → 2500 ≤ s.clock - begun →
      exec .joinListenEnd s = .next { s with
        rlc := { s.rlc with
          blocks := { s.rlc.blocks with join := false }
          joinTimer := none
          directoryMark := true
          refreshMark := true
          refreshTimer := some s.clock
          directoryTimer := some s.clock } }) ∧
    (s.rlc.refreshTimer = some begun → 2000 ≤ s.clock - begun →
      exec .refreshTimerExpiry s = .next { s with
        rlc := { s.rlc with refreshMark := true, refreshTimer := some s.clock } }) ∧
    (s.rlc.directoryTimer = some begun → 10000 ≤ s.clock - begun →
      exec .directoryTimerExpiry s = .next { s with
        rlc := { s.rlc with directoryMark := true, directoryTimer := some s.clock } }) ∧
    (s.rlc.duplicateHold = some begun → 30000 ≤ s.clock - begun →
      exec .duplicateHoldExpiry s = .next { s with
        rlc := { s.rlc with blocks := { s.rlc.blocks with duplicate := false }, duplicateHold := none } }) ∧
    (s.rlc.babbleTimer = some begun → 2000 ≤ s.clock - begun →
      exec .babbleClear s = .next { s with
        rlc := { s.rlc with blocks := { s.rlc.blocks with babble := false }, babbleTimer := none } }) ∧
    (s.rlc.lineTimer = some begun → 5000 ≤ s.clock - begun →
      exec .lineClear s = .next { s with
        rlc := { s.rlc with blocks := { s.rlc.blocks with line := false }, lineTimer := none } }) ∧
    (s.rlc.duplicateDecay = some begun → 600000 ≤ s.clock - begun →
      exec .duplicateCountDecay s = .next { s with
        rlc := { s.rlc with
          duplicateCount := s.rlc.duplicateCount - 1
          duplicateDecay := if 2 ≤ s.rlc.duplicateCount then some s.clock else none } }) ∧
    (s.rlc.babbleDecay = some begun → 600000 ≤ s.clock - begun →
      exec .babbleCountDecay s = .next { s with
        rlc := { s.rlc with
          babbleCount := s.rlc.babbleCount - 1
          babbleDecay := if 2 ≤ s.rlc.babbleCount then some s.clock else none } })

/-- R77, R80, R81, R87 to R91: at its start moment the station begins the frame of its highest pending class, with the
order of R89 until its first two frames are sent; any other moment it lets pass. R91, R140: the channel a BULK frame is
taken from, the tile it offers, and the more-follows flag (of several buffers full with one tile, the lowest, log 26).
R30, R29: the payload of a ZONE STATE; the spaces of a still EMPTY entry's label are the model's choice (log 40). R56:
the payload of a DIRECTORY. -/
def Obligations.StartMomentBeginsFrame : Prop :=
  (∀ (s : State) (offset passed : Nat), s.held = false → s.rlc.phase = .idle passed → passed ≤ offset →
    s.rlc.tx = none →
    (s.rlc.blocks.any = false → s.rlc.directorySent = true → s.rlc.alarmPending = true →
      offset = s.rlc.startMoment s.address .alarm →
      exec (.startMoment offset) s = .next (s.driving .zoneState
        (some { kind := .zoneStateAlarm, origin := s.address, dest := 63, payload := s.zoneStatePayload }) false)) ∧
    (∀ h rest, s.rlc.blocks.any = false → s.rlc.directorySent = true → s.rlc.zoneStateSent = true →
      s.rlc.alarmPending = false → s.rlc.control = h :: rest → offset = s.rlc.startMoment s.address .control →
      exec (.startMoment offset) s = .next (s.driving .control
        (some { kind := h.kind, origin := s.address, dest := h.dest, payload := h.payload }) false)) ∧
    (∀ c b d x tag r w, s.rlc.blocks.any = false → s.rlc.directorySent = true → s.rlc.zoneStateSent = true →
      s.rlc.alarmPending = false → s.rlc.control = [] → s.bulkChoice = some c →
      s.fullBuffer c (s.channel c).nextTile = some (b, d) → (s.channel c).owner = .peer x tag →
      (s.channel c).record = some r → (s.channel c).window = some w → offset = s.rlc.startMoment s.address .bulk →
      exec (.startMoment offset) s = .next (s.driving (.tile c b)
        (some { kind := .sheetTile, origin := s.address, dest := x,
                payload := [byte tag, byte (s.channel c).floor, byte (s.channel c).kind] ++ be16 r.revision ++
                  be16 (s.channel c).nextTile ++ be16 r.tileCount ++ be16 w.1 ++ be16 w.2 ++
                  [if s.moreFollows c then 1#8 else 0#8] ++ d })
        (s.moreFollows c))) ∧
    (s.rlc.blocks.any = false → s.rlc.directoryMark = true → s.rlc.directorySent = false →
      offset = s.rlc.startMoment s.address .routine →
      exec (.startMoment offset) s = .next (s.driving .directory
        (some { kind := .directory, origin := s.address, dest := 63, payload := s.directoryFrame }) false)) ∧
    (s.rlc.blocks.any = false → s.rlc.directorySent = true → s.rlc.zoneStateSent = false → s.rlc.alarmPending = false →
      offset = s.rlc.startMoment s.address .routine →
      exec (.startMoment offset) s = .next (s.driving .zoneState
        (some { kind := .zoneStateRoutine, origin := s.address, dest := 63, payload := s.zoneStatePayload }) false)) ∧
    (s.rlc.blocks.any = false → s.rlc.directorySent = true → s.rlc.zoneStateSent = true → s.rlc.alarmPending = false →
      s.rlc.control = [] → s.bulkChoice = none → s.rlc.directoryMark = true →
      offset = s.rlc.startMoment s.address .routine →
      exec (.startMoment offset) s = .next (s.driving .directory
        (some { kind := .directory, origin := s.address, dest := 63, payload := s.directoryFrame }) false)) ∧
    (s.rlc.blocks.any = false → s.rlc.directorySent = true → s.rlc.zoneStateSent = true → s.rlc.alarmPending = false →
      s.rlc.control = [] → s.bulkChoice = none → s.rlc.directoryMark = false → s.rlc.refreshMark = true →
      offset = s.rlc.startMoment s.address .routine →
      exec (.startMoment offset) s = .next (s.driving .zoneState
        (some { kind := .zoneStateRoutine, origin := s.address, dest := 63, payload := s.zoneStatePayload }) false)) ∧
    ((s.rlc.blocks.any = true ∨ s.contends = none ∨
        ∃ k, s.contends = some k ∧ offset ≠ s.rlc.startMoment s.address k) →
      exec (.startMoment offset) s = .next { s with rlc := { s.rlc with phase := .idle (offset + 1) } })) ∧
  (∀ (s : State) (c : Nat) (k : Channel), k = s.channel c →
    let full := fun (n b : Nat) (d : List Byte) => s.buffer b = { holder := some c, state := .full n d }
    (s.offersTile c = true ↔ k.state = .serve ∧ ∃ b < 16, ∃ d, full k.nextTile b d) ∧
    (∀ n b d, s.fullBuffer c n = some (b, d) ↔ b < 16 ∧ full n b d ∧ ∀ e < b, ∀ y, ¬full n e y) ∧
    (s.moreFollows c = true ↔ k.burstMode = true ∧ (∃ w, k.window = some w ∧ k.nextTile < w.2) ∧
      ∃ b < 16, ∃ d, full (k.nextTile + 1) b d) ∧
    (s.bulkChoice = none ↔ ∀ e < 6, s.offersTile e = false) ∧
    ∀ j < 6, c = (s.rlc.bulkRotation + 1 + j) % 6 →
      (s.bulkChoice = some c ↔
        s.offersTile c = true ∧ ∀ i < j, s.offersTile ((s.rlc.bulkRotation + 1 + i) % 6) = false)) ∧
  (∀ (s : State) (l : Nat) (e : ZoneEntry), l < 16 → e = s.entry s.ownOrigin l →
    s.zoneStatePayload.length = 368 ∧
    (e.known = true → slice s.zoneStatePayload (23 * l) 23 =
      [byte l, byte e.floor, byte e.ztype.code, byte e.zstate.code,
        if e.trouble = some .openLoop then 1#8 else if e.trouble = some .short then 2#8 else 0#8,
        byte ((if e.recurring then 1 else 0) + (if e.lineLost then 2 else 0) + (if e.boosted then 4 else 0) +
          (if e.ack = none then 0 else 8)), byte e.repeatCount, byte e.transientCount] ++
      be16 e.resistance ++ be16 e.changeNumber ++
      be16 (if e.zstate = .alarm ∨ e.zstate = .clearing then
          (match e.age with
            | .absent => 0
            | .own start => min 65535 ((s.clock - start) / 1000)
            | .remote age receipt => min 65535 (age + (s.clock - receipt) / 1000))
        else 0) ++
      (match e.ack with
        | none => List.replicate 8 0x20#8 ++ [0#8]
        | some a => padTo 8 a.label ++ [byte a.station])) ∧
    (e.known = false → slice s.zoneStatePayload (23 * l) 23 =
      [byte l, 0#8, 0#8, 5#8] ++ List.replicate 10 0#8 ++ List.replicate 8 0x20#8 ++ [0#8])) ∧
  (∀ (s : State) (o : OwnHoldings) (d : List Byte), s.holders.own = some o → d = s.directoryFrame →
    d.length = 149 + 3 * (o.floorCount + o.replicas.length) ∧
    slice d 0 4 = [byte s.condition.code, if s.noConfig then 1#8 else 0#8, byte o.firstFloor, byte o.floorCount] ∧
    (∀ k < 4, slice d (4 + 4 * k) 4 =
      if k < o.floorCount then padTo 4 ((match s.store.image with | none => [] | some h => h.floorLabels).getD k [])
      else List.replicate 4 0x20#8) ∧
    (∀ l < 16, slice d (20 + 8 * l) 8 = padTo 8 ((s.entry s.ownOrigin l).label.getD [])) ∧
    slice d 148 1 = [byte (o.floorCount + o.replicas.length)] ∧
    (∀ k < o.floorCount, slice d (149 + 3 * k) 3 = [byte (o.firstFloor + k), 1#8, byte (o.owned.getD k 0#6).toNat]) ∧
    (∀ k r, o.replicas[k]? = some r →
      slice d (149 + 3 * (o.floorCount + k)) 3 = [byte r.1, 2#8, byte r.2.toNat]))

/-- R76, R81: idle detection begins a first idle round, a further round follows, and activity on the line ends the
round. R84, R85, R86: the burst goes on with the next tile at 16 µs, or ends for dominant sensed, and a yield mark is
driven. R91, R140: the tile the channel offers, of several buffers full with it the lowest (log 26), and the
more-follows flag. -/
def Obligations.RoundsBurstsAndYieldMarks : Prop :=
  (∀ s : State, s.held = false →
    ((s.rlc.tx.all fun t => t.frame.isNone) = true →
      s.rlc.phase = .quiet ∨ s.rlc.phase = .awaitIdle ∨ s.rlc.phase = .receiving →
      exec .idleDetection s = .next { s with
        rlc := { s.rlc with phase := .idle 0, tx := none, burst := none, yieldDue := false } }) ∧
    (∀ n, s.rlc.phase = .idle n →
      exec .idleRound s = .next { s with rlc := { s.rlc with phase := .idle 0 } } ∧
      exec .lineActivity s = .next { s with rlc := { s.rlc with phase := .receiving } })) ∧
  (∀ (s : State) (c : Nat), s.held = false →
    let full := fun (n b : Nat) (d : List Byte) => s.buffer b = { holder := some c, state := .full n d }
    (∀ b d x tag r w more, s.rlc.burst = some c → s.rlc.tx = none → s.rlc.blocks.any = false →
      (s.channel c).state = .serve → b < 16 → full (s.channel c).nextTile b d →
      (∀ e < b, ∀ y, ¬full (s.channel c).nextTile e y) →
      (s.channel c).owner = .peer x tag → (s.channel c).record = some r → (s.channel c).window = some w →
      (more = true ↔ (s.channel c).burstMode = true ∧ (s.channel c).nextTile < w.2 ∧
        ∃ e < 16, ∃ y, full ((s.channel c).nextTile + 1) e y) →
      exec .burstContinuation s = .next (s.driving (.tile c b)
        (some { kind := .sheetTile, origin := s.address, dest := x,
                payload := [byte tag, byte (s.channel c).floor, byte (s.channel c).kind] ++ be16 r.revision ++
                  be16 (s.channel c).nextTile ++ be16 r.tileCount ++ be16 w.1 ++ be16 w.2 ++
                  [if more then 1#8 else 0#8] ++ d })
        more)) ∧
    (s.rlc.burst = some c → s.rlc.tx = none →
      (s.rlc.blocks.any = true ∨ (s.channel c).state ≠ .serve ∨ ∀ b < 16, ∀ d, ¬full (s.channel c).nextTile b d) →
      exec .burstContinuation s = .next { s with rlc := { s.rlc with burst := none } }) ∧
    (s.rlc.burst = some c →
      exec .dominantSensed s = .next { s with
        rlc := { s.rlc with
          burst := none
          counters := { s.rlc.counters with burstsYielded := min 65535 (s.rlc.counters.burstsYielded + 1) } } }) ∧
    (s.rlc.yieldDue = true → s.rlc.blocks.any = false →
      exec .yieldMark s = .next { s.driving .yieldMark none false with
        rlc := { (s.driving .yieldMark none false).rlc with
          yieldDue := false
          counters := { s.rlc.counters with yieldMarks := min 65535 (s.rlc.counters.yieldMarks + 1) } } }))

/-- R77, R78, R83, R87 to R91, R127, R130, R141, R142: a frame of each holding sent to its end, counted and, with the last
tile of its window, the end of its service; a request's channel told; the buffer under a tile whose service had ended; the
end of a yield mark. That a gap's request restarts the gap timer and not the response timer is log 32. -/
def Obligations.FrameSentToItsEnd : Prop :=
  (∀ (s : State) (x : Transmission) (f : Frame), s.held = false → s.rlc.tx = some x → x.frame = some f →
    (x.source = .zoneState →
      exec .transmissionComplete s = .next (settle s { s.sent f.kind.cls with
        rlc := { (s.sent f.kind.cls).rlc with
          alarmPending := if x.alarmAtStart && !x.raisedSince then false else s.rlc.alarmPending
          refreshMark := false
          refreshTimer := some s.clock
          zoneStateSent := true } })) ∧
    (x.source = .directory →
      exec .transmissionComplete s = .next (settle s { s.sent f.kind.cls with
        rlc := { (s.sent f.kind.cls).rlc with directoryMark := false, directorySent := true } })) ∧
    (∀ h rest, x.source = .control → s.rlc.control = h :: rest →
      (h.submitter = .mark ∨ h.submitter = .refuse ∨ h.submitter = .cancel ∨ h.withdrawn = true →
        exec .transmissionComplete s = .next (settle s { s.sent f.kind.cls with
          rlc := { (s.sent f.kind.cls).rlc with control := rest } })) ∧
      (∀ c, h.submitter = .request c false → h.withdrawn = false → (s.channel c).isRemote = true →
        (s.channel c).result = none →
        exec .transmissionComplete s = .next (settle s ({ s.sent f.kind.cls with
          rlc := { (s.sent f.kind.cls).rlc with control := rest } }.setChannel c
            { s.channel c with responseTimer := some s.clock }))) ∧
      (∀ c w, h.submitter = .request c true → h.withdrawn = false → (s.channel c).state = .receive →
        (s.channel c).result = none → (s.channel c).window = some w → w.1 ≤ (s.channel c).fetch →
        (s.channel c).fetch ≤ w.2 → (s.channel c).fetch ≤ (s.channel c).curLast →
        exec .transmissionComplete s = .next (settle s ({ s.sent f.kind.cls with
          rlc := { (s.sent f.kind.cls).rlc with control := rest } }.setChannel c
            { s.channel c with gapTimer := some s.clock }))) ∧
      (∀ c gap, h.submitter = .request c gap → h.withdrawn = false →
        ((s.channel c).isRemote = false ∨ (s.channel c).result ≠ none ∨
          (gap = true ∧ ((s.channel c).state ≠ .receive ∨ (s.channel c).expected = none))) →
        exec .transmissionComplete s = .next (settle s { s.sent f.kind.cls with
          rlc := { (s.sent f.kind.cls).rlc with control := rest } }))) ∧
    (∀ c b w, x.source = .tile c b → x.serviceLive = true → (s.channel c).window = some w →
      (s.channel c).nextTile < w.2 →
      exec .transmissionComplete s = .next (settle s (({ s.sent f.kind.cls with
        rlc := { (s.sent f.kind.cls).rlc with
          bulkRotation := c
          burst := if x.moreFollows && !s.rlc.alarmPending then some c else none } }.setBuffer b
            { holder := some c, state := .empty }).setChannel c
              { s.channel c with nextTile := (s.channel c).nextTile + 1 }))) ∧
    (∀ c b v, x.source = .tile c b → v = { s.sent f.kind.cls with
        rlc := { (s.sent f.kind.cls).rlc with
          bulkRotation := c
          burst := if x.moreFollows && !s.rlc.alarmPending then some c else none } } →
      (∀ w, c < 6 → x.serviceLive = true → (s.channel c).window = some w → w.2 ≤ (s.channel c).nextTile →
        ∃ u, exec .transmissionComplete s = .next (settle s u) ∧
          ChannelClosed c (((v.setBuffer b { holder := some c, state := .empty }).setChannel c
            { s.channel c with nextTile := (s.channel c).nextTile + 1 }).countTransfers fun n =>
              { n with servicesCompleted := min 65535 (n.servicesCompleted + 1) }) u) ∧
      (x.serviceLive = false → (s.buffer b).holder = none →
        exec .transmissionComplete s = .next (settle s v)) ∧
      (∀ d k, x.serviceLive = false → (s.buffer b).holder = some d → k = s.channel d →
        exec .transmissionComplete s = .next (settle s (v.setBuffer b
          (if k.state = .free ∨ (k.state = .serve ∧ k.burstMode = false ∧ 1 < s.heldBy d) then
            { holder := none, state := .empty }
          else { holder := some d, state := .empty })))))) ∧
  (∀ (s : State) (x : Transmission), s.held = false → s.rlc.tx = some x → x.frame = none →
    exec .transmissionComplete s = .next (settle s { s with rlc := { s.rlc with tx := none } }))

/-- R82, R83, R101: an abandoned attempt; the eighth in a row brings the LINE block, and the count returns to 0.
R92, R99, R100, R101: the transmit guard cuts what has been driven for 10 ms, and BABBLE appears. -/
def Obligations.TransmissionsGivenUp : Prop :=
  (∀ (s : State) (x : Transmission) (f : Frame), s.held = false → s.rlc.tx = some x → x.frame = some f →
    (s.rlc.abandoned < 7 →
      (x.source = .zoneState ∨ x.source = .directory ∨
        (x.source = .control ∧ ∀ h rest, s.rlc.control = h :: rest → h.withdrawn = false) ∨
        (x.serviceLive = true ∧ ∃ c b, x.source = .tile c b)) →
      exec .attemptAbandoned s = .next (settle s { s with
        rlc := { s.rlc with
          tx := none
          burst := none
          yieldDue := false
          phase := .receiving
          abandoned := s.rlc.abandoned + 1
          counters := { s.rlc.counters with collisions := min 65535 (s.rlc.counters.collisions + 1) } } })) ∧
    (s.rlc.abandoned = 7 →
      ∃ u, exec .attemptAbandoned s = .next (settle s u) ∧ AfterOnset s u ∧ BlockNoticed .line s u ∧
        u.rlc.blocks = { s.rlc.blocks with line := true } ∧ u.rlc.lineTimer = some s.clock ∧ u.rlc.abandoned = 0 ∧
        u.rlc.counters = { s.rlc.counters with collisions := min 65535 (s.rlc.counters.collisions + 1) })) ∧
  (∀ (s : State) (x : Transmission), s.held = false → s.rlc.tx = some x → 10 ≤ s.clock - x.start →
    ∃ u, exec .transmitGuardCut s = .next (settle s u) ∧ AfterOnset s u ∧ BlockNoticed .babble s u ∧
      u.rlc.counters = { s.rlc.counters with guardCuts := min 65535 (s.rlc.counters.guardCuts + 1) } ∧
      u.rlc.blocks = { s.rlc.blocks with
        babble := true, silenced := s.rlc.blocks.silenced || decide (2 ≤ s.rlc.babbleCount) } ∧
      u.rlc.babbleCount = min 3 (s.rlc.babbleCount + 1) ∧ u.rlc.babbleTimer = some s.clock ∧
      u.rlc.babbleDecay = some s.clock ∧ u.rlc.abandoned = s.rlc.abandoned ∧ u.rlc.lastOrigins = s.rlc.lastOrigins)

/-- R93: the receiver discards a frame at its first failure and counts it. The model's choices: one row carries all the bytes
up to the discard (log 24), and a truncated frame's row may come before idle detection or after it (log 38). -/
def Obligations.ReceiverDiscards : Prop :=
  ∀ (s : State) (bytes : List LineByte), s.held = false → s.receives = true →
    let gone := fun (phase : RiserPhase) (k : LinkCounters) =>
      { s with rlc := { s.rlc with tx := none, burst := none, yieldDue := false, phase := phase, counters := k } }
    let v := bytes.map (·.value)
    let len := halfAt v 4
    (∀ b rest, bytes = b :: rest → b.value ≠ 0xA5#8 →
      exec (.receiveFailure bytes) s =
        .next (gone .awaitIdle { s.rlc.counters with badStart := min 65535 (s.rlc.counters.badStart + 1) })) ∧
    (∀ b rest, bytes = b :: rest → b.value = 0xA5#8 →
      ((∃ x ∈ bytes.take 6, x.framingError = true) →
        exec (.receiveFailure bytes) s = .next
          (gone .awaitIdle { s.rlc.counters with framingError := min 65535 (s.rlc.counters.framingError + 1) })) ∧
      ((∀ x ∈ bytes.take 6, x.framingError = false) → 6 ≤ bytes.length →
        (416 < len →
          exec (.receiveFailure bytes) s =
            .next (gone .awaitIdle { s.rlc.counters with badLength := min 65535 (s.rlc.counters.badLength + 1) })) ∧
        (len ≤ 416 → (∃ x ∈ bytes.take (8 + len), x.framingError = true) →
          exec (.receiveFailure bytes) s = .next
            (gone .awaitIdle { s.rlc.counters with framingError := min 65535 (s.rlc.counters.framingError + 1) }))) ∧
      ((∀ x ∈ bytes, x.framingError = false) →
        (∀ phase : RiserPhase, (bytes.length < 6 ∨ (len ≤ 416 ∧ bytes.length < 8 + len)) →
          phase = (match s.rlc.phase with | .idle n => .idle n | _ => .quiet) →
          exec (.receiveFailure bytes) s =
            .next (gone phase { s.rlc.counters with truncated := min 65535 (s.rlc.counters.truncated + 1) })) ∧
        (len ≤ 416 → bytes.length = 8 + len →
          ((crc16 (slice v 1 (5 + len))).toNat ≠ halfAt v (6 + len) →
            exec (.receiveFailure bytes) s =
              .next (gone .quiet { s.rlc.counters with badCrc := min 65535 (s.rlc.counters.badCrc + 1) })) ∧
          ((crc16 (slice v 1 (5 + len))).toNat = halfAt v (6 + len) →
            byteAt v 1 ∉ [0x31, 0x32, 0x33, 0x41, 0x42, 0x43, 0x44, 0x51] →
            exec (.receiveFailure bytes) s =
              .next (gone .quiet { s.rlc.counters with unknownKind := min 65535 (s.rlc.counters.unknownKind + 1) })))))

/-! ## Frames from peers -/

/-- R50, R78, R85, R94 to R96, R98 to R101: a well-formed frame that is no peer's for this station: a duplicate event for its
own address as origin, misdirected, not for this station, or of no valid origin. The model's choices: an origin of 64 to 255
is accepted and counted unplaced as 0 and 63 are, and leaves the last origins (log 42); a SHEET TILE's more-follows byte
above 1 is taken as clear for the yield decision (log 43). -/
def Obligations.FramesOfNoPeer : Prop :=
  ∀ (x dest : Byte) (payload : List Byte) (s v : State) (c : Instr) (cls : AccessClass) (broadcast yields : Bool),
    s.held = false → s.receives = true →
    (c, cls, broadcast, yields) ∈
      [(Instr.zoneState .alarm x dest payload, AccessClass.alarm, true, false),
       (.zoneState .routine x dest payload, .routine, true, false), (.directory x dest payload, .routine, true, false),
       (.sheetRequest x dest payload, .control, false, false), (.sheetRefuse x dest payload, .control, false, false),
       (.sheetCancel x dest payload, .control, false, false),
       (.sheetTile x dest payload, .bulk, false,
         decide (byteAt payload 13 = 1) && s.rlc.alarmPending && !s.rlc.blocks.any),
       (.markAck x dest payload, .control, true, false), (.markAttendOn x dest payload, .control, true, false),
       (.markAttendOff x dest payload, .control, true, false)] →
    v = { s with
      rlc := { s.rlc with
        tx := none, burst := none, yieldDue := yields, phase := .quiet
        lastOrigins := if 1 ≤ x.toNat ∧ x.toNat ≤ 62 then s.rlc.lastOrigins.set cls x.toNat else s.rlc.lastOrigins } } →
    let counted := fun (f : LinkCounters → LinkCounters) => { v with rlc := { v.rlc with counters := f v.rlc.counters } }
    let wrong := if broadcast then dest.toNat ≠ 63 else dest.toNat = 0 ∨ 62 < dest.toNat
    (x.toNat = s.address →
      (s.rlc.blocks.duplicate = true →
        exec c s = .next (settle s { v with
          rlc := { v.rlc with
            duplicateHold := some s.clock
            counters := { v.rlc.counters with
              duplicateEvents := min 65535 (s.rlc.counters.duplicateEvents + 1) } } })) ∧
      (s.rlc.blocks.duplicate = false →
        ∃ u, exec c s = .next (settle s u) ∧ AfterOnset v u ∧ BlockNoticed .duplicate s u ∧
          u.rlc.counters = { s.rlc.counters with
            duplicateEvents := min 65535 (s.rlc.counters.duplicateEvents + 1) } ∧
          u.rlc.blocks = { s.rlc.blocks with
            duplicate := true, silenced := s.rlc.blocks.silenced || decide (2 ≤ s.rlc.duplicateCount) } ∧
          u.rlc.duplicateCount = min 3 (s.rlc.duplicateCount + 1) ∧ u.rlc.duplicateHold = some s.clock ∧
          u.rlc.duplicateDecay = some s.clock ∧ u.rlc.lastOrigins = v.rlc.lastOrigins)) ∧
    (x.toNat ≠ s.address →
      (wrong →
        exec c s = .next (settle s (counted fun k => { k with misdirected := min 65535 (k.misdirected + 1) }))) ∧
      (¬wrong → dest.toNat ≠ s.address → dest.toNat ≠ 63 →
        exec c s = .next (settle s (counted fun k => { k with notForThis := min 65535 (k.notForThis + 1) }))) ∧
      (¬wrong → (dest.toNat = s.address ∨ dest.toNat = 63) → (x.toNat = 0 ∨ 62 < x.toNat) →
        exec c s = .next (settle s { counted fun k => { k with accepted := min 65535 (k.accepted + 1) } with
          peers := { s.peers with unplacedFrames := min 65535 (s.peers.unplacedFrames + 1) } })))

/-- R31, R32, R50, R51, R53, R78, R94: a ZONE STATE frame from a peer replaces that peer's row; one that fails the
checks is counted, and heard. Of a peer that was not PRESENT, either forms the Holder Table anew (R59), and the floor
labels follow it (R40). The checks, the fields of a zone record and its codes (2.3), by offset. -/
def Obligations.ZoneStateReplacesRow : Prop :=
  (∀ (cls : ReportClass) (x : Byte) (payload : List Byte) (s : State), s.canTake x.toNat →
    (zonePayloadGood payload = true →
      ∃ u, exec (.zoneState cls x 63#8 payload) s = .next (settle s u) ∧
        u.peer x.toNat = { s.peer x.toNat with
          presence := .present, silence := some s.clock, framesHeard := min 65535 ((s.peer x.toNat).framesHeard + 1) } ∧
        (∀ y ≤ 62, y ≠ x.toNat → u.peer y = s.peer y) ∧
        ((s.peer x.toNat).presence ≠ .present → ∀ f < 256, u.holderRow f = rowFrom u.allClaims f) ∧
        ((s.peer x.toNat).presence = .present → u.holders = s.holders) ∧ LabelsFollow none s u ∧
        u.rlc.counters = { s.rlc.counters with accepted := min 65535 (s.rlc.counters.accepted + 1) } ∧
        u.rlc.lastOrigins = s.rlc.lastOrigins.set (if cls = .alarm then .alarm else .routine) x.toNat ∧
        (∀ k < 16, ∀ r e old, r = zoneRecordAt payload k → e = u.entry x.toNat r.line → old = s.entry x.toNat r.line →
          e.known = true ∧ e.stale = false ∧ e.floor = r.floor ∧ e.ztype.code = r.ztype ∧ e.zstate.code = r.zstate ∧
          e.repeatCount = r.repeatCount ∧ e.transientCount = r.transientCount ∧ e.resistance = r.resistance ∧
          e.changeNumber = r.changeNumber ∧ e.label = old.label ∧ e.lastHeard = some s.clock ∧
          e.trouble = (if r.zstate = 4 ∨ (r.zstate = 2 ∧ r.flags / 2 % 2 = 1) then troubleOfCode r.trouble else none) ∧
          e.recurring = (decide (r.flags % 2 = 1) && decide (1 ≤ r.repeatCount)) ∧
          e.lineLost = (decide (r.flags / 2 % 2 = 1) && decide (r.zstate = 2)) ∧
          e.boosted = (decide (r.flags / 4 % 2 = 1) && decide (r.zstate = 1)) ∧
          e.age = (if r.zstate = 2 ∨ r.zstate = 3 then .remote r.age s.clock else .absent) ∧
          (8 ≤ r.flags → (r.zstate = 2 ∨ r.zstate = 3) → (1 ≤ r.station ∧ r.station ≤ 62) →
            ∃ a, e.ack = some a ∧ a.label = trimText r.label ∧ a.station = r.station ∧ a.change = r.changeNumber ∧
              (∀ b, old.ack = some b → b.label = a.label → b.station = a.station → b.change = a.change →
                a.port = b.port) ∧
              ((∀ b, old.ack = some b → b.label ≠ a.label ∨ b.station ≠ a.station ∨ b.change ≠ a.change) →
                a.port = none)) ∧
          (¬(8 ≤ r.flags ∧ (r.zstate = 2 ∨ r.zstate = 3) ∧ 1 ≤ r.station ∧ r.station ≤ 62) → e.ack = none)) ∧
        (∀ o ≤ 62, o ≠ x.toNat → o ≠ s.ownOrigin → ∀ l ≤ 15, u.entry o l = s.entry o l) ∧
        (∀ i < 16, (u.line i = s.line i ∧ u.entry s.ownOrigin i = s.entry s.ownOrigin i) ∨
          (u.line i = (s.line i).boost ∧ (s.line i).zstate = .pending ∧ (s.line i).boosted = false)) ∧
        (∀ f < 256, (u.floor f).attendance = (s.floor f).attendance) ∧
        u.store = s.store ∧ u.ste = s.ste ∧ u.marks = s.marks ∧ u.portA = s.portA ∧ u.portB = s.portB ∧
        u.holders.own = s.holders.own ∧ u.clock = s.clock ∧ u.pending = s.pending) ∧
    (zonePayloadGood payload = false →
      ∃ v, FrameHeard (if cls = .alarm then .alarm else .routine) x.toNat false s v ∧
        exec (.zoneState cls x 63#8 payload) s = .next (settle s { v with
          picture := { v.picture with rejectedReports := min 65535 (s.picture.rejectedReports + 1) } }))) ∧
  (∀ p : List Byte, zonePayloadGood p = true ↔ p.length = 368 ∧
    (∀ k < 16, byteAt p (23 * k) ≤ 15 ∧ byteAt p (23 * k + 2) ≤ 4 ∧ byteAt p (23 * k + 3) ≤ 5 ∧
      byteAt p (23 * k + 4) ≤ 2 ∧ byteAt p (23 * k + 5) < 16 ∧ byteAt p (23 * k + 6) ≤ 15 ∧
      (byteAt p (23 * k + 2) = 0 ↔ byteAt p (23 * k + 3) = 5)) ∧
    ∀ j < 16, ∀ k < 16, j ≠ k → byteAt p (23 * j) ≠ byteAt p (23 * k)) ∧
  (∀ (p : List Byte) (k : Nat), zoneRecordAt p k =
    { line := byteAt p (23 * k), floor := byteAt p (23 * k + 1), ztype := byteAt p (23 * k + 2),
      zstate := byteAt p (23 * k + 3), trouble := byteAt p (23 * k + 4), flags := byteAt p (23 * k + 5),
      repeatCount := byteAt p (23 * k + 6), transientCount := byteAt p (23 * k + 7),
      resistance := halfAt p (23 * k + 8), changeNumber := halfAt p (23 * k + 10), age := halfAt p (23 * k + 12),
      label := slice p (23 * k + 14) 8, station := byteAt p (23 * k + 22) }) ∧
  [ZoneType.unused, .detector, .callpoint, .flow, .valve].map ZoneType.code = [0, 1, 2, 3, 4] ∧
  [ZoneState.normal, .pending, .alarm, .clearing, .trouble, .disabled].map ZoneState.code = [0, 1, 2, 3, 4, 5] ∧
  troubleOfCode 0 = none ∧ troubleOfCode 1 = some .openLoop ∧ troubleOfCode 2 = some .short

/-- R27, R50 to R55: a DIRECTORY from a peer replaces the DIRECTORY fields of its record and labels its row; one that
fails the checks is counted, and heard. R40, R59: the rows are formed anew when the peer was not PRESENT or its claims
differ, and the labels follow, those of its own floors taken at each DIRECTORY. R53, R167: from a LOST peer it brings a
STATION record "back". The checks (R54) and the condition codes (R184), by offset. The Holder Table: the claims in
ascending rank (R49, R56, R57), the row they give a floor (R57, R58), the station's own holdings (R56) and the candidate
list of a floor and kind (R60). -/
def Obligations.DirectoryReplacesRecord : Prop :=
  (∀ (x : Byte) (payload : List Byte) (s : State), s.canTake x.toNat →
    (directoryGood payload = true →
      ∃ u d, exec (.directory x 63#8 payload) s = .next (settle s u) ∧
        u.peer x.toNat = { s.peer x.toNat with
          presence := .present, silence := some s.clock, framesHeard := min 65535 ((s.peer x.toNat).framesHeard + 1),
          directory := some d } ∧
        d.condition.code = byteAt payload 0 ∧ d.noConfig = decide (byteAt payload 1 = 1) ∧
        d.firstFloor = byteAt payload 2 ∧ d.floorCount = byteAt payload 3 ∧
        (∀ k < byteAt payload 3, d.floorLabels[k]? = some (slice payload (4 + 4 * k) 4)) ∧
        (∀ k < 16, d.zoneLabels[k]? = some (slice payload (20 + 8 * k) 8)) ∧
        (∀ k < byteAt payload 148, byteAt payload (150 + 3 * k) = 1 →
          d.owned[byteAt payload (149 + 3 * k) - byteAt payload 2]? = some (BitVec.ofNat 6 (byteAt payload (151 + 3 * k)))) ∧
        (∀ k < byteAt payload 148, byteAt payload (150 + 3 * k) = 2 →
          (byteAt payload (149 + 3 * k), BitVec.ofNat 6 (byteAt payload (151 + 3 * k))) ∈ d.replicas) ∧
        d.replicas.Pairwise (fun a b => a.1 ≤ b.1) ∧
        (∀ l ≤ 15, u.entry x.toNat l = { s.entry x.toNat l with
          label := some (slice payload (20 + 8 * l) 8)
          stale := (s.entry x.toNat l).stale && decide ((s.peer x.toNat).presence ≠ .lost) }) ∧
        (∀ same : Prop, (same ↔ (s.peer x.toNat).presence = .present ∧ ∃ o, (s.peer x.toNat).directory = some o ∧
            o.firstFloor = d.firstFloor ∧ o.floorCount = d.floorCount ∧ o.owned = d.owned ∧ o.replicas = d.replicas) →
          (¬same → ∀ f < 256, u.holderRow f = rowFrom u.allClaims f) ∧ (same → u.holders = s.holders)) ∧
        u.holders.own = s.holders.own ∧ (∀ y ≤ 62, y ≠ x.toNat → u.peer y = s.peer y) ∧
        LabelsFollow (some (.peer x.toNat)) s u ∧
        (SummaryLaw s → (s.peer x.toNat).presence = .lost → ∀ p, (s.port p).attached = true →
          (s.notices p).queue.length < 32 →
          ∃ r, (u.notices p).find { level := 4, subject := .station x.toNat } = some r ∧ r.detail = 2) ∧
        (∀ k < byteAt payload 3, byteAt payload 2 + k < 256 → u.ownerOf (byteAt payload 2 + k) = some (.peer x.toNat) →
          (u.floor (byteAt payload 2 + k)).label = some (slice payload (4 + 4 * k) 4)) ∧
        (∀ o ≤ 62, o ≠ x.toNat → ∀ l ≤ 15, u.entry o l = s.entry o l) ∧
        (∀ f < 256, (u.floor f).attendance = (s.floor f).attendance) ∧
        u.rlc = (s.accepted .routine x.toNat false).rlc ∧ u.zones = s.zones ∧ u.store = s.store ∧ u.ste = s.ste ∧
        u.marks = s.marks ∧ u.portA = s.portA ∧ u.portB = s.portB ∧ u.clock = s.clock ∧ u.pending = s.pending) ∧
    (directoryGood payload = false →
      ∃ v, FrameHeard .routine x.toNat false s v ∧
        exec (.directory x 63#8 payload) s = .next (settle s { v with
          peers := { v.peers with rejectedDirectories := min 65535 (s.peers.rejectedDirectories + 1) } }))) ∧
  (∀ (p : List Byte) (n : Nat), n = byteAt p 148 → (directoryGood p = true ↔ p.length = 149 + 3 * n ∧ n ≤ 12 ∧
    byteAt p 0 ≤ 4 ∧ byteAt p 1 ≤ 1 ∧ byteAt p 3 ≤ 4 ∧ byteAt p 2 + byteAt p 3 ≤ 256 ∧
    (∀ k < n, (byteAt p (150 + 3 * k) = 1 ∨ byteAt p (150 + 3 * k) = 2) ∧ byteAt p (151 + 3 * k) < 64 ∧
      (byteAt p (150 + 3 * k) = 1 ↔
        byteAt p 2 ≤ byteAt p (149 + 3 * k) ∧ byteAt p (149 + 3 * k) < byteAt p 2 + byteAt p 3)) ∧
    (∀ j < n, ∀ k < n, j ≠ k → byteAt p (149 + 3 * j) ≠ byteAt p (149 + 3 * k)) ∧
    ((List.range n).filter fun k => decide (byteAt p (150 + 3 * k) = 2)).length ≤ 8)) ∧
  [Condition.starting, .joining, .operating, .listenOnly, .maintenance].map Condition.code = [0, 1, 2, 3, 4] ∧
  (∀ s : State,
    let rank := fun (x : Source) => match x with
      | .peer a => a
      | .self => if 1 ≤ s.address ∧ s.address ≤ 62 then s.address else 64
    (∀ x : Claim, x ∈ s.allClaims ↔
      (x.source = .self ∧ s.holders.own = some
        { firstFloor := x.firstFloor, floorCount := x.floorCount, owned := x.owned, replicas := x.replicas }) ∨
      ∃ a d, x.source = .peer a ∧ 1 ≤ a ∧ a ≤ 62 ∧ a ≠ s.address ∧ (s.peer a).presence = .present ∧
        (s.peer a).directory = some d ∧ x.firstFloor = d.firstFloor ∧ x.floorCount = d.floorCount ∧ x.owned = d.owned ∧
        x.replicas = d.replicas) ∧
    s.allClaims.Pairwise fun x y => rank x.source < rank y.source) ∧
  (∀ (claims further : List Claim) (f : Nat),
    let owns := fun (x : Claim) => decide (x.firstFloor ≤ f ∧ f < x.firstFloor + x.floorCount)
    let kinds := fun (x : Claim) =>
      if owns x = true then x.owned.getD (f - x.firstFloor) 0#6
      else ((x.replicas.find? fun r => decide (r.1 = f)).map (·.2)).getD 0#6
    (∀ lower x higher, claims = lower ++ x :: higher → owns x = true → (∀ y ∈ lower, owns y = false) →
      (rowFrom claims f).owner = some { source := x.source, kinds := kinds x }) ∧
    ((∀ x ∈ claims, owns x = false) → (rowFrom claims f).owner = none) ∧
    (further = (claims.filter fun x => (owns x || decide (f ∈ x.replicas.map (·.1))) &&
        decide ((rowFrom claims f).owner.map (·.source) ≠ some x.source)) →
      (rowFrom claims f).replicas = (further.take 2).map fun x => { source := x.source, kinds := kinds x })) ∧
  (∀ (image : Option HeaderImage) (sheets : List SheetRecord) (o : OwnHoldings), o = ownHoldingsOf image sheets →
    let holds := fun (set : KindSet) (f : Nat) =>
      ∀ j < 6, (set.getLsbD j = true ↔ ∃ r ∈ sheets, r.floor = f ∧ r.kind = j)
    (image = none → o = { firstFloor := 0, floorCount := 0, owned := [], replicas := [] }) ∧
    (∀ h, image = some h →
      o.firstFloor = h.firstFloor ∧ o.floorCount = h.floorCount ∧ o.owned.length = h.floorCount ∧
      (∀ k < h.floorCount, holds (o.owned.getD k 0#6) (h.firstFloor + k)) ∧
      (∀ f, f ∈ o.replicas.map (·.1) ↔ f ∈ h.replicas ∧ ¬(h.firstFloor ≤ f ∧ f < h.firstFloor + h.floorCount)) ∧
      o.replicas.Pairwise (fun x y => x.1 < y.1) ∧ ∀ x ∈ o.replicas, holds x.2 x.1)) ∧
  (∀ (s : State) (f kind : Nat) (row : HolderRow) (itself : Bool), row = s.holderRow f →
    (itself = true ↔ ∃ o, s.holders.own = some o ∧
      ((o.firstFloor ≤ f ∧ f < o.firstFloor + o.floorCount ∧
          (o.owned.getD (f - o.firstFloor) 0#6).getLsbD kind = true) ∨
        (¬(o.firstFloor ≤ f ∧ f < o.firstFloor + o.floorCount) ∧
          ∃ x, o.replicas.find? (fun r => decide (r.1 = f)) = some x ∧ x.2.getLsbD kind = true))) →
    let others := fun (l : List Holder) =>
      (l.filter fun h => decide (h.source ≠ .self) && h.kinds.getLsbD kind).map (·.source)
    s.candidates f kind =
      (if itself = true then [.self] else []) ++
        (match row.owner with
          | some h => others [h]
          | none => []) ++
        others row.replicas)

/-- R50, R62, R118, R139, R142, R143: a SHEET REQUEST from a peer, heard, is ignored under a block or as malformed,
refused (NO_SHEET, REVISION, RANGE, BUSY), or given a channel; one from the requester and tag of a service replaces it.
A service replaced in YIELD gives back the higher of two buffers that no read and no frame uses (log 26). -/
def Obligations.SheetRequestServed : Prop :=
  ∀ (x dest tag floor kind burst : Byte) (revision first last : Half) (p : List Byte) (s : State),
    s.canTake x.toNat → dest.toNat = s.address → validAddress s.address = true → ∃ v,
    FrameHeard .control x.toNat false s v ∧
    (∀ q : List Byte, q.length ≠ 10 →
      exec (.sheetRequest x dest q) s = .next (settle s (v.countTransfers fun n =>
        { n with serveIgnored := min 65535 (n.serveIgnored + 1) }))) ∧
    (p = [tag, floor, kind] ++ be16 revision.toNat ++ be16 first.toNat ++ be16 last.toNat ++ [burst] →
    let refuse := fun (code : Byte) (w : State) =>
      if s.rlc.control.length < 8 then
        (w.countTransfers fun n => { n with serveRefuses := min 65535 (n.serveRefuses + 1) }).queueControl
          .sheetRefuse x.toNat [tag, code] .refuse
      else w.countTransfers fun n =>
        { n with
          serveRefuses := min 65535 (n.serveRefuses + 1)
          controlNotSent := min 65535 (n.controlNotSent + 1) }
    let found := s.lookup floor.toNat kind.toNat revision.toNat
    let service := fun (r : SheetRecord) (fast : Bool) =>
      { Channel.freed with
        state := .serve, owner := .peer x.toNat tag.toNat, floor := floor.toNat, kind := kind.toNat, record := some r,
        window := some (first.toNat, min last.toNat (min (r.tileCount - 1) (first.toNat + 3))),
        nextTile := first.toNat, fetch := first.toNat, burstMode := fast }
    ((s.rlc.blocks.any = true ∨ 5 < kind.toNat ∨ 1 < burst.toNat ∨ tag = 0#8) →
      exec (.sheetRequest x dest p) s = .next (settle s (v.countTransfers fun n =>
        { n with serveIgnored := min 65535 (n.serveIgnored + 1) }))) ∧
    (s.rlc.blocks.any = false → kind.toNat ≤ 5 → burst.toNat ≤ 1 → tag ≠ 0#8 →
      (∀ code : Byte,
        ((code = 1#8 ∧ s.lookup floor.toNat kind.toNat 0 = none) ∨
          (code = 2#8 ∧ s.lookup floor.toNat kind.toNat 0 ≠ none ∧ found = none) ∨
          (code = 5#8 ∧ ∃ r, found = some r ∧ (last.toNat < first.toNat ∨ r.tileCount ≤ first.toNat))) →
        (s.serviceOf x.toNat tag.toNat = none →
          exec (.sheetRequest x dest p) s = .next (settle s (refuse code v))) ∧
        (∀ c, s.serviceOf x.toNat tag.toNat = some c →
          ∃ w, ChannelClosed c v w ∧ exec (.sheetRequest x dest p) s = .next (settle s (refuse code w)))) ∧
      (∀ r, found = some r → first.toNat ≤ last.toNat → first.toNat < r.tileCount →
        (s.serviceOf x.toNat tag.toNat = none →
          ((s.freeChannel = none ∨ 4 ≤ s.serving ∨ s.freeBuffers = 0) →
            exec (.sheetRequest x dest p) s = .next (settle s (refuse 3#8 v))) ∧
          (∀ c, s.freeChannel = some c → s.serving < 4 → 1 ≤ s.freeBuffers →
            exec (.sheetRequest x dest p) s = .next (settle s
              (claimBuffers c (if burst = 1#8 ∧ 2 ≤ s.freeBuffers then 2 else 1)
                (v.setChannel c (service r (decide (burst = 1#8 ∧ 2 ≤ s.freeBuffers)))))))) ∧
        (∀ c, s.serviceOf x.toNat tag.toNat = some c → ∃ w, TilesDropped c v w ∧ ∀ z : State,
          z = { w with
            rlc := { w.rlc with
              tx := w.rlc.tx.map fun y => match y.source with
                | .tile d _ => { y with serviceLive := y.serviceLive && decide (d ≠ c) }
                | _ => y } } →
          ((burst = 1#8 ∧ (2 ≤ s.heldBy c ∨ 1 ≤ s.freeBuffers)) →
            exec (.sheetRequest x dest p) s = .next (settle s
              (claimBuffers c (2 - s.heldBy c) (z.setChannel c (service r true))))) ∧
          (¬(burst = 1#8 ∧ (2 ≤ s.heldBy c ∨ 1 ≤ s.freeBuffers)) →
            (s.heldBy c ≤ 1 ∨ ∀ b < 16, (z.buffer b).holder = some c → z.bufferBusy b = true) →
            exec (.sheetRequest x dest p) s = .next (settle s (z.setChannel c (service r false)))) ∧
          (∀ b < 16, ¬(burst = 1#8 ∧ (2 ≤ s.heldBy c ∨ 1 ≤ s.freeBuffers)) → 2 ≤ s.heldBy c →
            (z.buffer b).holder = some c → z.bufferBusy b = false →
            (∀ d < 16, b < d → (z.buffer d).holder = some c → z.bufferBusy d = true) →
            exec (.sheetRequest x dest p) s = .next (settle s
              ((z.setChannel c (service r false)).setBuffer b { holder := none, state := .empty })))))))

/-- R50, R62, R127 to R133, R142, R143: SHEET REFUSE, SHEET CANCEL and SHEET TILE from a peer, heard, and taken by their
channel or counted as stray; the checks of R129 on a tile, by offset. The model's choices: a refuse or tile of a channel
whose transfer has ended counts as stray (log 16); a BUSY refuse in RECEIVE is recorded as the last refuse (log 19); a
channel that waits to retry after BUSY keeps its window and takes a tile of it (log 20); of several empty buffers the
lowest takes a tile (log 26); with each tile of an open window, and with a gap's request once sent, it is the gap timer
that runs (log 32); a more-follows byte above 1 is taken as clear for the yield decision (log 43). -/
def Obligations.SheetFramesTaken : Prop :=
  ∀ (x dest : Byte) (s : State), s.canTake x.toNat → dest.toNat = s.address → validAddress s.address = true → ∃ v,
    FrameHeard .control x.toNat false s v ∧
    (∀ (tag : Byte) (c : Nat), s.channelOfTag tag.toNat = some c → (s.channel c).state = .request →
      (s.channel c).result = none → (s.channel c).fetch ≤ (s.channel c).curLast →
      (s.channel c).currentPeer = some x.toNat → (s.channel c).busyRetries < 3 →
      exec (.sheetRefuse x dest [tag, 3#8]) s = .next (settle s (v.setChannel c
        { s.channel c with
          responseTimer := none, busyRetries := (s.channel c).busyRetries + 1, busyWait := some s.clock }))) ∧
    (∀ (tag reason : Byte) (c : Nat) (k l : Channel), s.channelOfTag tag.toNat = some c → k = s.channel c →
      k.isRemote = true → k.result = none → k.fetch ≤ k.curLast → k.currentPeer = some x.toNat →
      1 ≤ reason.toNat → reason.toNat ≤ 5 → (reason ≠ 3#8 ∨ k.state = .receive ∨ 3 ≤ k.busyRetries) →
      l = (if reason = 3#8 ∧ k.state = .request then k else { k with
        lastRefuse := if reason = 1#8 then some .noSheet else if reason = 2#8 then some .revision
          else if reason = 3#8 then some .busy else if reason = 4#8 then some .storeFault else some .range }) →
      s.rlc.blocks.any = false → s.rlc.control = [] →
      (∀ y n last, k.candidates[k.position + 1]? = some (.peer y) → s.present y = true →
        n = min 4 ((crewClaim c v).emptyBuffers c).length → 1 ≤ n → last = min (k.fetch + n - 1) k.curLast →
        ∃ u, exec (.sheetRefuse x dest [tag, reason]) s = .next (settle s u) ∧
          u.channel c = { l.stopped with
            state := .request, busyRetries := 0, gapStrike := 0, position := k.position + 1,
            window := some (k.fetch, last) } ∧
          u.rlc.control =
            [{ kind := .sheetRequest, dest := y, submitter := .request c false, withdrawn := false,
               payload := [byte k.tag, byte k.floor, byte k.kind] ++ be16 k.pinned ++ be16 k.fetch ++ be16 last ++
                 [if k.fetch < last then 1#8 else 0#8] }] ∧
          (∀ d < 6, d ≠ c → u.channel d = s.channel d) ∧ u.ste.counters = s.ste.counters ∧
          u.picture = v.picture ∧ u.zones = s.zones ∧ u.peers = v.peers) ∧
      (k.candidates.length = k.position + 1 → (k.pinned = 0 ∨ k.restartUsed = true) → k.record = none →
        ∃ u, exec (.sheetRefuse x dest [tag, reason]) s = .next (settle s u) ∧
          (u.channel c).result =
            some (.failed (if l.lastRefuse = some .range then .range else .noHolder)) ∧
          (u.channel c).window = none ∧ u.rlc.control = [] ∧
          u.ste.counters = { s.ste.counters with failed := min 65535 (s.ste.counters.failed + 1) } ∧
          (∀ d < 6, d ≠ c → u.channel d = s.channel d) ∧
          u.picture = v.picture ∧ u.zones = s.zones ∧ u.peers = v.peers)) ∧
    (∀ p : List Byte, (p.length ≠ 2 ∨ byteAt p 1 = 0 ∨ 5 < byteAt p 1 ∨ s.channelOfTag (byteAt p 0) = none ∨
        (∃ c, s.channelOfTag (byteAt p 0) = some c ∧ ((s.channel c).currentPeer ≠ some x.toNat ∨
          (s.channel c).isRemote = false ∨ (s.channel c).result ≠ none))) →
      exec (.sheetRefuse x dest p) s = .next (settle s (v.countTransfers fun n =>
        { n with strayRefuses := min 65535 (n.strayRefuses + 1) }))) ∧
    (∀ (tag : Byte) (c : Nat), s.serviceOf x.toNat tag.toNat = some c →
      ∃ u, exec (.sheetCancel x dest [tag]) s = .next (settle s u) ∧ ChannelClosed c v u) ∧
    (∀ p : List Byte, (p.length ≠ 1 ∨ s.serviceOf x.toNat (byteAt p 0) = none) →
      exec (.sheetCancel x dest p) s = .next (settle s (v.countTransfers fun n =>
        { n with strayCancels := min 65535 (n.strayCancels + 1) }))) ∧
    (∀ p : List Byte, sheetTileGood p = true ↔ p.length = 270 ∧ byteAt p 2 ≤ 5 ∧ 1 ≤ halfAt p 3 ∧ 1 ≤ halfAt p 7 ∧
      halfAt p 7 ≤ 1024 ∧ halfAt p 5 < halfAt p 7 ∧ byteAt p 13 ≤ 1) ∧
    (∀ p : List Byte, ∃ t,
      FrameHeard .bulk x.toNat (decide (byteAt p 13 = 1) && s.rlc.alarmPending && !s.rlc.blocks.any) s t ∧
      (∀ (c b : Nat) (rest : List Nat) (w : Nat × Nat), sheetTileGood p = true →
        s.channelOfTag (byteAt p 0) = some c → ((s.channel c).state = .request ∨ (s.channel c).state = .receive) →
        (s.channel c).result = none → (s.channel c).currentPeer = some x.toNat → (s.channel c).floor = byteAt p 1 →
        (s.channel c).kind = byteAt p 2 → ((s.channel c).pinned = 0 ∨ (s.channel c).pinned = halfAt p 3) →
        (s.channel c).window = some w → w.1 ≤ (s.channel c).fetch → (s.channel c).fetch ≤ w.2 →
        (s.channel c).fetch ≤ (s.channel c).curLast → (s.channel c).fetch = halfAt p 5 → s.emptyBuffers c = b :: rest →
        exec (.sheetTile x dest p) s = .next (settle s
          ((t.setBuffer b { holder := some c, state := .full (halfAt p 5) (p.drop 14) }).setChannel c
            { s.channel c with
              state := .receive, fetch := halfAt p 5 + 1, curLast := min (s.channel c).curLast (halfAt p 7 - 1),
              pinned := halfAt p 3, gapStrike := 0, responseTimer := none, busyWait := none,
              gapTimer :=
                if min w.2 (min (s.channel c).curLast (halfAt p 7 - 1)) ≤ halfAt p 5 then none else some s.clock }))) ∧
      (∀ (c n last : Nat) (w : Nat × Nat) (k : Channel) (z : State), sheetTileGood p = true →
        s.channelOfTag (byteAt p 0) = some c → k = s.channel c → k.state = .receive → k.result = none →
        k.currentPeer = some x.toNat → k.window = some w → w.1 ≤ k.fetch → k.fetch ≤ w.2 → k.fetch ≤ k.curLast →
        k.fetch < halfAt p 5 → s.rlc.blocks.any = false →
        z = crewClaim c (t.countTransfers fun n => { n with strayTiles := min 65535 (n.strayTiles + 1) }) →
        n = min 4 (z.emptyBuffers c).length → last = min (k.fetch + n - 1) k.curLast →
        (k.gapStrike = 0 → n = 0 →
          exec (.sheetTile x dest p) s = .next (settle s (z.setChannel c
            { k with gapStrike := 1, gapRequest := true, wantWindow := true }))) ∧
        (k.gapStrike = 0 → 1 ≤ n → s.rlc.control.length < 8 →
          exec (.sheetTile x dest p) s = .next (settle s ((z.setChannel c
            { k with
              gapStrike := 1, gapRequest := true, wantWindow := false, window := some (k.fetch, last),
              queueFullWait := none }).queueControl .sheetRequest x.toNat
                ([byte k.tag, byte k.floor, byte k.kind] ++ be16 k.pinned ++ be16 k.fetch ++ be16 last ++
                  [if k.fetch < last then 1#8 else 0#8]) (.request c true)))) ∧
        (∀ y, k.gapStrike ≠ 0 → 1 ≤ n → s.rlc.control = [] → k.candidates[k.position + 1]? = some (.peer y) →
          s.present y = true →
          ∃ u, exec (.sheetTile x dest p) s = .next (settle s u) ∧
            u.channel c = { k.stopped with
              state := .request, busyRetries := 0, gapStrike := 0, position := k.position + 1,
              window := some (k.fetch, last) } ∧
            u.rlc.control =
              [{ kind := .sheetCancel, dest := x.toNat, payload := [byte k.tag], submitter := .cancel,
                 withdrawn := false },
               { kind := .sheetRequest, dest := y, submitter := .request c false, withdrawn := false,
                 payload := [byte k.tag, byte k.floor, byte k.kind] ++ be16 k.pinned ++ be16 k.fetch ++ be16 last ++
                   [if k.fetch < last then 1#8 else 0#8] }] ∧
            (∀ d < 6, d ≠ c → u.channel d = s.channel d) ∧
            u.ste.counters = { s.ste.counters with
              strayTiles := min 65535 (s.ste.counters.strayTiles + 1) } ∧
            u.picture = t.picture ∧ u.zones = s.zones ∧ u.peers = t.peers)) ∧
      ((sheetTileGood p = false ∨ s.channelOfTag (byteAt p 0) = none ∨
          (∃ c, s.channelOfTag (byteAt p 0) = some c ∧ ((s.channel c).currentPeer ≠ some x.toNat ∨
            (s.channel c).isRemote = false ∨ (s.channel c).result ≠ none ∨ halfAt p 5 < (s.channel c).fetch))) →
        exec (.sheetTile x dest p) s = .next (settle s (t.countTransfers fun n =>
          { n with strayTiles := min 65535 (n.strayTiles + 1) }))))

/-- R46, R50, R62, R63, R67, R68, R69: a MARK ACK from a peer, heard, is placed on its entry, discarded, or rejected;
with the hearing it is one event (log 28), in which a floor's change number goes up at most once. The checks of R67, by
offset. -/
def Obligations.MarkAckTaken : Prop :=
  (∀ (x : Byte) (p : List Byte) (s : State), s.canTake x.toNat → ∃ v, FrameHeard .control x.toNat false s v ∧
    (∀ e, markGood x.toNat p = true → byteAt p 0 = 1 → e = s.entry (byteAt p 11) (byteAt p 12) → e.known = true →
      e.changeNumber = halfAt p 13 → (e.zstate = .alarm ∨ e.zstate = .clearing) → e.ack = none →
      ∃ u, exec (.markAck x 63#8 p) s = .next (settle s u) ∧
        u.entry (byteAt p 11) (byteAt p 12) = { v.entry (byteAt p 11) (byteAt p 12) with
          ack := some { label := trimText (slice p 1 8), station := x.toNat,
                        port := some (if byteAt p 10 = 1 then .a else .b), change := halfAt p 13 } } ∧
        (∀ o ≤ 62, ∀ l ≤ 15, (o, l) ≠ (byteAt p 11, byteAt p 12) → u.entry o l = v.entry o l) ∧
        (∀ f < 256, (u.floor f).changeNumber = (s.floor f).changeNumber ∨
          (u.floor f).changeNumber = ((s.floor f).changeNumber + 1) % 65536) ∧
        OnlyPicture v u ∧ u.zones = s.zones ∧ u.rlc.alarmPending = s.rlc.alarmPending ∧ u.marks = s.marks) ∧
    (∀ e, markGood x.toNat p = true → byteAt p 0 = 1 → e = s.entry (byteAt p 11) (byteAt p 12) →
      ¬(e.known = true ∧ e.changeNumber = halfAt p 13 ∧ (e.zstate = .alarm ∨ e.zstate = .clearing) ∧ e.ack = none) →
      exec (.markAck x 63#8 p) s = .next (settle s { v with
        marks := { s.marks with discarded := min 65535 (s.marks.discarded + 1) } })) ∧
    (markGood x.toNat p = false →
      exec (.markAck x 63#8 p) s = .next (settle s { v with
        marks := { s.marks with rejected := min 65535 (s.marks.rejected + 1) } }))) ∧
  ∀ (x : Nat) (p : List Byte), markGood x p = true ↔ p.length = 15 ∧
    (byteAt p 0 = 1 ∨ byteAt p 0 = 2 ∨ byteAt p 0 = 3) ∧
    (∀ n < 8, 0x20 ≤ byteAt p (1 + n) ∧ byteAt p (1 + n) ≤ 0x7E) ∧ (∃ n < 8, byteAt p (1 + n) ≠ 0x20) ∧
    byteAt p 9 = x ∧ (byteAt p 10 = 1 ∨ byteAt p 10 = 2) ∧
    (byteAt p 0 = 1 → 1 ≤ byteAt p 11 ∧ byteAt p 11 ≤ 62 ∧ byteAt p 12 ≤ 15) ∧
    (byteAt p 0 ≠ 1 → byteAt p 12 = 0 ∧ halfAt p 13 = 0)

/-- R41, R47, R67, R71, R72: a MARK ATTEND from a PRESENT peer changes the attendance list of its floor, or is rejected. From
any peer, a floor's summary change number goes up at most once, and exactly once when its list changes (R42, R62). -/
def Obligations.MarkAttendTaken : Prop :=
  ∀ (x : Byte) (p : List Byte) (s : State) (old : List Attendance) (who : Attendance),
    s.canTake x.toNat → old = (s.floor (byteAt p 11)).attendance →
    who = { label := trimText (slice p 1 8), station := x.toNat, port := if byteAt p 10 = 1 then .a else .b,
            time := s.clock } →
    (∀ v, (s.peer x.toNat).presence = .present → v = s.acceptedPresent .control x.toNat false →
      (markGood x.toNat p = true → byteAt p 0 = 2 →
        ∃ u, exec (.markAttendOn x 63#8 p) s = .next (settle s u) ∧
          (u.floor (byteAt p 11)).attendance =
            (if ∃ a ∈ old, a.station = who.station ∧ a.port = who.port then
               old.filter (fun a => !(decide (a.station = who.station) && decide (a.port = who.port))) ++ [who]
             else if old.length < 4 then old ++ [who] else old.drop 1 ++ [who]) ∧
          (u.floor (byteAt p 11)).label = (s.floor (byteAt p 11)).label ∧
          ((u.floor (byteAt p 11)).attendance ≠ old →
            (u.floor (byteAt p 11)).changeNumber = ((s.floor (byteAt p 11)).changeNumber + 1) % 65536) ∧
          (∀ f < 256, f ≠ byteAt p 11 → u.floor f = s.floor f) ∧ u.picture.entries = s.picture.entries ∧
          u.lasting.apartPicture = v.lasting.apartPicture ∧ u.zones = s.zones ∧ u.marks = s.marks) ∧
      (markGood x.toNat p = true → byteAt p 0 = 3 →
        ∃ u, exec (.markAttendOff x 63#8 p) s = .next (settle s u) ∧
          (u.floor (byteAt p 11)).attendance =
            old.filter (fun a => !(decide (a.station = who.station) && decide (a.port = who.port))) ∧
          (u.floor (byteAt p 11)).label = (s.floor (byteAt p 11)).label ∧
          ((u.floor (byteAt p 11)).attendance ≠ old →
            (u.floor (byteAt p 11)).changeNumber = ((s.floor (byteAt p 11)).changeNumber + 1) % 65536) ∧
          ((u.floor (byteAt p 11)).attendance = old → u = v) ∧
          (∀ f < 256, f ≠ byteAt p 11 → u.floor f = s.floor f) ∧ u.picture.entries = s.picture.entries ∧
          u.lasting.apartPicture = v.lasting.apartPicture ∧ u.zones = s.zones ∧ u.marks = s.marks) ∧
      (∀ c, c = Instr.markAttendOn x 63#8 p ∨ c = .markAttendOff x 63#8 p → markGood x.toNat p = false →
        exec c s = .next (settle s { v with
          marks := { s.marks with rejected := min 65535 (s.marks.rejected + 1) } }))) ∧
    (∀ c, (c = Instr.markAttendOn x 63#8 p ∧ byteAt p 0 = 2) ∨ (c = .markAttendOff x 63#8 p ∧ byteAt p 0 = 3) →
      markGood x.toNat p = true →
      ∃ u, exec c s = .next (settle s u) ∧
        u.peer x.toNat = { s.peer x.toNat with
          presence := .present, silence := some s.clock, framesHeard := min 65535 ((s.peer x.toNat).framesHeard + 1) } ∧
        (u.floor (byteAt p 11)).attendance =
          (if byteAt p 0 = 3 then
             old.filter (fun a => !(decide (a.station = who.station) && decide (a.port = who.port)))
           else if ∃ a ∈ old, a.station = who.station ∧ a.port = who.port then
             old.filter (fun a => !(decide (a.station = who.station) && decide (a.port = who.port))) ++ [who]
           else if old.length < 4 then old ++ [who] else old.drop 1 ++ [who]) ∧
        ((u.floor (byteAt p 11)).attendance ≠ old →
          (u.floor (byteAt p 11)).changeNumber = ((s.floor (byteAt p 11)).changeNumber + 1) % 65536) ∧
        (∀ f < 256, (f ≠ byteAt p 11 → (u.floor f).attendance = (s.floor f).attendance) ∧
          ((u.floor f).changeNumber = (s.floor f).changeNumber ∨
            (u.floor f).changeNumber = ((s.floor f).changeNumber + 1) % 65536)) ∧
        u.marks = s.marks)

/-- R34, R40, R52, R59, R142: a peer not heard for 6000 ms is LOST. -/
def Obligations.SilenceLosesPeer : Prop :=
  ∀ (x : BitVec 6) (s : State) (begun : Nat), SummaryLaw s → s.held = false → s.isPeer x.toNat = true →
    (s.peer x.toNat).presence = .present → (s.peer x.toNat).silence = some begun → 6000 ≤ s.clock - begun →
    ∃ u, exec (.silenceTimerExpiry x) s = .next (settle s u) ∧
      u.peer x.toNat = { s.peer x.toNat with presence := .lost, silence := none } ∧
      (∀ y ≤ 62, y ≠ x.toNat → u.peer y = s.peer y) ∧
      (∀ l ≤ 15, u.entry x.toNat l =
        { s.entry x.toNat l with stale := (s.entry x.toNat l).stale || (s.entry x.toNat l).known }) ∧
      (∀ o ≤ 62, o ≠ x.toNat → ∀ l ≤ 15, u.entry o l = s.entry o l) ∧
      (∀ f < 256, u.holderRow f = rowFrom u.allClaims f) ∧ u.holders.own = s.holders.own ∧ LabelsFollow none s u ∧
      (∀ p, (s.port p).attached = true → (s.notices p).queue.length < 32 →
        ∃ r, (u.notices p).find { level := 4, subject := .station x.toNat } = some r ∧ r.detail = 1) ∧
      (∀ c < 6, ¬((u.channel c).state = .serve ∧ (u.channel c).requester.1 = x.toNat)) ∧
      (∀ f < 256, (u.floor f).attendance = (s.floor f).attendance) ∧
      u.zones = s.zones ∧ u.store.memory = s.store.memory ∧ u.marks = s.marks ∧ u.clock = s.clock ∧
      u.portA = s.portA ∧ u.portB = s.portB ∧ u.pending = s.pending

/-! ## The plan store -/

/-- R109, R110, R111, R126, R141: the end of a tile read: delivered in time, good or BAD, or not within 1 ms; and the
buffer of a withdrawn one. The model's choices: the row comes at any moment, past the 1 ms as a timeout (log 11); the
next access begins before the channel acts (log 14); a tile past the store's end, which no record that R105 accepts has,
is the model's own fault (NOTES, Stops). R126: when a remote path remains. -/
def Obligations.TileReadsEnd : Prop :=
  (∀ (s : State) (k : Channel) (rest : List Source),
    ((Source.self ∉ k.candidates ∧ rest = k.candidates) ∨
      ∃ before, k.candidates = before ++ .self :: rest ∧ Source.self ∉ before) →
    (s.remotePath k = true ↔ s.rlc.blocks.any = false ∧ ∃ a, Source.peer a ∈ rest ∧ 1 ≤ a ∧ a ≤ 62 ∧ a ≠ s.address ∧
      (s.peer a).presence = .present)) ∧
  ∀ (s : State) (r : TileRead) (begun : Nat) (d : Bool) (bytes : List Byte), s.held = false →
    s.store.access = .tile r begun d → bytes = s.store.memory.readRange (r.record.location + 258 * r.tile) 258 →
    (s.clock - begun ≤ 1 → 67108864 < r.record.location + 258 * r.tile + 258 →
      exec .tileReadEnd s = .fault (.beyondStore (r.record.location + 258 * r.tile))) ∧
    (∀ (cmd : Instr) (good : Bool) (z : State),
      ((cmd = .tileReadEnd ∧ s.clock - begun ≤ 1 ∧ r.record.location + 258 * r.tile + 258 ≤ 67108864 ∧
          (((crc16 (bytes.take 256)).toNat = halfAt bytes 256 ∧ good = true ∧
              z = { s with
                store := { s.store with tilesOk := min 65535 (s.store.tilesOk + 1), access := .free } }) ∨
            ((crc16 (bytes.take 256)).toNat ≠ halfAt bytes 256 ∧ good = false ∧
              z = { s with
                store := { s.store with tilesBad := min 65535 (s.store.tilesBad + 1), access := .free } }))) ∨
        (((cmd = .tileReadEnd ∧ 1 < s.clock - begun) ∨ (cmd = .tileReadTimeout ∧ 1 ≤ s.clock - begun)) ∧
          good = false ∧
          z = { s with
            store := { s.store with timeouts := min 65535 (s.store.timeouts + 1), access := .free } })) →
      (d = false → good = true →
        exec cmd s = .next (settle s ((beginAccess z).setBuffer r.buffer
          { holder := (s.buffer r.buffer).holder, state := .full r.tile (bytes.take 256) }))) ∧
      (d = false → good = false → (s.channel r.channel).state = .localStore →
        s.remotePath (s.channel r.channel) = false →
        exec cmd s = .next (settle s (((beginAccess z).setBuffer r.buffer
          { holder := (s.buffer r.buffer).holder, state := .empty }).setChannel r.channel
            { s.channel r.channel with missingDue := (s.channel r.channel).missingDue ++ [r.tile] }))) ∧
      (∀ rest, d = false → good = false → (s.channel r.channel).state = .localStore →
        (s.channel r.channel).candidates = .self :: rest → Source.self ∉ rest →
        s.remotePath (s.channel r.channel) = true →
        ∃ u a, exec cmd s = .next (settle s u) ∧ (u.channel r.channel).state = .request ∧
          (u.channel r.channel).currentPeer = some a ∧ s.present a = true ∧
          (∃ before after, rest = before ++ .peer a :: after ∧ ∀ y, .peer y ∈ before → s.present y = false) ∧
          (u.channel r.channel).fetch = r.tile ∧
          (u.channel r.channel).record = (s.channel r.channel).record ∧
          (u.channel r.channel).pinned = (s.channel r.channel).pinned ∧ u.readList r.channel = [] ∧
          u.store.tilesBad = z.store.tilesBad ∧ u.store.timeouts = z.store.timeouts) ∧
      (d = false → good = false → (s.channel r.channel).state = .serve →
        ∃ u, exec cmd s = .next (settle s u) ∧ u.channel r.channel = Channel.freed ∧
          u.ste.counters.serveRefuses = min 65535 (s.ste.counters.serveRefuses + 1) ∧
          u.store.tilesBad = z.store.tilesBad ∧ u.store.timeouts = z.store.timeouts ∧
          (∀ x tag, (s.channel r.channel).owner = .peer x tag → s.rlc.blocks.any = false → s.rlc.control.length < 8 →
            u.rlc.control = s.rlc.control ++
              [{ kind := .sheetRefuse, dest := x, payload := [byte tag, 4#8], submitter := .refuse,
                 withdrawn := false }])) ∧
      (d = true →
        ((s.buffer r.buffer).holder = none → exec cmd s = .next (settle s (beginAccess z))) ∧
        (∀ c k, (s.buffer r.buffer).holder = some c → k = s.channel c →
          exec cmd s = .next (settle s ((beginAccess z).setBuffer r.buffer
            (if k.state = .free ∨ (k.state = .serve ∧ k.burstMode = false ∧ 1 < s.heldBy c) then
              { holder := none, state := .empty }
            else { holder := some c, state := .empty })))) ∧
        (beginAccess z).ste = s.ste) ∧
      (beginAccess z).ste = s.ste ∧ (beginAccess z).store.memory = s.store.memory ∧
      (∀ op w, s.store.waiting = some (op, w) →
        beginAccess z = { z with store := { z.store with access := op.begin s.clock w, waiting := none } }) ∧
      (s.store.waiting = none →
        ((∀ c < 6, s.readList c = []) → beginAccess z = z) ∧
        (∀ k < 6, ∀ c q rest, c = (s.store.rotation + 1 + k) % 6 → s.readList c = q :: rest → q.channel = c →
          q.tile < q.record.tileCount → (∀ j < k, s.readList ((s.store.rotation + 1 + j) % 6) = []) →
          (beginAccess z).store.access = .tile q s.clock false ∧ (beginAccess z).store.rotation = c ∧
          (beginAccess z).readList c = rest ∧ ∀ e < 6, e ≠ c → (beginAccess z).readList e = s.readList e)))

/-- R112, R113, R114, R115, R149, R151: the STORE requests taken at once from port A: accepted, refused RANGE or BUSY; and
UNKNOWN outside maintenance mode or from port B. A STORE WRITE without data or with more than 256 bytes is refused FORMAT by
the dispatch (R151), before R113 would refuse it RANGE: that order is the model's reading (log 15). -/
def Obligations.StoreRequestsTaken : Prop :=
  ∀ (p : Port) (offset : BitVec 32) (data : List Byte) (block : Half) (s : State), Ready p s → data.length ≤ 295 →
    ((s.maintenance = false ∨ p = .b) →
      exec (.storeWrite p offset data) s =
        .next (settle s ((s.hunting p).answer p [[0x10#8, 0x40#8, 1#8, 1#8]])) ∧
      exec (.storeErase p block) s = .next (settle s ((s.hunting p).answer p [[0x11#8, 0x40#8, 1#8, 1#8]])) ∧
      exec (.storeCheck p) s = .next (settle s ((s.hunting p).answer p [[0x12#8, 0x40#8, 1#8, 1#8]]))) ∧
    (s.maintenance = true → p = .a →
      ((data = [] ∨ 256 < data.length) →
        exec (.storeWrite p offset data) s = .next (settle s ((s.hunting p).answer p
          [[0x10#8, 0x41#8, 1#8, 1#8]]))) ∧
      (1 ≤ data.length → data.length ≤ 256 →
        (67108864 < offset.toNat + data.length ∨ 256 < offset.toNat % 256 + data.length) →
        exec (.storeWrite p offset data) s =
          .next (settle s ((s.hunting p).answer p [[0x10#8, 0x4D#8, 1#8, 1#8]]))) ∧
      (1024 ≤ block.toNat →
        exec (.storeErase p block) s = .next (settle s ((s.hunting p).answer p [[0x11#8, 0x4D#8, 1#8, 1#8]]))) ∧
      (s.store.maintBusy = true →
        (1 ≤ data.length → offset.toNat + data.length ≤ 67108864 → offset.toNat % 256 + data.length ≤ 256 →
          exec (.storeWrite p offset data) s =
            .next (settle s ((s.hunting p).answer p [[0x10#8, 0x48#8, 1#8, 1#8]]))) ∧
        (block.toNat ≤ 1023 →
          exec (.storeErase p block) s = .next (settle s ((s.hunting p).answer p [[0x11#8, 0x48#8, 1#8, 1#8]]))) ∧
        exec (.storeCheck p) s = .next (settle s ((s.hunting p).answer p [[0x12#8, 0x48#8, 1#8, 1#8]]))) ∧
      (s.store.maintBusy = false →
        (1 ≤ data.length → offset.toNat + data.length ≤ 67108864 → offset.toNat % 256 + data.length ≤ 256 →
          exec (.storeWrite p offset data) s = .next (settle s { s.hunting p with
            store := { s.store with waiting := some (.write offset.toNat data, false) } })) ∧
        (block.toNat ≤ 1023 →
          exec (.storeErase p block) s = .next (settle s { s.hunting p with
            store := { s.store with waiting := some (.erase block.toNat, false) } })) ∧
        exec (.storeCheck p) s = .next (settle s { s.hunting p with
          store := { s.store with waiting := some (.check, false) } }))) ∧
    (s.store.maintBusy = true ↔ s.store.waiting.isSome = true ∨
      (∃ o d b w, s.store.access = .write o d b w) ∨ (∃ k b w, s.store.access = .erase k b w) ∨
      ∃ n x b w, s.store.access = .check n x b w)

/-- R113, R114: the ends of a STORE WRITE and a STORE ERASE: every byte of the store afterwards, and the response in port
A's store result slot; discarded after a port reset (R112), the store holds the same. The model's choices: the rows come at
any moment, past the time given as a fault (log 11); a completed write has programmed every bit it could (log 23); what an
operation not completed has left is the free value (log 4); a response joins the slot behind any that waits (log 18). -/
def Obligations.StoreOperationsEnd : Prop :=
  ∀ (s : State) (begun : Nat) (discard : Bool), s.held = false → MemoryLaw s →
    (∀ offset data m, s.store.access = .write offset data begun discard → offset + data.length ≤ 67108864 →
      m = s.store.memory.program offset data →
      (∀ a, m.read a =
        if offset ≤ a ∧ a < offset + data.length then s.store.memory.read a &&& data.getD (a - offset) 0#8
        else s.store.memory.read a) ∧
      (s.clock - begun ≤ 5 → discard = true →
        exec .storeWriteDone s = .next (settle s { s with store := { s.store with memory := m, access := .free } })) ∧
      (s.clock - begun ≤ 5 → discard = false → (∀ i < data.length, m.read (offset + i) = data.getD i 0#8) →
        exec .storeWriteDone s = .next (settle s
          ({ s with store := { s.store with memory := m, access := .free } }.storeAnswer [0x10#8, 0x07#8, 1#8, 1#8]))) ∧
      (s.clock - begun ≤ 5 → discard = false → ∀ i < data.length, m.read (offset + i) ≠ data.getD i 0#8 →
        (∀ j < i, m.read (offset + j) = data.getD j 0#8) →
        exec .storeWriteDone s = .next (settle s
          ({ s with store := { s.store with memory := m, access := .free } }.storeAnswer
            ([0x10#8, 0x4E#8, 1#8, 1#8] ++ be32 (offset + i))))) ∧
      (∀ cmd, (cmd = .storeWriteTimeout ∧ 5 ≤ s.clock - begun) ∨ (cmd = .storeWriteDone ∧ 5 < s.clock - begun) →
        ∃ left v, v = { s with store := { s.store with memory := left, access := .free }, draws := s.draws + 1 } ∧
        exec cmd s = .next (settle s (if discard then v else v.storeAnswer [0x10#8, 0x4F#8, 1#8, 1#8])) ∧
        ∀ a, left.read a =
          if offset ≤ a ∧ a < offset + data.length then
            s.store.memory.read a &&& (data.getD (a - offset) 0#8 ||| Config.flashResidue s.draws a)
          else s.store.memory.read a)) ∧
    (∀ block, s.store.access = .erase block begun discard →
      (s.clock - begun ≤ 2000 →
        ∃ m, exec .storeEraseDone s = .next (settle s
          (if discard then { s with store := { s.store with memory := m, access := .free } }
           else { s with store := { s.store with memory := m, access := .free } }.storeAnswer
             [0x11#8, 0x08#8, 1#8, 1#8])) ∧
        ∀ a, m.read a =
          if 65536 * block ≤ a ∧ a < 65536 * block + 65536 then 0xFF#8 else s.store.memory.read a) ∧
      (∀ cmd, (cmd = .storeEraseTimeout ∧ 2000 ≤ s.clock - begun) ∨ (cmd = .storeEraseDone ∧ 2000 < s.clock - begun) →
        ∃ m v, v = { s with store := { s.store with memory := m, access := .free }, draws := s.draws + 1 } ∧
        exec cmd s = .next (settle s (if discard then v else v.storeAnswer [0x11#8, 0x4F#8, 1#8, 1#8])) ∧
        ∀ a, m.read a =
          if 65536 * block ≤ a ∧ a < 65536 * block + 65536 ∧ a < 67108864 then Config.flashResidue s.draws a
          else s.store.memory.read a))

/-- R103, R115: a STORE CHECK reads header and slots again (R104, R105 as at start-up) and answers with what it found,
changing nothing the store-ready event fixed. A row that comes later than a read's 1 ms is a failed read (log 11), and the
answer joins port A's store result slot behind any that waits there (log 18). -/
def Obligations.StoreCheckReadsAgain : Prop :=
  ∀ (s : State) (x : StoreScan) (begun : Nat) (discard : Bool), s.held = false →
    let failed := { x with counts := { x.counts with badCheck := x.counts.badCheck + 1 } }
    (s.store.access = .check none x begun discard →
      (s.clock - begun ≤ 1 →
        exec .storeCheckReadDone s = .next (settle s { s with
          store := { s.store with
            access := .check (some 0) { x with header := scanHeader (some (s.store.memory.readRange 0 207)) } s.clock
              discard } })) ∧
      (1 < s.clock - begun →
        exec .storeCheckReadDone s = .next (settle s { s with
          store := { s.store with access := .check (some 0) { x with header := none } s.clock discard } })) ∧
      (1 ≤ s.clock - begun →
        exec .storeCheckReadTimeout s = .next (settle s { s with
          store := { s.store with access := .check (some 0) { x with header := none } s.clock discard } }))) ∧
    (∀ n < 95, s.store.access = .check (some n) x begun discard →
      (s.clock - begun ≤ 1 →
        exec .storeCheckReadDone s = .next (settle s { s with
          store := { s.store with
            access := .check (some (n + 1)) (x.takeSlot (some (s.store.memory.readRange (4096 + 40 * n) 40))) s.clock
              discard } })) ∧
      (1 < s.clock - begun →
        exec .storeCheckReadDone s = .next (settle s { s with
          store := { s.store with access := .check (some (n + 1)) failed s.clock discard } })) ∧
      (1 ≤ s.clock - begun →
        exec .storeCheckReadTimeout s = .next (settle s { s with
          store := { s.store with access := .check (some (n + 1)) failed s.clock discard } }))) ∧
    (∀ y cmd, s.store.access = .check (some 95) x begun discard →
      ((cmd = .storeCheckReadDone ∧ s.clock - begun ≤ 1 ∧
          y = x.takeSlot (some (s.store.memory.readRange 7896 40))) ∨
        (((cmd = .storeCheckReadDone ∧ 1 < s.clock - begun) ∨ (cmd = .storeCheckReadTimeout ∧ 1 ≤ s.clock - begun)) ∧
          y = failed)) →
      (discard = false →
        exec cmd s = .next (settle s
          ({ s with store := { s.store with access := .free } }.storeAnswer
            ([0x12#8, 0x09#8, 1#8, 1#8] ++
              (match y.header with
                | none => 0#8 :: List.replicate 16 0x20#8 ++ [0#8, 0#8, 0#8]
                | some h =>
                  1#8 :: padTo 16 h.name ++ [byte h.firstFloor, byte h.floorCount, byte h.replicas.length]) ++
              [byte y.counts.accepted, byte y.counts.badCheck, byte y.counts.outOfRange, byte y.counts.beyond,
                byte y.counts.duplicate])))) ∧
      (discard = true →
        exec cmd s = .next (settle s { s with store := { s.store with access := .free } })))

/-! ## Sheet transfers -/

/-- R119, R122, R123, R124, R127: a SHEET request taken at once: refused with nothing changed, refused with the tag step kept,
accepted from the local store, or accepted from a PRESENT holder with its window requested. -/
def Obligations.SheetRequestTaken : Prop :=
  ∀ (p : Port) (floor kind : Byte) (first last revision : Half) (s h : State), Ready p s → h = s.hunting p →
    let cmd := Instr.sheet p floor kind first last revision
    let cands := s.candidates floor.toNat kind.toNat
    let tagged := { h with ste := { h.ste with tagCounter := s.nextTag } }
    ((s.port p).label = none → exec cmd s = .next (settle s (h.answer p [[0x06#8, 0x42#8, 1#8, 1#8]]))) ∧
    ((s.port p).label ≠ none → last.toNat < first.toNat →
      exec cmd s = .next (settle s (h.answer p [[0x06#8, 0x4A#8, 1#8, 1#8]]))) ∧
    ((s.port p).label ≠ none → first.toNat ≤ last.toNat →
      ((s.freeChannel = none ∨ 3 ≤ (s.channelsOf p).length) →
        exec cmd s = .next (settle s (h.answer p [[0x06#8, 0x48#8, 1#8, 1#8]]))) ∧
      (∀ c, s.freeChannel = some c → (s.channelsOf p).length < 3 →
        (cands = [] → exec cmd s = .next (settle s (h.answer p [[0x06#8, 0x49#8, 1#8, 1#8]]))) ∧
        (cands ≠ [] → s.rlc.blocks.any = true →
          (cands.head? ≠ some .self ∨ s.lookup floor.toNat kind.toNat revision.toNat = none) →
          exec cmd s = .next (settle s (h.answer p [[0x06#8, 0x43#8, 1#8, 1#8]]))) ∧
        (cands ≠ [] → s.rlc.blocks.any = false → (∀ a, .peer a ∈ cands → s.present a = false) →
          s.lookup floor.toNat kind.toNat revision.toNat = none →
          exec cmd s = .next (settle s (tagged.answer p [[0x06#8, 0x49#8, 1#8, 1#8]]))) ∧
        (∀ rest r, cands = .self :: rest → s.lookup floor.toNat kind.toNat revision.toNat = some r →
          (r.tileCount ≤ first.toNat →
            exec cmd s = .next (settle s (tagged.answer p [[0x06#8, 0x4A#8, 1#8, 1#8]]))) ∧
          (first.toNat < r.tileCount →
            exec cmd s = .next (settle s ((claimBuffers c (claimable 0 s.freeBuffers) (tagged.setChannel c
              { Channel.freed with
                state := .localStore, owner := .port p, floor := floor.toNat, kind := kind.toNat, record := some r,
                pinned := if revision.toNat = 0 then r.revision else revision.toNat,
                origFirst := first.toNat, origLast := last.toNat, curFirst := first.toNat,
                curLast := min last.toNat (r.tileCount - 1), nextTile := first.toNat, fetch := first.toNat,
                candidates := cands, tag := s.nextTag })).answer p
              [[0x06#8, 0x01#8, 1#8, 1#8, byte c, byte s.nextTag]])))) ∧
        (∀ a rest n, cands = .peer a :: rest → s.present a = true → s.rlc.blocks.any = false →
          s.rlc.control.length < 8 → n = claimable 0 s.freeBuffers →
          (n = 0 → exec cmd s = .next (settle s ((tagged.setChannel c
            { Channel.freed with
              state := .request, owner := .port p, floor := floor.toNat, kind := kind.toNat, pinned := revision.toNat,
              origFirst := first.toNat, origLast := last.toNat, curFirst := first.toNat, curLast := last.toNat,
              nextTile := first.toNat, fetch := first.toNat, candidates := cands, tag := s.nextTag,
              wantWindow := true }).answer p [[0x06#8, 0x01#8, 1#8, 1#8, byte c, byte s.nextTag]]))) ∧
          (1 ≤ n → exec cmd s = .next (settle s (((claimBuffers c n (tagged.setChannel c
            { Channel.freed with
              state := .request, owner := .port p, floor := floor.toNat, kind := kind.toNat, pinned := revision.toNat,
              origFirst := first.toNat, origLast := last.toNat, curFirst := first.toNat, curLast := last.toNat,
              nextTile := first.toNat, fetch := first.toNat, candidates := cands, tag := s.nextTag,
              window := some (first.toNat, min (first.toNat + n - 1) last.toNat) })).queueControl .sheetRequest a
                ([byte s.nextTag, floor, kind] ++ be16 revision.toNat ++ be16 first.toNat ++
                  be16 (min (first.toNat + n - 1) last.toNat) ++
                  [if first.toNat < min (first.toNat + n - 1) last.toNat then 1#8 else 0#8])
                (.request c false)).answer p [[0x06#8, 0x01#8, 1#8, 1#8, byte c, byte s.nextTag]]))))))

/-- R121, R124, R127, R128, R130, R132 to R134, R136, R143, R167: the expiries that move a fetching channel on: a request
submitted again, a new window request to the same holder, the move to the next candidate with a SHEET CANCEL to the one left,
and at the end of the list the local fallback, the restart or the end FAILED. A restart keeps the last refuse recorded
(log 19). -/
def Obligations.ChannelTimersExpire : Prop :=
  ∀ (c : Fin 6) (s v : State) (k : Channel) (a begun n : Nat), s.held = false → k = s.channel c.val → k.isRemote = true →
    k.result = none → k.fetch ≤ k.curLast → k.currentPeer = some a → s.rlc.blocks.any = false →
    v = crewClaim c.val s → n = min 4 (v.emptyBuffers c.val).length →
    let payload := fun (x y : Nat) =>
      [byte k.tag, byte k.floor, byte k.kind] ++ be16 k.pinned ++ be16 x ++ be16 y ++ [if x < y then 1#8 else 0#8]
    let last := min (k.fetch + n - 1) k.curLast
    (∀ w, k.queueFullWait = some begun → 20 ≤ s.clock - begun → k.window = some w →
      (s.rlc.control.length < 8 →
        exec (.queueFullRetry c) s = .next (settle s ((s.setChannel c.val { k with queueFullWait := none }).queueControl
          .sheetRequest a (payload w.1 w.2) (.request c.val k.gapRequest)))) ∧
      (8 ≤ s.rlc.control.length →
        exec (.queueFullRetry c) s = .next (settle s ((s.setChannel c.val
          { k with queueFullWait := some s.clock }).countTransfers fun m =>
            { m with controlNotSent := min 65535 (m.controlNotSent + 1) })))) ∧
    (k.busyWait = some begun → 100 ≤ s.clock - begun →
      (1 ≤ n → s.rlc.control.length < 8 →
        exec (.busyRetry c) s = .next (settle s ((v.setChannel c.val
          { k with
            busyWait := none, wantWindow := false, window := some (k.fetch, last),
            queueFullWait := none }).queueControl .sheetRequest a (payload k.fetch last)
              (.request c.val k.gapRequest)))) ∧
      (n = 0 →
        exec (.busyRetry c) s = .next (settle s (v.setChannel c.val { k with busyWait := none, wantWindow := true })))) ∧
    (∀ w, k.gapTimer = some begun → 100 ≤ s.clock - begun → k.state = .receive → k.gapStrike = 0 → k.window = some w →
      w.1 ≤ k.fetch → k.fetch ≤ w.2 → 1 ≤ n → s.rlc.control.length < 8 →
      exec (.gapTimerExpiry c) s = .next (settle s ((v.setChannel c.val
        { k with
          gapTimer := none, gapStrike := 1, gapRequest := true, wantWindow := false, window := some (k.fetch, last),
          queueFullWait := none }).queueControl .sheetRequest a (payload k.fetch last) (.request c.val true)))) ∧
    (∀ y, k.responseTimer = some begun → 60 ≤ s.clock - begun → s.present a = true →
      k.candidates[k.position + 1]? = some (.peer y) → s.present y = true → 1 ≤ n → s.rlc.control = [] →
      ∃ u, exec (.responseTimerExpiry c) s = .next (settle s u) ∧
        u.channel c.val = { k.stopped with
          state := .request, busyRetries := 0, gapStrike := 0, position := k.position + 1,
          window := some (k.fetch, last) } ∧
        u.rlc.control =
          [{ kind := .sheetCancel, dest := a, payload := [byte k.tag], submitter := .cancel, withdrawn := false },
           { kind := .sheetRequest, dest := y, payload := payload k.fetch last,
             submitter := .request c.val false, withdrawn := false }] ∧
        (∀ d < 6, d ≠ c.val → u.channel d = s.channel d) ∧ u.ste.counters = s.ste.counters) ∧
    (∀ (r : SheetRecord) (later : List Source) (g : Channel) (left : State),
      k.responseTimer = some begun → 60 ≤ s.clock - begun → s.present a = true →
      k.candidates.length = k.position + 1 → s.rlc.control = [] → k.record = some r → r.revision = k.pinned →
      k.candidates = .self :: later →
      g = { k.stopped with
        busyRetries := 0, gapStrike := 0, window := none, missingDue := k.missingDue ++ [k.fetch], fetch := k.fetch + 1,
        position := 1 } →
      left = (s.setChannel c.val g).queueControl .sheetCancel a [byte k.tag] .cancel →
      (k.curFirst < r.tileCount →
        exec (.responseTimerExpiry c) s = .next (settle s
          (claimBuffers c.val (claimable (s.heldBy c.val) s.freeBuffers) (left.setChannel c.val
            { g with state := .localStore, curLast := min k.curLast (r.tileCount - 1) })))) ∧
      (r.tileCount ≤ k.curFirst →
        ∃ u, exec (.responseTimerExpiry c) s = .next (settle s u) ∧ TransferEnded c.val (.failed .range) left u)) ∧
    (k.responseTimer = some begun → 60 ≤ s.clock - begun → s.present a = true →
      k.candidates.length = k.position + 1 → s.rlc.control = [] →
      (∀ r, k.record = some r → r.revision ≠ k.pinned) → k.pinned ≠ 0 → k.restartUsed = false →
      ∃ w, TilesDropped c.val (s.queueControl .sheetCancel a [byte k.tag] .cancel) w ∧
        ∀ (g : Channel) (z : State),
          g = { k.stopped with
            busyRetries := 0, gapStrike := 0, window := none, restartUsed := true, pinned := 0, curFirst := k.origFirst,
            curLast := k.origLast, nextTile := k.origFirst, fetch := k.origFirst, record := none, missingDue := [],
            candidates := s.candidates k.floor k.kind, position := 0, restartOffer := some (k.delivered, k.missing),
            delivered := 0, missing := 0 } →
          z = (let counted := (w.setChannel c.val g).countTransfers fun m =>
                { m with restarts := min 65535 (m.restarts + 1) }
            match k.owner with
            | .port p => counted.notify p fun n => n.takeTransfer s.clock c.val
                { result := .restart, floor := k.floor, kind := k.kind, revision := 0, delivered := k.delivered,
                  missing := k.missing }
            | .nobody => counted
            | .peer _ _ => counted) →
          (g.candidates = [] →
            ∃ u, exec (.responseTimerExpiry c) s = .next (settle s u) ∧
              TransferEnded c.val (.failed .noHolder) z u) ∧
          (∀ later r, g.candidates = .self :: later → s.lookup k.floor k.kind 0 = some r → k.origFirst < r.tileCount →
            exec (.responseTimerExpiry c) s = .next (settle s
              (claimBuffers c.val (claimable (z.heldBy c.val) z.freeBuffers) (z.setChannel c.val
                { g with
                  state := .localStore, record := some r, pinned := r.revision,
                  curLast := min k.origLast (r.tileCount - 1) })))) ∧
          (∀ y later m end_ t, g.candidates = .peer y :: later → s.present y = true →
            t = claimBuffers c.val (claimable (z.heldBy c.val) z.freeBuffers) z →
            m = min 4 (t.emptyBuffers c.val).length → 1 ≤ m → end_ = min (k.origFirst + m - 1) k.origLast →
            exec (.responseTimerExpiry c) s = .next (settle s ((t.setChannel c.val
              { g with state := .request, window := some (k.origFirst, end_) }).queueControl .sheetRequest y
                ([byte k.tag, byte k.floor, byte k.kind] ++ be16 0 ++ be16 k.origFirst ++ be16 end_ ++
                  [if k.origFirst < end_ then 1#8 else 0#8]) (.request c.val false))))) ∧
    (∀ w, k.gapTimer = some begun → 100 ≤ s.clock - begun → k.state = .receive → k.gapStrike = 1 → k.window = some w →
      w.1 ≤ k.fetch → k.fetch ≤ w.2 → s.present a = true → k.candidates.length = k.position + 1 →
      (k.pinned = 0 ∨ k.restartUsed = true) →
      k.record = none → s.rlc.control = [] →
      ∃ u, exec (.gapTimerExpiry c) s = .next (settle s u) ∧
        (u.channel c.val).result =
          some (.failed (if k.lastRefuse = some .range then .range else .noHolder)) ∧
        (u.channel c.val).window = none ∧ (u.channel c.val).gapTimer = none ∧
        u.rlc.control =
          [{ kind := .sheetCancel, dest := a, payload := [byte k.tag], submitter := .cancel, withdrawn := false }] ∧
        u.ste.counters = { s.ste.counters with failed := min 65535 (s.ste.counters.failed + 1) } ∧
        (∀ d < 6, d ≠ c.val → u.channel d = s.channel d))

/-- R137, R151: a CANCEL of a channel the port owns frees it, with a SHEET CANCEL when it fetches; of any other it is refused
NOT_OWNER; before ATTACH it is refused NO_LABEL. -/
def Obligations.CancelFreesChannel : Prop :=
  ∀ (p : Port) (channel : Byte) (s h : State), Ready p s → h = s.hunting p →
    ((s.port p).attached = false →
      exec (.cancel p channel) s = .next (settle s (h.answer p [[0x07#8, 0x42#8, 1#8, 1#8]]))) ∧
    ((s.port p).attached = true → (5 < channel.toNat ∨ (s.channel channel.toNat).owner ≠ .port p) →
      exec (.cancel p channel) s = .next (settle s (h.answer p [[0x07#8, 0x4B#8, 1#8, 1#8]]))) ∧
    (∀ k c, (s.port p).attached = true → c = channel.toNat → c ≤ 5 → k = s.channel c → k.owner = .port p →
      ∃ u, exec (.cancel p channel) s = .next (settle s u) ∧ u.channel c = Channel.freed ∧ u.readList c = [] ∧
        (u.port p).responseSlot = [[0x07#8, 0x06#8, 1#8, 1#8, channel]] ∧
        (∀ b < 16, (s.buffer b).holder = some c → s.bufferBusy b = false →
          u.buffer b = { holder := none, state := .empty }) ∧
        (∀ d < 6, d ≠ c → u.channel d = s.channel d ∧ u.readList d = s.readList d) ∧
        (∀ a, k.isRemote = true → k.currentPeer = some a → s.rlc.blocks.any = false → s.rlc.control = [] →
          u.rlc.control =
            [{ kind := .sheetCancel, dest := a, payload := [byte k.tag], submitter := .cancel, withdrawn := false }]) ∧
        (k.isRemote = false → u.rlc.control = (s.rlc.withdrawRequests c).control) ∧
        u.notices .a = s.notices .a ∧ u.notices .b = s.notices .b ∧ u.zones = s.zones ∧ u.picture = s.picture ∧
        u.peers = s.peers ∧ u.holders = s.holders ∧ u.marks = s.marks ∧ u.store.memory = s.store.memory ∧
        (∀ q, q ≠ p → u.port q = s.port q) ∧ u.clock = s.clock ∧ u.pending = s.pending)

/-! ## Crew ports: the line -/

/-- R145, R146, R112: a break is a port reset; that the stream keeps its period is the model's choice (log 3). -/
def Obligations.BreakResetsPort : Prop :=
  ∀ (p : Port) (s : State), s.held = false → (s.port p).isOpen = true → (s.port p).breakHeld = false →
    ∃ u, exec (.breakDetected p) s = .next (settle s u) ∧ PortLeft p s u ∧
      u.port p =
        { isOpen := true, attached := false, label := none, breakHeld := true, receiving := false, buffer := [],
          flags := { framing := false, overrun := false, badCheck := false, tooLong := false, breakSeen := true },
          responseSlot := [], storeSlot := [], storeAhead := 0, sending := none, rotation := 5,
          stream := { isOn := false, period := (s.port p).stream.period, cursor := 0, passOpen := false,
                      start := (s.port p).stream.start } } ∧
      u.store.waiting = (if p = .a then s.store.waiting.map fun w => (w.1, true) else s.store.waiting) ∧
      (∀ o d b w, s.store.access = .write o d b w → u.store.access = .write o d b (w || decide (p = .a))) ∧
      (∀ k b w, s.store.access = .erase k b w → u.store.access = .erase k b (w || decide (p = .a))) ∧
      (∀ n x b w, s.store.access = .check n x b w → u.store.access = .check n x b (w || decide (p = .a)))

/-- R144, R145, R148: what the receiver of a port discards, and the line's return: FRAMING, TOO_LONG, or nothing on a closed
port or a line held low. R149, R151: a whole message: discarded for its check or its length, taken as the request it is,
kept waiting while the response slot is in use, or discarded with OVERRUN; a request of unknown kind is answered UNKNOWN.
That a request's row stands for the complete request arriving is the model's choice (log 10). -/
def Obligations.PortReceives : Prop :=
  (∀ (p : Port) (length : Half) (s : State), s.held = false →
    let flagged := fun (f : ErrorFlags → ErrorFlags) =>
      s.modPort p fun q => { q with receiving := false, flags := f q.flags }
    (((s.port p).isOpen = false ∨ (s.port p).breakHeld = true) →
      exec (.receiveStall p) s = .next s ∧ exec (.crewByteFramingError p) s = .next s ∧
      exec (.crewLengthFieldFault p length) s = .next s) ∧
    ((s.port p).isOpen = true → (s.port p).breakHeld = false →
      exec (.receiveStall p) s = .next (flagged fun f => { f with framing := true }) ∧
      exec (.crewByteFramingError p) s = .next (flagged fun f => { f with framing := true }) ∧
      (length = 0#16 → exec (.crewLengthFieldFault p length) s = .next (flagged fun f => { f with framing := true })) ∧
      (300 < length.toNat →
        exec (.crewLengthFieldFault p length) s = .next (flagged fun f => { f with tooLong := true })) ∧
      (1 ≤ length.toNat → length.toNat ≤ 300 → exec (.crewLengthFieldFault p length) s = .next s)) ∧
    ((s.port p).isOpen = true →
      exec (.lineReturnedHigh p) s = .next (s.modPort p fun q => { q with breakHeld := false }))) ∧
  (∀ (p : Port) (kind : Byte) (body : List Byte) (check : Half) (s h : State), s.held = false → (s.port p).isOpen = true →
    (s.port p).breakHeld = false → h = s.hunting p →
    (body.length ≤ 299 → check ≠ crc16 (be16 (body.length + 1) ++ [kind] ++ body) →
      exec (.crewMessageReceived p kind body check) s = .next (settle s (h.modPort p fun q =>
        { q with flags := { q.flags with badCheck := true } }))) ∧
    (check = crc16 (be16 (body.length + 1) ++ [kind] ++ body) →
      exec (.crewMessageReceived p kind body check) s = exec (.unknown p kind body) s) ∧
    (300 ≤ body.length →
      exec (.unknown p kind body) s = .next (settle s (h.modPort p fun q =>
        { q with flags := { q.flags with tooLong := true } }))) ∧
    (body.length ≤ 299 → (s.port p).responseSlot ≠ [] →
      exec (.unknown p kind body) s = .next (settle s (h.modPort p fun q =>
        if q.buffer.length < 2 then { q with buffer := q.buffer ++ [{ kind := kind, body := body }] }
        else { q with flags := { q.flags with overrun := true } }))) ∧
    (body.length ≤ 299 → (s.port p).responseSlot = [] → (s.port p).buffer = [] →
      (kind = 0#8 ∨ kind = 0x0F#8 ∨ 0x12 < kind.toNat) →
      exec (.unknown p kind body) s = .next (settle s (h.answer p [[kind, 0x40#8, 1#8, 1#8]]))))

/-! ## Crew ports: requests -/

/-- R152, R175, R149: an ATTACH taken at once: refused FORMAT, a first one with its seed, or a new label. -/
def Obligations.AttachSeedsOrRelabels : Prop :=
  ∀ (p : Port) (body : List Byte) (s h : State) (label : Text) (reply : List Byte), Ready p s → body.length ≤ 299 →
    h = s.hunting p → label = trimText (body.take 8) →
    reply = [0x01#8, 0#8, 1#8, 1#8, byte s.address, if p = .a then 1#8 else 2#8] ++ padTo 8 label ++
      [byte s.condition.code, if s.noConfig then 1#8 else 0#8] →
    ((body = [] ∨ label = [] ∨ ∃ b ∈ body, b.toNat < 0x20 ∨ 0x7E < b.toNat) →
      exec (.attach p body) s = .next (settle s (h.answer p [[0x01#8, 0x41#8, 1#8, 1#8]]))) ∧
    (label ≠ [] → (∀ b ∈ body, 0x20 ≤ b.toNat ∧ b.toNat ≤ 0x7E) →
      ((s.port p).attached = true →
        exec (.attach p body) s = .next (settle s
          ((h.modPort p fun q => { q with label := some label }).answer p [reply]))) ∧
      ((s.port p).attached = false → (s.notices p).queue = [] →
        ∃ alarms : List (Nat × Nat), alarms.Nodup ∧
          (∀ o l, (o, l) ∈ alarms ↔ o ≤ 62 ∧ l ≤ 15 ∧ (s.entry o l).known = true ∧
            ((s.entry o l).ztype = .detector ∨ (s.entry o l).ztype = .callpoint ∨ (s.entry o l).ztype = .flow) ∧
            (s.entry o l).zstate = .alarm) ∧
          alarms.Pairwise (fun x y =>
            ((s.entry y.1 y.2).alarmAge s.clock).getD 0 < ((s.entry x.1 x.2).alarmAge s.clock).getD 0 ∨
            (((s.entry y.1 y.2).alarmAge s.clock).getD 0 = ((s.entry x.1 x.2).alarmAge s.clock).getD 0 ∧
              (x.1 < y.1 ∨ (x.1 = y.1 ∧ x.2 < y.2)))) ∧
          exec (.attach p body) s = .next (settle s
            (((h.modPort p fun q => { q with attached := true, label := some label }).modNotices p fun n =>
              { n with
                queue := (alarms.take 32).map fun x =>
                  { key := { level := 0, subject := .zone x.1 x.2 }, time := s.clock, events := 1, detail := 0,
                    outcome := none } }).answer p [reply]))))

/-- R74, R138, R151, R153, R163: a DETACH taken at once. -/
def Obligations.DetachLeavesPort : Prop :=
  ∀ (p : Port) (s : State), Ready p s →
    ((s.port p).attached = false →
      exec (.detach p) s = .next (settle s ((s.hunting p).answer p [[0x02#8, 0x42#8, 1#8, 1#8]]))) ∧
    ((s.port p).attached = true →
      ∃ u, exec (.detach p) s = .next (settle s u) ∧ PortLeft p s u ∧
        (u.port p).responseSlot = [[0x02#8, 0#8, 1#8, 1#8]] ∧ (u.port p).flags = (s.port p).flags ∧
        (u.port p).buffer = [] ∧ (u.port p).stream = (s.port p).stream ∧ (u.port p).storeSlot = (s.port p).storeSlot ∧
        (u.port p).rotation = (s.port p).rotation ∧ ((u.port p).sending = none ↔ (s.port p).sending = none) ∧
        u.store.waiting = s.store.waiting)

/-- R154: a PICTURE request taken at once: the summaries of a run of at most 16 floors. -/
def Obligations.PictureGivesSummaries : Prop :=
  ∀ (p : Port) (first last : Byte) (s h : State) (used : Nat), Ready p s → h = s.hunting p →
    used = min last.toNat (first.toNat + 15) →
    (last.toNat < first.toNat →
      exec (.picture p first last) s = .next (settle s (h.answer p [[0x03#8, 0x4A#8, 1#8, 1#8]]))) ∧
    (first.toNat ≤ last.toNat →
      ∃ body, exec (.picture p first last) s = .next (settle s (h.answer p [body])) ∧
        body = [0x03#8, 0#8, 1#8, 1#8, first, byte used] ++
          ((List.range (used + 1 - first.toNat)).map fun k =>
            summaryRecord (first.toNat + k) (s.floor (first.toNat + k))).flatten ∧
        body.length = 4 + 2 + 16 * (used + 1 - first.toNat) ∧ body.length ≤ 262)

/-- R155, R178: a FLOOR request taken at once: the floor in full, from one picture, and the watch re-latched. -/
def Obligations.FloorGivesEntries : Prop :=
  ∀ (p : Port) (f : Byte) (start : Half) (s h : State) (all given : List (List Byte)) (old : List Attendance),
    Ready p s → h = s.hunting p → old = (s.floor f.toNat).attendance →
    all = (((List.range 1008).filter fun x => decide ((s.entry (x / 16) (x % 16)).known = true ∧
        (s.entry (x / 16) (x % 16)).floor = f.toNat ∧ (s.entry (x / 16) (x % 16)).ztype ≠ .unused)).map fun x =>
      entryRecord s.clock (x / 16) (x % 16) (s.presenceCode (x / 16)) (s.entry (x / 16) (x % 16))) →
    given = (all.drop start.toNat).take 32 →
    ∃ parts, exec (.floor p f start) s = .next (settle s ((h.answer p parts).modNotices p fun n =>
        if n.watch.any (fun w => w.1 == f.toNat) then
          { n with
            queue := n.queue.filter fun r => n.stack.contains r.key ||
              !(r.key == { level := 5, subject := .floor f.toNat })
            watch := n.watch.map fun w => if w.1 = f.toNat then (f.toNat, s.liveLatch f.toNat) else w }
        else n)) ∧
      parts.length = 1 + (given.length + 7) / 8 ∧
      parts[0]? = some ([0x04#8, 0#8, 1#8, byte parts.length] ++ summaryRecord f.toNat (s.floor f.toNat) ++
        be16 all.length ++ be16 start.toNat ++
        [byte given.length, if start.toNat + given.length < all.length then 1#8 else 0#8, byte old.length] ++
        (old.map fun a => padTo 8 a.label ++ [byte a.station, if a.port = .a then 1#8 else 2#8] ++
          be16 (min 65535 ((s.clock - a.time) / 1000)) ++ [byte (s.presenceCode a.station)]).flatten) ∧
      ∀ k < (given.length + 7) / 8,
        parts[k + 1]? = some ([0x04#8, 0#8, byte (k + 2), byte parts.length] ++
          ((given.drop (8 * k)).take 8).flatten)

/-- R64, R65, R46, R151: an ACK request taken at once: the six refusals in order, and the acknowledgement placed with its
MARK submitted. The summary record and the entry record (8.2), byte by byte. -/
def Obligations.AckPlacesAcknowledgement : Prop :=
  (∀ (p : Port) (station line : Byte) (change : Half) (s h : State) (e : ZoneEntry) (record : ZoneEntry → List Byte),
    Ready p s → h = s.hunting p → e = s.entry station.toNat line.toNat →
    record = entryRecord s.clock station.toNat line.toNat (s.presenceCode station.toNat) →
    let cmd := Instr.ack p station line change
    ((s.port p).label = none → exec cmd s = .next (settle s (h.answer p [[0x08#8, 0x42#8, 1#8, 1#8]]))) ∧
    (∀ label, (s.port p).label = some label →
      ((s.address = 0 ∨ 63 ≤ s.address) →
        exec cmd s = .next (settle s (h.answer p [[0x08#8, 0x43#8, 1#8, 1#8]]))) ∧
      (1 ≤ s.address → s.address ≤ 62 →
        ((station = 0#8 ∨ 62 < station.toNat ∨ 15 < line.toNat ∨ e.known = false) →
          exec cmd s = .next (settle s (h.answer p [[0x08#8, 0x44#8, 1#8, 1#8]]))) ∧
        (1 ≤ station.toNat → station.toNat ≤ 62 → line.toNat ≤ 15 → e.known = true →
          (e.zstate ≠ .alarm → e.zstate ≠ .clearing →
            exec cmd s = .next (settle s (h.answer p [[0x08#8, 0x45#8, 1#8, 1#8] ++ record e]))) ∧
          ((e.zstate = .alarm ∨ e.zstate = .clearing) →
            (e.changeNumber ≠ change.toNat →
              exec cmd s = .next (settle s (h.answer p [[0x08#8, 0x46#8, 1#8, 1#8] ++ record e]))) ∧
            (e.changeNumber = change.toNat →
              (∀ a, e.ack = some a →
                exec cmd s = .next (settle s (h.answer p [[0x08#8, 0x47#8, 1#8, 1#8] ++ padTo 8 a.label ++
                  [byte a.station,
                    if a.port = some .a then 1#8 else if a.port = some .b then 2#8 else 0#8]]))) ∧
              (e.ack = none →
                ∃ u, exec cmd s = .next (settle s u) ∧
                  u.entry station.toNat line.toNat = { e with
                    ack := some { label := label, station := s.address, port := some p, change := change.toNat } } ∧
                  (∀ o ≤ 62, ∀ l ≤ 15, (o, l) ≠ (station.toNat, line.toNat) → u.entry o l = s.entry o l) ∧
                  ((s.rlc.blocks.any = false ∧ s.rlc.control.length < 8) →
                    u.rlc = (s.queueControl .mark 63 ([1#8] ++ padTo 8 label ++
                      [byte s.address, if p = .a then 1#8 else 2#8, station, line] ++ be16 change.toNat) .mark).rlc ∧
                    u.marks = s.marks ∧
                    (u.port p).responseSlot =
                      [[0x08#8, 0x02#8, 1#8, 1#8] ++ record (u.entry station.toNat line.toNat)]) ∧
                  ((s.rlc.blocks.any = true ∨ 8 ≤ s.rlc.control.length) →
                    u.rlc = s.rlc ∧ u.marks = { s.marks with notSent := min 65535 (s.marks.notSent + 1) } ∧
                    (u.port p).responseSlot =
                      [[0x08#8, 0x03#8, 1#8, 1#8] ++ record (u.entry station.toNat line.toNat)]) ∧
                  (∀ f < 256, (u.floor f).label = (s.floor f).label ∧
                    (u.floor f).attendance = (s.floor f).attendance) ∧
                  u.zones = s.zones ∧ u.peers = s.peers ∧ u.store = s.store ∧ u.ste = s.ste ∧
                  (∀ q, q ≠ p → u.port q = s.port q) ∧ u.clock = s.clock ∧ u.pending = s.pending))))))) ∧
  (∀ (f : Nat) (x : FloorSummary) (one : Nat → Byte), one = (fun n => byte (min 255 n)) →
    summaryRecord f x =
      [byte f] ++ padTo 4 (x.label.getD []) ++ [byte x.counts.worst.code, one x.counts.fire, one x.counts.pending,
        one x.counts.clearing, one x.counts.supervisory, one x.counts.trouble, one x.counts.stale,
        byte ((if x.counts.anyRecurring then 1 else 0) + (if x.counts.anyLineLost then 2 else 0) +
          (if x.label = none then 0 else 4)), byte x.attendance.length] ++ be16 x.changeNumber) ∧
  [Worst.none, .normal, .trouble, .supervisory, .pending, .clearing, .fire].map Worst.code = [0, 1, 2, 3, 4, 5, 6] ∧
  ∀ (now origin line presence : Nat) (e : ZoneEntry) (age : Option Nat),
    age = (if e.zstate = .alarm ∨ e.zstate = .clearing then
        (match e.age with
          | .absent => none
          | .own start => some (min 65535 ((now - start) / 1000))
          | .remote reported receipt => some (min 65535 (reported + (now - receipt) / 1000)))
      else none) →
    (e.known = true → entryRecord now origin line presence e =
      [byte origin, byte line, byte e.floor, byte e.ztype.code, byte e.zstate.code,
        if e.trouble = some .openLoop then 1#8 else if e.trouble = some .short then 2#8 else 0#8,
        byte ((if e.recurring then 1 else 0) + (if e.lineLost then 2 else 0) + (if e.boosted then 4 else 0) +
          (if e.stale then 8 else 0) + (if e.ack = none then 0 else 16) + (if age = none then 0 else 32) +
          (if e.label = none then 0 else 64)), byte e.repeatCount, byte e.transientCount,
        match e.ack with
          | none => 0#8
          | some a => if a.port = some .a then 1#8 else if a.port = some .b then 2#8 else 0#8] ++
        be16 e.resistance ++ be16 e.changeNumber ++ be16 (age.getD 0) ++
        be16 (match e.lastHeard with | none => 0 | some t => min 65535 ((now - t) / 1000)) ++
        padTo 8 (e.label.getD []) ++
        (match e.ack with
          | none => List.replicate 8 0x20#8 ++ [0#8]
          | some a => padTo 8 a.label ++ [byte a.station]) ++ [byte presence]) ∧
    (e.known = false → entryRecord now origin line presence e =
      [byte origin, byte line, 0#8, 0#8, 0#8, 0#8, if e.label = none then 128#8 else 192#8] ++ List.replicate 11 0#8 ++
        padTo 8 (e.label.getD []) ++ List.replicate 10 0#8)

/-- R41, R47, R71, R151: the ATTEND requests taken at once: refused, or the floor's list changed and the MARK submitted. -/
def Obligations.AttendChangesList : Prop :=
  ∀ (p : Port) (f : Byte) (s h : State) (old : List Attendance), Ready p s → h = s.hunting p →
    old = (s.floor f.toNat).attendance →
    let own := fun (a : Attendance) => decide (a.station = s.address) && decide (a.port = p)
    ((s.port p).label = none →
      exec (.attendOn p f) s = .next (settle s (h.answer p [[0x09#8, 0x42#8, 1#8, 1#8]])) ∧
      exec (.attendOff p f) s = .next (settle s (h.answer p [[0x09#8, 0x42#8, 1#8, 1#8]]))) ∧
    ((s.port p).label ≠ none → (s.address = 0 ∨ 63 ≤ s.address) →
      exec (.attendOn p f) s = .next (settle s (h.answer p [[0x09#8, 0x43#8, 1#8, 1#8]])) ∧
      exec (.attendOff p f) s = .next (settle s (h.answer p [[0x09#8, 0x43#8, 1#8, 1#8]]))) ∧
    (∀ label who, (s.port p).label = some label → 1 ≤ s.address → s.address ≤ 62 →
      who = { label := label, station := s.address, port := p, time := s.clock } →
      ∀ c kind, (c, kind) = (Instr.attendOn p f, 2#8) ∨ (c, kind) = (Instr.attendOff p f, 3#8) →
      ∃ u, exec c s = .next (settle s u) ∧
        (u.floor f.toNat).attendance =
          (if c = .attendOff p f then old.filter (fun a => !own a)
           else if old.any own = true then old.filter (fun a => !own a) ++ [who]
           else if old.length < 4 then old ++ [who] else old.drop 1 ++ [who]) ∧
        (u.floor f.toNat).label = (s.floor f.toNat).label ∧
        ((u.floor f.toNat).attendance ≠ old →
          (u.floor f.toNat).changeNumber = ((s.floor f.toNat).changeNumber + 1) % 65536) ∧
        (∀ g < 256, g ≠ f.toNat → u.floor g = s.floor g) ∧ u.picture.entries = s.picture.entries ∧
        (u.port p).responseSlot = [[0x09#8,
            if s.rlc.blocks.any = true ∨ 8 ≤ s.rlc.control.length then 0x03#8
            else if c = .attendOff p f then 0x05#8 else 0x04#8, 1#8, 1#8, f,
            byte (u.floor f.toNat).attendance.length] ++
          ((u.floor f.toNat).attendance.map fun a =>
            attendanceRecord s.clock (s.presenceCode a.station) a).flatten] ∧
        ((s.rlc.blocks.any = false ∧ s.rlc.control.length < 8) →
          u.rlc = (s.queueControl .mark 63 ([kind] ++ padTo 8 label ++
            [byte s.address, if p = .a then 1#8 else 2#8, f, 0#8, 0#8, 0#8]) .mark).rlc ∧ u.marks = s.marks) ∧
        ((s.rlc.blocks.any = true ∨ 8 ≤ s.rlc.control.length) →
          u.rlc = s.rlc ∧ u.marks = { s.marks with notSent := min 65535 (s.marks.notSent + 1) }) ∧
        u.zones = s.zones ∧ u.peers = s.peers ∧ u.store = s.store ∧ u.ste = s.ste ∧
        (∀ q, q ≠ p → u.port q = s.port q) ∧ u.clock = s.clock ∧ u.pending = s.pending)

/-- R174, R172: a PEEK request taken at once gives the record at the top of the stack and changes nothing else. The body
of a record and the snapshot of each subject, field by field, but for the qualifier of a station without a DIRECTORY,
for which the table of R172 names no value (log 45). -/
def Obligations.PeekGivesTop : Prop :=
  (∀ (p : Port) (s h : State), Ready p s → (s.notices p).Lawful → h = s.hunting p →
    (((s.port p).attached = false ∨ (s.notices p).stack = []) →
      exec (.peek p) s = .next (settle s (h.answer p [[0x0A#8, 0x4C#8, 1#8, 1#8]]))) ∧
    (∀ k, (s.port p).attached = true → (s.notices p).stack.getLast? = some k →
      ∃ r ∈ (s.notices p).queue, r.key = k ∧ exec (.peek p) s = .next (settle s (h.answer p
        [[0x0A#8, 0#8, 1#8, 1#8] ++ s.noticeBody r (s.notices p).stack.length])))) ∧
  (∀ (s : State) (r : Notice) (depth : Nat) (snap : List Byte), snap = s.snapshot r →
    (∀ code number line, (code, number, line) = (match r.key.subject with
        | .zone o l => (1, o, l)
        | .floor f => (2, f, 0)
        | .station a => (3, a, 0)
        | .block b => (4, b.code, 0)
        | .channel c => (5, c, 0)) →
      s.noticeBody r depth =
        [byte r.key.level, byte code, byte number, byte line, byte r.detail, byte r.events] ++
          be16 (min 65535 ((s.clock - r.time) / 1000)) ++ [byte depth, byte snap.length] ++ snap) ∧
    (∀ o l, r.key.subject = .zone o l →
      snap = entryRecord s.clock o l (s.presenceCode o) (s.entry o l) ∧ snap.length = 36) ∧
    (∀ f, r.key.subject = .floor f → snap = summaryRecord f (s.floor f) ∧ snap.length = 16) ∧
    (∀ a, r.key.subject = .station a → snap.length = 5 ∧
      slice snap 0 1 = [if a = s.ownOrigin ∨ a = s.address then 0#8 else
        if (s.peer a).presence = .unknown then 1#8 else if (s.peer a).presence = .present then 2#8 else 3#8] ∧
      slice snap 3 2 = be16 (s.peer a).framesHeard ∧
      (∀ d, (s.peer a).directory = some d →
        slice snap 1 2 = [byte d.condition.code, if d.noConfig then 1#8 else 0#8]) ∧
      ((s.peer a).directory = none → slice snap 1 1 = [0xFF#8])) ∧
    (∀ b, r.key.subject = .block b →
      snap = [if s.rlc.blocks.has b then 1#8 else 0#8, byte s.condition.code]) ∧
    (∀ c, r.key.subject = .channel c → snap.length = 10 ∧
      ∀ o, r.outcome = some o → snap =
        [if o.result = .done then 0#8 else if o.result = .restart then 2#8 else 1#8,
          if o.result = .failed .noHolder then 1#8 else if o.result = .failed .noPath then 2#8
            else if o.result = .failed .range then 3#8 else 0#8, byte o.floor, byte o.kind] ++
          be16 o.revision ++ be16 o.delivered ++ be16 o.missing)) ∧
  [Block.join, .address, .maintenance, .duplicate, .babble, .line, .silenced].map Block.code = [1, 2, 3, 4, 5, 6, 7] ∧
  [Condition.starting, .joining, .operating, .listenOnly, .maintenance].map Condition.code = [0, 1, 2, 3, 4] ∧
  ∀ (p : Port) (s : State), ((portReset p s).notices p).stack = []

/-- R151, R172, R173, R178: a FINISH request taken at once removes the record in service of its level. -/
def Obligations.FinishRemovesRecord : Prop :=
  ∀ (p : Port) (level : Byte) (s h : State) (n : NoticeController), Ready p s → n = s.notices p → n.Lawful →
    h = s.hunting p →
    (8 ≤ level.toNat →
      exec (.finish p level) s = .next (settle s (h.answer p [[0x0B#8, 0x41#8, 1#8, 1#8]]))) ∧
    (level.toNat ≤ 7 → (s.port p).attached = false →
      exec (.finish p level) s = .next (settle s (h.answer p [[0x0B#8, 0x42#8, 1#8, 1#8]]))) ∧
    (level.toNat ≤ 7 → (s.port p).attached = true →
      ((∀ k ∈ n.stack, k.level ≠ level.toNat) →
        exec (.finish p level) s = .next (settle s (h.answer p [[0x0B#8, 0x4C#8, 1#8, 1#8]]))) ∧
      (∀ k ∈ n.stack, k.level = level.toNat →
        ∃ r ∈ n.queue, r.key = k ∧
          exec (.finish p level) s = .next (settle s ((h.answer p
            [[0x0B#8, 0#8, 1#8, 1#8] ++ s.noticeBody r (n.stack.length - 1)]).modNotices p fun m =>
              { m with
                queue := m.queue.filter (fun x => !(x.key == k)) ++
                  (match k.subject with
                    | .floor f =>
                      if k.level = 5 ∧ ∃ w, n.watch.find? (fun w => w.1 == f) = some w ∧ w.2 ≠ s.liveLatch f then
                        [{ key := k, time := s.clock, events := 1, detail := 0, outcome := none }]
                      else []
                    | _ => [])
                stack := m.stack.filter fun x => !(x == k)
                due := m.due.filter fun x => !(x == k) }))))

/-- R151, R164, R176: WATCH and MASK requests taken at once. R163, R165 to R169, R177: the sources of the notices (entry
changes, SPREAD and WATCH on a summary change, STATION, block and TRANSFER events), and how a record is queued: refreshed,
new, or in a full queue by evicting the newest of the greatest level below, or lost. -/
def Obligations.WatchAndMaskTaken : Prop :=
  (∀ (p : Port) (floors : List Byte) (bits : Byte) (s h : State) (taken : List Nat), Ready p s → floors.length ≤ 299 →
    h = s.hunting p → taken = ((floors.map (·.toNat)).eraseDups).take 8 →
    ((s.port p).attached = false →
      exec (.watch p floors) s = .next (settle s (h.answer p [[0x05#8, 0x42#8, 1#8, 1#8]])) ∧
      exec (.mask p bits) s = .next (settle s (h.answer p [[0x0C#8, 0x42#8, 1#8, 1#8]]))) ∧
    ((s.port p).attached = true →
      exec (.watch p floors) s = .next (settle s ((h.answer p
        [[0x05#8, 0#8, 1#8, 1#8, byte taken.length] ++ taken.map byte]).modNotices p fun n =>
          { n with
            queue := n.queue.filter fun r => n.stack.contains r.key ||
              !((n.watch.map (·.1) ++ taken).any fun f => r.key == { level := 5, subject := .floor f })
            watch := taken.map fun f => (f, s.liveLatch f) })) ∧
      exec (.mask p bits) s = .next (settle s ((h.answer p
        [[0x0C#8, 0#8, 1#8, 1#8, bits &&& 0xF0#8]]).modNotices p fun n => { n with mask := bits &&& 0xF0#8 })) ∧
      (∀ f, s.liveLatch f =
        { counts := (s.floor f).counts, attendance := (s.floor f).attendance.length }))) ∧
  (∀ (p : Port) (f : NoticeController → NoticeController) (s : State),
    s.notify p f = if (s.port p).attached then s.modNotices p f else s) ∧
  (∀ (n : NoticeController) (now o l : Nat) (old new : ZoneEntry),
    let enters := fun (z : ZoneState) => (new.known && decide (new.zstate = z)) && !(old.known && decide (old.zstate = z))
    let sets := fun (flag : ZoneEntry → Bool) => (new.known && flag new) && !(old.known && flag old)
    let fired :=
      (if decide (new.ztype ≠ .valve ∧ new.ztype ≠ .unused) && enters .alarm then [(0, 0)] else []) ++
      (if sets (·.recurring) then [(2, new.repeatCount)] else []) ++
      (if sets (·.lineLost) then
        [(3, if new.trouble = some .openLoop then 1 else if new.trouble = some .short then 2 else 0)] else []) ++
      (if decide (new.ztype = .valve) && enters .alarm then [(6, 1)] else if enters .trouble then [(6, 2)] else [])
    n.takeEntry now o l old new = fired.foldl (fun m x => m.post now x.1 (.zone o l) x.2 none) n) ∧
  (∀ (n m : NoticeController) (now f : Nat) (old new : FloorSummary) (fireAt : Nat → Bool), f ≤ 255 →
    let far := fun (g : Nat) => max g f - min g f
    let near := fun (g : Nat) => g ≤ 255 ∧ 1 ≤ far g ∧ far g ≤ 2 ∧ fireAt g = true
    let spreads := old.counts.worst ≠ .fire ∧ new.counts.worst = .fire
    let live : Latch := { counts := new.counts, attendance := new.attendance.length }
    ((¬spreads ∨ ∀ g, ¬near g) → m = n) →
    (∀ g, spreads → near g → (∀ h, near h → far g < far h ∨ (far g = far h ∧ g ≤ h)) →
      m = n.post now 1 (.floor f) g none) →
    (n.watch.find? (fun w => w.1 == f) = none → n.takeSummary now f old new fireAt = m) ∧
    (∀ g l, n.watch.find? (fun w => w.1 == f) = some (g, l) →
      (l ≠ live → n.takeSummary now f old new fireAt = m.post now 5 (.floor f) 0 none) ∧
      (l = live → { level := 5, subject := .floor f } ∈ m.stack → n.takeSummary now f old new fireAt = m) ∧
      (l = live → { level := 5, subject := .floor f } ∉ m.stack → n.takeSummary now f old new fireAt =
        { m with queue := m.queue.filter fun r => !(r.key == { level := 5, subject := .floor f }) }))) ∧
  (∀ (n : NoticeController) (now a c : Nat) (back : Bool) (b : Block) (o : TransferOutcome),
    n.takeStation now a back = n.post now 4 (.station a) (if back then 2 else 1) none ∧
    n.takeBlock now b = n.post now 6 (.block b) 0 none ∧
    n.takeTransfer now c o = n.post now 7 (.channel c) 0 (some o)) ∧
  ∀ (n : NoticeController) (now level detail : Nat) (subject : Subject) (outcome : Option TransferOutcome) (k : NoticeKey),
    k = { level := level, subject := subject } →
    let record := fun (events : Nat) =>
      ({ key := k, time := now, events := events, detail := detail, outcome := outcome } : Notice)
    (∀ r, n.find k = some r →
      (k ∉ n.stack → n.post now level subject detail outcome =
        { n with queue := (n.queue.filter fun x => !(x.key == k)) ++ [record (min 255 (r.events + 1))] }) ∧
      (k ∈ n.stack → n.post now level subject detail outcome =
        { n with queue := n.queue.map fun x => if x.key = k then record (min 255 (r.events + 1)) else x })) ∧
    (n.find k = none →
      (n.queue.length < 32 → n.post now level subject detail outcome = { n with queue := n.queue ++ [record 1] }) ∧
      (32 ≤ n.queue.length → (∀ r ∈ n.queue, r.key ∉ n.stack → r.key.level ≤ level) →
        n.post now level subject detail outcome = { n with lost := true }) ∧
      (∀ older v newer, 32 ≤ n.queue.length → n.queue = older ++ v :: newer → v.key ∉ n.stack → level < v.key.level →
        (∀ r ∈ older, r.key ∉ n.stack → r.key.level ≤ v.key.level) →
        (∀ r ∈ newer, r.key ∉ n.stack → r.key.level < v.key.level) →
        n.post now level subject detail outcome =
          { n with queue := (n.queue.filter fun x => !(x.key == v.key)) ++ [record 1] }))

/-- R156, R157: the STREAM requests taken at once, and the start of a pass that no open pass delays: with the cursor at floor
0, or over at once when no floor has anything to show. What the arbiter sends of a pass, its end and a next pass that is
overdue then are `Obligations.EndOfEventKeepsTheRest`'s. -/
def Obligations.StreamTurnsAndPasses : Prop :=
  ∀ (p : Port) (period : Byte) (s h : State) (old : Stream) (held cursor : Nat), s.held = false → h = s.hunting p →
    old = (s.port p).stream → held = max 1 (min period.toNat 60) →
    ((∃ f < 256, (s.floor f).counts.worst ≠ .none) → cursor = 0) →
    ((∀ f < 256, (s.floor f).counts.worst = .none) → cursor = 256) →
    (Ready p s → old.isOn = false →
      exec (.streamOn p period) s = .next (settle s ((h.modPort p fun q =>
        { q with
          stream := { isOn := true, period := held, cursor := cursor, start := s.clock, passOpen := decide (cursor = 0) } }).answer p
          [[0x0D#8, 0#8, 1#8, 1#8, 1#8, byte held]]))) ∧
    (Ready p s → old.isOn = true →
      exec (.streamOn p period) s = .next (settle s ((h.modPort p fun q =>
        { q with stream := { old with period := held } }).answer p [[0x0D#8, 0#8, 1#8, 1#8, 1#8, byte held]]))) ∧
    (Ready p s →
      exec (.streamOff p period) s = .next (settle s ((h.modPort p fun q =>
        { q with stream := { old with isOn := false } }).answer p
          [[0x0D#8, 0#8, 1#8, 1#8, 0#8, byte old.period]]))) ∧
    ((s.port p).isOpen = true → old.isOn = true → old.passOpen = false → old.start + 1000 * old.period ≤ s.clock →
      exec (.streamPassStart p) s = .next (settle s (s.modPort p fun q =>
        { q with stream := { old with start := s.clock, cursor := cursor, passOpen := decide (cursor = 0) } })))

/-- R96, R143, R147, R150, R158: a STATUS request taken at once: five parts, field by field, and the clear option. -/
def Obligations.StatusReportsStation : Prop :=
  ∀ (p : Port) (clear : Byte) (s h u : State) (q : CrewPort) (l : LinkCounters) (b : Blocks) (m : TransferCounters)
    (counter : Nat → List Byte) (peers : Nat → Nat → List Byte),
    Ready p s →
    l = s.rlc.counters → b = s.rlc.blocks → m = s.ste.counters → h = s.hunting p → q = s.port p →
    counter = (fun n => be16 n) →
    peers = (fun first count => ((List.range count).map fun k =>
      if first + k = s.address then [0#8, 0#8, 0#8, 0xFF#8, 0xFF#8]
      else [if (s.peer (first + k)).presence = .unknown then 1#8
          else if (s.peer (first + k)).presence = .present then 2#8 else 3#8] ++ be16 (s.peer (first + k)).framesHeard ++
        (match (s.peer (first + k)).directory with
          | none => [0xFF#8, 0xFF#8]
          | some d => [byte d.condition.code, if d.noConfig then 1#8 else 0#8])).flatten) →
    u = h.answer p
      [[0x0E#8, 0#8, 1#8, 5#8] ++ [byte s.address, byte s.condition.code, if s.noConfig then 1#8 else 0#8] ++
          padTo 16 (match s.store.image with | none => [] | some i => i.name) ++
          be32 (min 4294967295 (s.clock / 1000)) ++ [if q.attached then 1#8 else 0#8] ++ padTo 8 (q.label.getD []) ++
          [byte ((if q.flags.framing then 1 else 0) + (if q.flags.overrun then 2 else 0) +
              (if q.flags.badCheck then 4 else 0) + (if q.flags.tooLong then 8 else 0) +
              (if q.flags.breakSeen then 16 else 0) + (if (s.notices p).lost then 32 else 0)),
            if q.stream.isOn then 1#8 else 0#8, byte q.stream.period,
            byte (((List.range 6).map fun c => if (s.channel c).owner = .port p then 2 ^ c else 0).sum)],
        [0x0E#8, 0#8, 2#8, 5#8] ++ ([l.framesSent, l.collisions, l.guardCuts, l.yieldMarks, l.burstsYielded, l.badStart,
            l.framingError, l.badLength, l.truncated, l.badCrc, l.unknownKind, l.duplicateEvents, l.misdirected,
            l.notForThis, l.accepted].map counter).flatten ++
          [byte ((if b.join then 1 else 0) + (if b.address then 2 else 0) + (if b.maintenance then 4 else 0) +
              (if b.duplicate then 8 else 0) + (if b.babble then 16 else 0) + (if b.line then 32 else 0) +
              (if b.silenced then 64 else 0)), byte s.rlc.duplicateCount, byte s.rlc.babbleCount, byte s.rlc.abandoned,
            byte s.rlc.control.length, byte s.rlc.lastOrigins.alarm, byte s.rlc.lastOrigins.control,
            byte s.rlc.lastOrigins.bulk, byte s.rlc.lastOrigins.routine],
        [0x0E#8, 0#8, 3#8, 5#8] ++
          ([s.picture.rejectedReports, s.peers.unplacedFrames, s.peers.rejectedDirectories, s.marks.rejected,
            s.marks.discarded, s.marks.notSent, s.store.counts.accepted, s.store.counts.badCheck,
            s.store.counts.outOfRange, s.store.counts.beyond, s.store.counts.duplicate, s.store.tilesOk,
            s.store.tilesBad, s.store.timeouts, m.done, m.failed, m.restarts, m.strayTiles, m.strayRefuses,
            m.servicesCompleted, m.serveRefuses, m.serveIgnored, m.strayCancels, m.controlNotSent].map counter).flatten,
        [0x0E#8, 0#8, 4#8, 5#8] ++ peers 1 31,
        [0x0E#8, 0#8, 5#8, 5#8] ++ peers 32 31] →
    (1 < clear.toNat →
      exec (.status p clear) s = .next (settle s (h.answer p [[0x0E#8, 0x41#8, 1#8, 1#8]]))) ∧
    (clear = 0#8 → exec (.status p clear) s = .next (settle s u)) ∧
    (clear = 1#8 → exec (.status p clear) s = .next (settle s
      ((u.modPort p fun x =>
        { x with
          flags := { framing := false, overrun := false, badCheck := false, tooLong := false,
                     breakSeen := false } }).modNotices p fun n => { n with lost := false })))

/-- R134, R136, R149, R159: a message sent to its end: its source is told, and the port takes its next request when it may.
How several maintenance responses wait in one slot is the model's choice (log 18). -/
def Obligations.MessageEndTellsSource : Prop :=
  ∀ (p : Port) (m : OutMessage) (s h : State) (q : CrewPort), s.held = false → q = s.port p → q.sending = some m →
    h = s.modPort p (fun x => { x with sending := none }) →
    (∀ part next rest, m.source = .response → q.responseSlot = part :: next :: rest →
      exec (.messageEnd p) s = .next (settle s (h.modPort p fun x => { x with responseSlot := next :: rest }))) ∧
    (∀ part, m.source = .response → q.responseSlot = [part] →
      (q.buffer = [] →
        exec (.messageEnd p) s = .next (settle s (h.modPort p fun x =>
          { x with responseSlot := [] }))) ∧
      (∀ r rest, q.buffer = r :: rest → (r.kind = 0#8 ∨ r.kind = 0x0F#8 ∨ 0x12 < r.kind.toNat) →
        exec (.messageEnd p) s = .next (settle s
          ((h.modPort p fun x => { x with buffer := rest }).answer p [[r.kind, 0x40#8, 1#8, 1#8]])))) ∧
    ((q.buffer = [] ∨ q.responseSlot ≠ []) →
      (∀ part rest, m.source = .storeResult → q.storeSlot = part :: rest →
        exec (.messageEnd p) s = .next (settle s (h.modPort p fun x =>
          { x with storeSlot := rest, storeAhead := q.storeAhead - 1 }))) ∧
      ((m.source = .notice ∨ m.source = .summary ∨ (∃ c, m.source = .tile c) ∨ (m.live = false ∧
          ∃ c, m.source = .sheetEnd c ∨ m.source = .sheetRestart c)) →
        exec (.messageEnd p) s = .next (settle s h)) ∧
      (∀ c, m.source = .sheetRestart c → m.live = true →
        exec (.messageEnd p) s = .next (settle s (h.setChannel c { s.channel c with restartOffer := none }))) ∧
      (∀ c result k, c < 6 → m.source = .sheetEnd c → m.live = true → k = s.channel c → k.result = some result →
        k.owner = .port p →
        ∃ u, exec (.messageEnd p) s = .next (settle s u) ∧ u.channel c = Channel.freed ∧ u.readList c = [] ∧
          (∀ d < 6, d ≠ c → u.channel d = s.channel d) ∧ u.port p = h.port p ∧
          (∀ b < 16, (s.buffer b).holder = some c → s.bufferBusy b = false →
            u.buffer b = { holder := none, state := .empty }) ∧
          (q.attached = true → (s.notices p).queue.length < 32 →
            ∃ r ∈ (u.notices p).queue, r.key = { level := 7, subject := .channel c } ∧ r.time = s.clock ∧
              r.outcome = some { result := result, floor := k.floor, kind := k.kind, revision := k.pinned,
                                 delivered := k.delivered, missing := k.missing }) ∧
          (∀ d, d ≠ p → u.notices d = s.notices d) ∧ u.rlc.control = s.rlc.control ∧ u.picture = s.picture ∧
          u.zones = s.zones ∧ u.store.memory = s.store.memory ∧ u.clock = s.clock ∧ u.pending = s.pending))
end

