-- ==== Sys2Proof/Laws/Frames.lean ====
section
/-! SUPPORT. What the end of an event may change: each operation of the channels, the store, the selections and the
arbiters keeps `State.lasting`, and so does the whole end of an event. -/

namespace Sys2Proof.Machine

open Sys2Proof

/-- An operation that changes only what the end of an event may change, and no port. -/
structure Inner (s t : State) : Prop where
  lasting : t.lasting = s.lasting
  portA : t.portA = s.portA
  portB : t.portB = s.portB

theorem Inner.refl (s : State) : Inner s s := ⟨rfl, rfl, rfl⟩

theorem Inner.trans {s t u : State} (h : Inner s t) (g : Inner t u) : Inner s u :=
  ⟨g.lasting.trans h.lasting, g.portA.trans h.portA, g.portB.trans h.portB⟩

/-- A fold of inner operations is inner. -/
theorem Inner.foldl {α : Type} {f : State → α → State} (h : ∀ s x, Inner s (f s x)) (l : List α) (s : State) :
    Inner s (l.foldl f s) := by
  induction l generalizing s with
  | nil => exact Inner.refl s
  | cons x rest ih => exact (h s x).trans (ih (f s x))

/-! ### The tables and the blocks -/

theorem inner_modSte (f : TransferEngine → TransferEngine) (s : State) (h : (f s.ste).tagCounter = s.ste.tagCounter) :
    Inner s (s.modSte f) := ⟨by simp [State.lasting, State.modSte, h], rfl, rfl⟩

theorem inner_setChannel (c : Nat) (k : Channel) (s : State) : Inner s (s.setChannel c k) := ⟨rfl, rfl, rfl⟩

theorem inner_modChannel (c : Nat) (f : Channel → Channel) (s : State) : Inner s (s.modChannel c f) := ⟨rfl, rfl, rfl⟩

theorem inner_setBuffer (b : Nat) (x : TileBuffer) (s : State) : Inner s (s.setBuffer b x) := ⟨rfl, rfl, rfl⟩

theorem inner_countTransfers (f : TransferCounters → TransferCounters) (s : State) : Inner s (s.countTransfers f) :=
  ⟨rfl, rfl, rfl⟩

theorem inner_setReadList (c : Nat) (l : List TileRead) (s : State) : Inner s (s.setReadList c l) := ⟨rfl, rfl, rfl⟩

/-- The notices of a port may change in all but their lasting part. -/
theorem inner_modNotices (p : Port) (f : NoticeController → NoticeController) (s : State)
    (h : ∀ n, (f n).lasting = n.lasting) : Inner s (s.modNotices p f) := by
  cases p <;> exact ⟨by simp [State.lasting, State.modNotices, h], rfl, rfl⟩

/-! ### Notices -/

/-- A change of the queue that keeps the records of levels 0 to 6. -/
theorem NoticeController.lasting_queue (n : NoticeController) {q : List Notice}
    (h : q.filter (fun r => decide (r.key.level < 7)) = n.queue.filter (fun r => decide (r.key.level < 7))) :
    { n with queue := q }.lasting = n.lasting := by
  simp only [NoticeController.lasting, h]

/-- Dropping a record of level 7 or below keeps the records of levels 0 to 6. -/
theorem NoticeController.drop_low (n : NoticeController) {k : NoticeKey} (h : 7 ≤ k.level) :
    (n.drop k).queue.filter (fun r => decide (r.key.level < 7)) =
      n.queue.filter (fun r => decide (r.key.level < 7)) := by
  simp only [NoticeController.drop, List.filter_filter]
  apply List.filter_congr
  intro r _
  by_cases hr : r.key = k
  · subst hr
    simp; omega
  · have hb : (r.key == k) = false := by simpa using hr
    simp [hb]

theorem Notice.filter_replace (l : List Notice) (k : NoticeKey) (x : Notice) (hk : 7 ≤ k.level) (hx : x.key = k) :
    (l.map fun r => if r.key = k then x else r).filter (fun r => decide (r.key.level < 7)) =
      l.filter (fun r => decide (r.key.level < 7)) := by
  induction l with
  | nil => rfl
  | cons r rest ih =>
    simp only [List.map_cons]
    by_cases hr : r.key = k
    · have h1 : ¬ r.key.level < 7 := by rw [hr]; omega
      have h2 : ¬ x.key.level < 7 := by rw [hx]; omega
      rw [if_pos hr, List.filter_cons_of_neg (by simpa using h2), List.filter_cons_of_neg (by simpa using h1), ih]
    · rw [if_neg hr]
      simp only [List.filter_cons, ih]

theorem NoticeController.find_key {n : NoticeController} {k : NoticeKey} {r : Notice} (h : n.find k = some r) :
    r.key = k := by
  have := List.find?_some h
  simpa using this

/-- Every record R169 evicts is of a greater level number than the new record. -/
theorem NoticeController.victim_level {n : NoticeController} {level : Nat} {v : Notice} (h : n.victim level = some v) :
    level < v.key.level := by
  have hm := List.mem_of_getLast? h
  simp only [List.mem_filter, Bool.and_eq_true, decide_eq_true_eq] at hm
  exact hm.1.2.2

/-- A record of level TRANSFER moves no record of levels 0 to 6. -/
theorem NoticeController.takeTransfer_lasting (n : NoticeController) (now c : Nat) (o : TransferOutcome) :
    (n.takeTransfer now c o).lasting = n.lasting := by
  unfold NoticeController.takeTransfer NoticeController.post
  simp only
  split
  · rename_i old hf
    have hk := NoticeController.find_key hf
    have h7 : 7 ≤ old.key.level := by rw [hk]
    unfold NoticeController.refresh
    simp only
    split
    · exact n.lasting_queue (Notice.filter_replace _ _ _ h7 rfl)
    · apply n.lasting_queue
      rw [List.filter_append, n.drop_low h7]
      simp [hk]
  · unfold NoticeController.add
    split
    · apply n.lasting_queue
      simp [List.filter_append]
    · split
      · rfl
      · rename_i v hv
        have h7 := NoticeController.victim_level hv
        apply n.lasting_queue
        rw [List.filter_append, n.drop_low (k := v.key) (by simpa using Nat.le_of_lt h7)]
        simp

theorem NoticeController.selectAfter_lasting (before n : NoticeController) :
    (NoticeController.selectAfter before n).lasting = n.lasting := by
  unfold NoticeController.selectAfter
  split
  · rfl
  · unfold NoticeController.select
    split
    · rfl
    · simp only
      split
      all_goals first
        | rfl
        | (split <;> rfl)

theorem inner_selectBoth (before s : State) : Inner s (State.selectBoth before s) :=
  ⟨by simp only [State.lasting, State.selectBoth, NoticeController.selectAfter_lasting], rfl, rfl⟩

theorem inner_transferEvent (c : Nat) (o : TransferOutcome) (s : State) : Inner s (transferEvent c o s) := by
  unfold transferEvent
  split
  · unfold State.notify
    split
    · exact inner_modNotices _ _ _ fun n => n.takeTransfer_lasting _ _ _
    · exact Inner.refl s
  · exact Inner.refl s
  · exact Inner.refl s

/-! ### Buffers and reads -/

theorem inner_claimBuffers (c n : Nat) (s : State) : Inner s (claimBuffers c n s) :=
  Inner.foldl (fun s b => inner_setBuffer b _ s) _ s

theorem inner_crewClaim (c : Nat) (s : State) : Inner s (crewClaim c s) := inner_claimBuffers c _ s

theorem inner_releaseBuffer (c : Nat) (s : State) (b : Nat) : Inner s (releaseBuffer c s b) := by
  unfold releaseBuffer
  split
  · exact inner_setBuffer _ _ _
  · exact Inner.refl s

theorem inner_releaseBuffers (c : Nat) (s : State) : Inner s (releaseBuffers c s) :=
  Inner.foldl (inner_releaseBuffer c) _ s

theorem inner_discardTile (c : Nat) (test : Nat → Bool) (s : State) (b : Nat) : Inner s (discardTile c test s b) := by
  unfold discardTile
  split
  · split
    · exact inner_setBuffer _ _ _
    · exact Inner.refl s
  · exact Inner.refl s
  · exact Inner.refl s

theorem inner_discardTiles (c : Nat) (test : Nat → Bool) (s : State) : Inner s (discardTiles c test s) :=
  Inner.foldl (inner_discardTile c test) _ s

theorem inner_bufferOver (b : Nat) (s : State) : Inner s (bufferOver b s) := by
  unfold bufferOver
  split
  · exact Inner.refl s
  · simp only
    split <;> exact inner_setBuffer _ _ _

theorem inner_withdrawReads (c : Nat) (s : State) : Inner s (withdrawReads c s) := by
  unfold withdrawReads
  refine (Inner.foldl (f := emptyRead) (fun s r => inner_setBuffer _ _ s) (s.readList c) s).trans ?_
  generalize (s.readList c).foldl emptyRead s = t
  exact ⟨rfl, rfl, rfl⟩

/-! ### The riser link -/

theorem RiserLink.orphan_tx (c : Nat) (r : RiserLink) :
    (r.orphan c).tx.map Transmission.apart = r.tx.map Transmission.apart := by
  unfold RiserLink.orphan
  cases r.tx with
  | none => rfl
  | some t =>
    obtain ⟨source, frame, start, alarmAtStart, raisedSince, moreFollows, serviceLive⟩ := t
    cases source with
    | tile k b =>
      simp only [Option.map_some]
      split <;> rfl
    | _ => rfl

theorem inner_orphan (c : Nat) (s : State) : Inner s (s.modRlc (RiserLink.orphan c)) := by
  refine ⟨?_, rfl, rfl⟩
  have h := RiserLink.orphan_tx c s.rlc
  simp only [State.lasting, State.modRlc, h]
  rfl

theorem inner_withdrawRequest (c : Nat) (s : State) : Inner s (withdrawRequest c s) := ⟨rfl, rfl, rfl⟩

theorem inner_submit (kind : FrameKind) (dest : Nat) (payload : List Byte) (who : Submitter) (s : State) :
    Inner s (s.modRlc (RiserLink.submit kind dest payload who)) := by
  refine ⟨?_, rfl, rfl⟩
  unfold RiserLink.submit State.modRlc State.lasting
  simp only
  split <;> rfl

theorem inner_submitSheet (kind : FrameKind) (dest : Nat) (payload : List Byte) (who : Submitter) (s : State) :
    Inner s (submitSheet kind dest payload who s) := by
  unfold submitSheet
  simp only
  split
  · exact inner_submit ..
  · exact (inner_countTransfers ..).trans (inner_submit ..)

/-! ### Channels -/

theorem inner_closeChannel (c : Nat) (s : State) : Inner s (closeChannel c s) :=
  (((inner_withdrawReads c s).trans (inner_releaseBuffers c _)).trans (inner_orphan c _)).trans (inner_setChannel c _ _)

theorem inner_endTransfer (c : Nat) (result : TransferResult) (s : State) : Inner s (endTransfer c result s) :=
  ((((inner_withdrawReads c s).trans (inner_withdrawRequest c _)).trans (inner_discardTiles c _ _)).trans
    (inner_modChannel c _ _)).trans (inner_countTransfers _ _)

theorem inner_enterLocal (c : Nat) (s : State) : Inner s (enterLocal c s) := by
  unfold enterLocal
  simp only
  split
  · exact Inner.refl s
  · split
    · exact inner_endTransfer ..
    · exact (inner_setChannel ..).trans (inner_crewClaim ..)

theorem inner_localFallback (c : Nat) (s : State) : Inner s (localFallback c s) :=
  (inner_modChannel c _ s).trans (inner_enterLocal c _)

theorem inner_channelNoPath (c : Nat) (s : State) : Inner s (channelNoPath c s) := by
  unfold channelNoPath
  split
  · exact inner_localFallback ..
  · exact inner_endTransfer ..

theorem inner_submitRequest (c : Nat) (s : State) : Inner s (submitRequest c s) := by
  unfold submitRequest
  simp only
  split
  · split
    · exact (inner_submitSheet ..).trans (inner_modChannel ..)
    · exact (inner_submitSheet ..).trans (inner_modChannel ..)
    · exact (inner_submitSheet ..).trans (inner_channelNoPath ..)
  · exact Inner.refl s

theorem inner_buildWindow (c : Nat) (s : State) : Inner s (buildWindow c s) := by
  unfold buildWindow
  simp only
  split
  · exact (inner_crewClaim ..).trans (inner_modChannel ..)
  · exact ((inner_crewClaim ..).trans (inner_modChannel ..)).trans (inner_submitRequest ..)

theorem inner_enterSource (c i : Nat) (s : State) : Inner s (enterSource c i s) := by
  unfold enterSource
  simp only
  split
  · exact Inner.refl s
  · exact (inner_setChannel ..).trans (inner_enterLocal ..)
  · exact (inner_setChannel ..).trans (inner_buildWindow ..)

theorem inner_restart (c : Nat) (s : State) : Inner s (restart c s) := by
  unfold restart
  simp only
  refine Inner.trans (t := transferEvent c { (s.channel c).outcome .restart with revision := 0 }
    (((discardTiles c (fun _ => true) (withdrawRequest c (withdrawReads c s))).modChannel c fun x =>
      x.restarted (s.candidates (s.channel c).floor (s.channel c).kind)).countTransfers TransferCounters.restarted)) ?_ ?_
  · exact ((((inner_withdrawReads c s).trans (inner_withdrawRequest c _)).trans (inner_discardTiles c _ _)).trans
      (inner_modChannel c _ _)).trans ((inner_countTransfers _ _).trans (inner_transferEvent _ _ _))
  · split
    · exact inner_endTransfer ..
    · split
      · exact inner_enterSource ..
      · exact inner_endTransfer ..

theorem inner_exhausted (c : Nat) (s : State) : Inner s (exhausted c s) := by
  unfold exhausted
  simp only
  split
  · exact inner_localFallback ..
  · split
    · exact inner_restart ..
    · exact inner_endTransfer ..

theorem inner_chooseSource (c : Nat) (s : State) : Inner s (chooseSource c s) := by
  unfold chooseSource
  simp only
  split
  · exact inner_enterSource ..
  · exact (inner_setChannel ..).trans (inner_exhausted ..)

theorem inner_submitCancel (c : Nat) (s : State) : Inner s (submitCancel c s) := by
  unfold submitCancel
  simp only
  split
  · exact Inner.refl s
  · exact inner_submitSheet ..

theorem inner_moveNext (c : Nat) (cancel : Bool) (s : State) : Inner s (moveNext c cancel s) := by
  unfold moveNext
  simp only
  refine Inner.trans (t := if cancel && s.currentPresent (s.channel c) then submitCancel c s else s) ?_ ?_
  · split
    · exact inner_submitCancel ..
    · exact Inner.refl s
  · exact ((inner_withdrawRequest ..).trans (inner_modChannel ..)).trans (inner_chooseSource ..)

theorem inner_placeRead (c tile buffer : Nat) (record : SheetRecord) (s : State) :
    Inner s (placeRead c tile buffer record s) := ⟨rfl, rfl, rfl⟩

theorem inner_placeReads (c : Nat) (s : State) : Inner s (placeReads c s) := by
  unfold placeReads
  split
  · exact Inner.refl s
  · refine Inner.foldl (fun s b => ?_) _ s
    unfold placeOne
    simp only
    split
    · exact (inner_placeRead ..).trans (inner_modChannel ..)
    · exact Inner.refl s

theorem inner_localBad (c n : Nat) (s : State) : Inner s (localBad c n s) := by
  unfold localBad
  simp only
  split
  · exact (((inner_withdrawReads ..).trans (inner_discardTiles ..)).trans (inner_modChannel ..)).trans
      (inner_chooseSource ..)
  · exact inner_modChannel ..

theorem inner_submitRefuse (dest tag : Nat) (reason : RefuseReason) (s : State) :
    Inner s (submitRefuse dest tag reason s) := (inner_countTransfers ..).trans (inner_submitSheet ..)

theorem inner_pumpWindow (c : Nat) (s : State) : Inner s (pumpWindow c s) := by
  unfold pumpWindow
  split
  · exact inner_buildWindow ..
  · split
    · exact (inner_modChannel ..).trans (inner_buildWindow ..)
    · exact Inner.refl s

theorem inner_pumpLocal (c : Nat) (s : State) : Inner s (pumpLocal c s) := by
  refine Inner.trans (t := if s.heldBy c = 0 then crewClaim c s else s) ?_ (inner_placeReads ..)
  split
  · exact inner_crewClaim ..
  · exact Inner.refl s

theorem inner_unlessOver {c : Nat} {f : State → State} (h : ∀ s, Inner s (f s)) (s : State) :
    Inner s (unlessOver c f s) := by
  unfold unlessOver
  dsimp only
  split
  · exact Inner.refl s
  · split
    · exact inner_endTransfer ..
    · exact h s

/-- A channel at the end of an event. -/
theorem inner_pumpChannel (s : State) (c : Nat) : Inner s (pumpChannel s c) := by
  unfold pumpChannel
  split
  · exact Inner.refl s
  · exact inner_placeReads ..
  · exact inner_unlessOver (inner_pumpLocal c) s
  all_goals
    dsimp only
    split
    · exact (inner_unlessOver (inner_pumpWindow c) s).trans (inner_unlessOver (inner_pumpLocal c) _)
    · exact inner_unlessOver (inner_pumpWindow c) s

theorem inner_pumpChannels (s : State) : Inner s (pumpChannels s) := Inner.foldl inner_pumpChannel _ s

theorem inner_readResult (r : TileRead) (data : Option (List Byte)) (s : State) : Inner s (readResult r data s) := by
  unfold readResult
  simp only
  split
  · exact inner_setBuffer ..
  · refine Inner.trans (inner_setBuffer r.buffer { holder := (s.buffer r.buffer).holder, state := .empty } s) ?_
    split
    · exact inner_localBad ..
    · exact (inner_submitRefuse ..).trans (inner_closeChannel ..)
    all_goals exact Inner.refl _

theorem inner_startAccess (n : NextAccess) (s : State) : Inner s (s.modStore (PlanStore.start s.clock n)) := by
  cases n <;> exact ⟨rfl, rfl, rfl⟩

/-- The store's part of the end of an event. -/
theorem inner_serveStore (fuel : Nat) (s : State) : Inner s (serveStore fuel s) := by
  induction fuel generalizing s with
  | zero => exact Inner.refl s
  | succ n ih =>
    unfold serveStore
    split
    · split
      · exact Inner.refl s
      · exact inner_startAccess _ s
      · split
        · exact inner_startAccess _ s
        · rename_i r _ _
          refine Inner.trans (t := s.modStore fun p => (p.take r).oneBad) ⟨rfl, rfl, rfl⟩ ?_
          exact (inner_readResult ..).trans (ih _)
    · exact Inner.refl s

theorem inner_settleTransfers (s : State) : Inner s (settleTransfers s) :=
  (inner_pumpChannels s).trans (inner_serveStore _ _)

/-! ### The arbiters -/

/-- An inner operation ends as the event made the state. -/
theorem Inner.endsAs {s t : State} (h : Inner s t) : EndsAs s t := by
  refine ⟨h.lasting, fun p m hp => ?_⟩
  cases p
  · simpa [State.port, h.portA] using hp
  · simpa [State.port, h.portB] using hp

theorem EndsAs.refl (s : State) : EndsAs s s := ⟨rfl, fun _ _ h => h⟩

theorem EndsAs.trans {s t u : State} (h : EndsAs s t) (g : EndsAs t u) : EndsAs s u :=
  ⟨g.lasting.trans h.lasting, fun p m hp => g.sending p m (h.sending p m hp)⟩

/-- A change of what a port is sending, of its rotation and of its stream's cursor, start and open pass, of nothing else. -/
theorem lasting_modPort (p : Port) (f : CrewPort → CrewPort) (s : State)
    (h : ∀ q, { f q with sending := none, rotation := 0, stream := { (f q).stream with cursor := 0, start := 0, passOpen := false } } =
      { q with sending := none, rotation := 0, stream := { q.stream with cursor := 0, start := 0, passOpen := false } }) :
    (s.modPort p f).lasting = s.lasting := by
  cases p
  · simp only [State.lasting, State.modPort, h s.portA]
  · simp only [State.lasting, State.modPort, h s.portB]

theorem lasting_beginMessage (p : Port) (source : MsgSource) (kind : Nat) (body : List Byte) (s : State) :
    (beginMessage p source kind body s).lasting = s.lasting := lasting_modPort p _ s fun _ => rfl

theorem lasting_startPass (p : Port) (s : State) : (startPass p s).lasting = s.lasting :=
  lasting_modPort p _ s fun _ => rfl

theorem lasting_beginSummary (p : Port) (f : Nat) (s : State) : (beginSummary p f s).lasting = s.lasting :=
  (lasting_modPort p (fun q => { q with stream := { q.stream with cursor := f + 1 } })
    (beginMessage p .summary 0x86 (summaryRecord f (s.floor f)) s) fun _ => rfl).trans (lasting_beginMessage ..)

theorem lasting_streamTurn (p : Port) (s : State) : (streamTurn p s).lasting = s.lasting := by
  unfold streamTurn
  have he : (endPass p s).lasting = s.lasting := lasting_modPort p _ s fun _ => rfl
  simp only
  split
  · split
    · exact lasting_beginSummary ..
    · split
      · split
        · exact ((lasting_beginSummary ..).trans (lasting_startPass ..)).trans he
        · exact (lasting_startPass ..).trans he
      · exact he
  · rfl

theorem lasting_beginNotice (p : Port) (k : NoticeKey) (s : State) : (beginNotice p k s).lasting = s.lasting := by
  unfold beginNotice
  have h := (inner_modNotices p (fun x => { x with due := x.due.drop 1 }) s fun _ => rfl).lasting
  simp only
  split
  · exact h
  · exact (lasting_beginMessage ..).trans h

theorem lasting_beginChannelMessage (p : Port) (c : Nat) (o : ChannelOffer) (s : State) :
    (beginChannelMessage p c o s).lasting = s.lasting := by
  unfold beginChannelMessage
  have h : (s.modPort p fun q => { q with rotation := c }).lasting = s.lasting := lasting_modPort p _ s fun _ => rfl
  simp only
  cases o with
  | restart n => exact (lasting_beginMessage ..).trans h
  | finished r => exact (lasting_beginMessage ..).trans h
  | tile b d =>
    exact (inner_setChannel ..).lasting.trans ((lasting_beginMessage ..).trans ((inner_setBuffer ..).lasting.trans h))
  | missing => exact (inner_setChannel ..).lasting.trans ((lasting_beginMessage ..).trans h)

theorem lasting_chooseMessage (p : Port) (s : State) : (chooseMessage p s).lasting = s.lasting := by
  unfold chooseMessage
  split
  · exact lasting_beginMessage ..
  · split
    · exact lasting_beginNotice ..
    · split
      · exact lasting_beginChannelMessage ..
      · exact lasting_streamTurn ..

/-- The other port, as a message of port `p` begins. -/
def State.otherPort (p : Port) (s : State) : CrewPort :=
  match p with
  | .a => s.portB
  | .b => s.portA

theorem otherPort_modPort (p : Port) (f : CrewPort → CrewPort) (s : State) : (s.modPort p f).otherPort p = s.otherPort p := by
  cases p <;> rfl

theorem otherPort_modNotices (p : Port) (f : NoticeController → NoticeController) (s : State) :
    (s.modNotices p f).otherPort p = s.otherPort p := by
  cases p <;> rfl

theorem otherPort_setChannel (p : Port) (c : Nat) (k : Channel) (s : State) :
    (s.setChannel c k).otherPort p = s.otherPort p := by
  cases p <;> rfl

theorem otherPort_setBuffer (p : Port) (b : Nat) (x : TileBuffer) (s : State) :
    (s.setBuffer b x).otherPort p = s.otherPort p := by
  cases p <;> rfl

theorem otherPort_chooseMessage (p : Port) (s : State) : (chooseMessage p s).otherPort p = s.otherPort p := by
  unfold chooseMessage
  split
  · exact otherPort_modPort ..
  · split
    · unfold beginNotice
      simp only
      split
      · exact otherPort_modNotices ..
      · exact (otherPort_modPort ..).trans (otherPort_modNotices ..)
    · split
      · unfold beginChannelMessage
        simp only
        split
        · exact (otherPort_modPort ..).trans (otherPort_modPort ..)
        · exact (otherPort_modPort ..).trans (otherPort_modPort ..)
        · exact (otherPort_setChannel ..).trans
            ((otherPort_modPort ..).trans ((otherPort_setBuffer ..).trans (otherPort_modPort ..)))
        · exact (otherPort_setChannel ..).trans ((otherPort_modPort ..).trans (otherPort_modPort ..))
      · unfold streamTurn
        simp only
        split
        · split
          · exact (otherPort_modPort ..).trans (otherPort_modPort ..)
          · split
            · split
              · exact (otherPort_modPort ..).trans ((otherPort_modPort ..).trans
                  ((otherPort_modPort ..).trans (otherPort_modPort ..)))
              · exact (otherPort_modPort ..).trans (otherPort_modPort ..)
            · exact otherPort_modPort ..
        · rfl

theorem endsAs_arbitrate (p : Port) (s : State) : EndsAs s (arbitrate p s) := by
  unfold arbitrate
  split
  · rename_i h
    refine ⟨lasting_chooseMessage p s, fun q m hq => ?_⟩
    have ho := otherPort_chooseMessage p s
    simp only [Bool.and_eq_true, Option.isNone_iff_eq_none] at h
    cases p <;> cases q <;> simp only [State.port, State.otherPort] at h hq ho ⊢
    · rw [h.2] at hq; cases hq
    · rw [ho]; exact hq
    · rw [ho]; exact hq
    · rw [h.2] at hq; cases hq
  · exact EndsAs.refl s

/-- A running station takes an event: its own effect, and its end. -/
theorem event_running {f : State → State} {s : State} (h : s.held = false) : event f s = .next (settle s (f s)) := by
  simp [event, h]

theorem quietEvent_running {f : State → State} {s : State} (h : s.held = false) : quietEvent f s = .next (f s) := by
  simp [quietEvent, h]

end Sys2Proof.Machine
end

