-- ==== Sys2Proof/Laws/Memory.lean ====
section
/-! SUPPORT. The plan store's bytes: every operation keeps the canonical form, and what a read gives after each. -/

namespace Sys2Proof.Machine

open Sys2Proof

theorem Memory.wfFrom_mono {m : Memory} {a b : Nat} (h : b ≤ a) (hm : Memory.wfFrom a m = true) :
    Memory.wfFrom b m = true := by
  cases m with
  | nil => rfl
  | cons c rest =>
    obtain ⟨k, v⟩ := c
    simp only [Memory.wfFrom, Bool.and_eq_true, decide_eq_true_eq] at hm ⊢
    exact ⟨⟨⟨by omega, hm.1.1.2⟩, hm.1.2⟩, hm.2⟩

/-- Below its first offset a store reads erased. -/
theorem Memory.read_below {m : Memory} {low a : Nat} (h : Memory.wfFrom low m = true) (ha : a < low) :
    m.read a = erasedByte := by
  cases m with
  | nil => rfl
  | cons c rest =>
    obtain ⟨k, v⟩ := c
    simp only [Memory.wfFrom, Bool.and_eq_true, decide_eq_true_eq] at h
    have h1 : ¬ k = a := by omega
    have h2 : a < k := by omega
    simp [Memory.read, h1, h2]

theorem Memory.write_wfFrom {m : Memory} {low a : Nat} (v : Byte) (h : Memory.wfFrom low m = true) (ha : low ≤ a) :
    Memory.wfFrom low (m.write a v) = true := by
  induction m generalizing low with
  | nil =>
    by_cases hs : storeSize ≤ a
    · simp [Memory.write, hs, Memory.wfFrom]
    · by_cases hv : v = erasedByte
      · simp [Memory.write, hs, hv, Memory.wfFrom]
      · simp only [Memory.write, if_neg hs, if_neg hv, Memory.wfFrom, Bool.and_eq_true, decide_eq_true_eq]
        exact ⟨⟨⟨ha, by omega⟩, hv⟩, trivial⟩
  | cons c rest ih =>
    obtain ⟨k, w⟩ := c
    have h0 := h
    simp only [Memory.wfFrom, Bool.and_eq_true, decide_eq_true_eq] at h
    obtain ⟨⟨⟨h1, h2⟩, h3⟩, h4⟩ := h
    unfold Memory.write
    split
    · exact h0
    · rename_i hs
      simp only
      split
      · rename_i hk
        subst hk
        split
        · exact Memory.wfFrom_mono (by omega) h4
        · simp_all [Memory.wfFrom]
      · split
        · split
          · exact h0
          · simp only [Memory.wfFrom, Bool.and_eq_true, decide_eq_true_eq]
            refine ⟨⟨⟨ha, by omega⟩, by assumption⟩, ⟨⟨by omega, h2⟩, h3⟩, h4⟩
        · simp only [Memory.wfFrom, Bool.and_eq_true, decide_eq_true_eq]
          exact ⟨⟨⟨h1, h2⟩, h3⟩, ih h4 (by omega)⟩

/-- A write keeps the canonical form. -/
theorem Memory.write_wf {m : Memory} (a : Nat) (v : Byte) (h : m.wf = true) : (m.write a v).wf = true :=
  Memory.write_wfFrom v h (Nat.zero_le a)

theorem Memory.read_write_same_from {m : Memory} {low a : Nat} (v : Byte) (h : Memory.wfFrom low m = true)
    (hs : a < storeSize) : (m.write a v).read a = v := by
  induction m generalizing low with
  | nil =>
    have h1 : ¬ storeSize ≤ a := by omega
    by_cases hv : v = erasedByte
    · simp [Memory.write, h1, hv, Memory.read]
    · simp [Memory.write, h1, hv, Memory.read]
  | cons c rest ih =>
    obtain ⟨k, w⟩ := c
    simp only [Memory.wfFrom, Bool.and_eq_true, decide_eq_true_eq] at h
    unfold Memory.write
    rw [if_neg (by omega)]
    simp only
    split
    · split
      · rename_i hk hv
        rw [Memory.read_below h.2 (by omega), hv]
      · simp [Memory.read]
    · split
      · rename_i hk hlt
        split
        · simp_all [Memory.read]
        · simp [Memory.read]
      · rename_i hk hlt
        simp only [Memory.read, if_neg hk, if_neg hlt]
        exact ih h.2

/-- A read after a write to the same offset gives the value written. -/
theorem Memory.read_write_same {m : Memory} {a : Nat} (v : Byte) (h : m.wf = true) (hs : a < storeSize) :
    (m.write a v).read a = v := Memory.read_write_same_from v h hs

theorem Memory.read_write_ne_from {m : Memory} {low a b : Nat} (v : Byte) (h : Memory.wfFrom low m = true) (hab : a ≠ b) :
    (m.write a v).read b = m.read b := by
  induction m generalizing low with
  | nil =>
    by_cases hs : storeSize ≤ a
    · simp [Memory.write, hs]
    · by_cases hv : v = erasedByte
      · simp [Memory.write, hs, hv]
      · simp [Memory.write, hs, hv, Memory.read, hab]
  | cons c rest ih =>
    obtain ⟨k, w⟩ := c
    simp only [Memory.wfFrom, Bool.and_eq_true, decide_eq_true_eq] at h
    unfold Memory.write
    split
    · rfl
    · simp only
      split
      · rename_i hk
        subst hk
        split
        · simp only [Memory.read, if_neg hab]
          split
          · exact Memory.read_below h.2 (by omega)
          · rfl
        · simp [Memory.read, hab]
      · split
        · split
          · rfl
          · rename_i hk hlt hv
            simp only [Memory.read, if_neg hab]
            split
            · rename_i hlt2
              rw [if_neg (by omega), if_pos (by omega)]
            · rfl
        · simp only [Memory.read, ih h.2]

/-- A write leaves every other offset as it was. -/
theorem Memory.read_write_ne {m : Memory} {a b : Nat} (v : Byte) (h : m.wf = true) (hab : a ≠ b) :
    (m.write a v).read b = m.read b := Memory.read_write_ne_from v h hab

/-- A write outside the store writes nothing. -/
theorem Memory.write_beyond (m : Memory) {a : Nat} (v : Byte) (h : storeSize ≤ a) : m.write a v = m := by
  unfold Memory.write
  simp [h]

/-! ### Programming, erasing and what an interrupted access leaves -/

theorem Memory.programByte_wf {m : Memory} (a : Nat) (d : Byte) (h : m.wf = true) : (m.programByte a d).wf = true :=
  Memory.write_wf a _ h

theorem Memory.program_wf {m : Memory} (a : Nat) (data : List Byte) (h : m.wf = true) : (m.program a data).wf = true := by
  induction data generalizing m a with
  | nil => exact h
  | cons d rest ih => exact ih (a + 1) (Memory.programByte_wf a d h)

theorem Memory.abandonWrite_wf {m : Memory} (draw a : Nat) (data : List Byte) (h : m.wf = true) :
    (m.abandonWrite draw a data).wf = true := by
  induction data generalizing m a with
  | nil => exact h
  | cons d rest ih =>
    unfold Memory.abandonWrite
    apply ih
    split
    · exact Memory.programByte_wf a d h
    · exact h

theorem Memory.timeoutWrite_wf {m : Memory} (draw a : Nat) (data : List Byte) (h : m.wf = true) :
    (m.timeoutWrite draw a data).wf = true := by
  induction data generalizing m a with
  | nil => exact h
  | cons d rest ih => exact ih (a + 1) (Memory.programByte_wf a _ h)

theorem Memory.filter_wfFrom {m : Memory} {low : Nat} (f : Host.Cell → Bool) (h : Memory.wfFrom low m = true) :
    Memory.wfFrom low (m.filter f) = true := by
  induction m generalizing low with
  | nil => rfl
  | cons c rest ih =>
    obtain ⟨k, v⟩ := c
    simp only [Memory.wfFrom, Bool.and_eq_true, decide_eq_true_eq] at h
    simp only [List.filter]
    split
    · simp only [Memory.wfFrom, Bool.and_eq_true, decide_eq_true_eq]
      exact ⟨h.1, ih h.2⟩
    · exact Memory.wfFrom_mono (by omega) (ih h.2)

theorem Memory.eraseBlock_wf {m : Memory} (block : Nat) (h : m.wf = true) : (m.eraseBlock block).wf = true :=
  Memory.filter_wfFrom _ h

theorem Memory.abandonErase_wf {m : Memory} (draw block : Nat) (h : m.wf = true) :
    (m.abandonErase draw block).wf = true := Memory.filter_wfFrom _ h

theorem Memory.residue_wf {m : Memory} (draw a n : Nat) (h : m.wf = true) : (m.residue draw a n).wf = true := by
  induction n generalizing a with
  | zero => exact h
  | succ n ih => exact Memory.write_wf a _ (ih (a + 1))

/-- What a read gives of a store whose bytes from `a` on hold free values. -/
theorem Memory.read_residue {m : Memory} (draw a n b : Nat) (h : m.wf = true) :
    (m.residue draw a n).read b =
      if a ≤ b ∧ b < a + n ∧ b < storeSize then Config.flashResidue draw b else m.read b := by
  induction n generalizing a with
  | zero => rw [if_neg (by omega)]; rfl
  | succ n ih =>
    unfold Memory.residue
    by_cases hab : a = b
    · subst hab
      by_cases hs : a < storeSize
      · rw [Memory.read_write_same _ (Memory.residue_wf _ _ _ h) hs, if_pos ⟨by omega, by omega, hs⟩]
      · rw [Memory.write_beyond _ _ (by omega), ih, if_neg (by omega), if_neg (by omega)]
    · rw [Memory.read_write_ne _ (Memory.residue_wf _ _ _ h) hab, ih]
      by_cases hc : a + 1 ≤ b ∧ b < a + 1 + n ∧ b < storeSize
      · rw [if_pos hc, if_pos (by omega)]
      · rw [if_neg hc, if_neg (by omega)]

theorem Memory.timeoutErase_wf {m : Memory} (draw block : Nat) (h : m.wf = true) :
    (m.timeoutErase draw block).wf = true := Memory.residue_wf _ _ _ h

/-- The store of the machine right after reset is in canonical form. -/
theorem reset_memory_wf : State.reset.store.memory.wf = true := rfl

/-- Programming leaves every offset outside the data as it was. -/
theorem Memory.read_program_outside {m : Memory} {a b : Nat} (data : List Byte) (h : m.wf = true)
    (hb : b < a ∨ a + data.length ≤ b) : (m.program a data).read b = m.read b := by
  induction data generalizing m a with
  | nil => rfl
  | cons d rest ih =>
    simp only [List.length_cons] at hb
    unfold Memory.program
    rw [ih (Memory.programByte_wf a d h) (by omega)]
    exact Memory.read_write_ne _ h (by omega)

end Sys2Proof.Machine
end

