-- ==== Sys2Proof/Laws/State.lean ====
section
/-! SUPPORT. One lemma for each field of the state under each of the named updates, so that no later proof unfolds a
record update. -/

namespace Sys2Proof.Machine

open Sys2Proof


/-! ### `modZones` -/

@[simp] theorem State.modZones_clock (f : ZoneUnit → ZoneUnit) (s : State) : (s.modZones f).clock = s.clock := rfl
@[simp] theorem State.modZones_held (f : ZoneUnit → ZoneUnit) (s : State) : (s.modZones f).held = s.held := rfl
@[simp] theorem State.modZones_address (f : ZoneUnit → ZoneUnit) (s : State) : (s.modZones f).address = s.address := rfl
@[simp] theorem State.modZones_maintenance (f : ZoneUnit → ZoneUnit) (s : State) : (s.modZones f).maintenance = s.maintenance := rfl
@[simp] theorem State.modZones_starting (f : ZoneUnit → ZoneUnit) (s : State) : (s.modZones f).starting = s.starting := rfl
@[simp] theorem State.modZones_noConfig (f : ZoneUnit → ZoneUnit) (s : State) : (s.modZones f).noConfig = s.noConfig := rfl
@[simp] theorem State.modZones_zones (f : ZoneUnit → ZoneUnit) (s : State) : (s.modZones f).zones = f s.zones := rfl
@[simp] theorem State.modZones_picture (f : ZoneUnit → ZoneUnit) (s : State) : (s.modZones f).picture = s.picture := rfl
@[simp] theorem State.modZones_peers (f : ZoneUnit → ZoneUnit) (s : State) : (s.modZones f).peers = s.peers := rfl
@[simp] theorem State.modZones_holders (f : ZoneUnit → ZoneUnit) (s : State) : (s.modZones f).holders = s.holders := rfl
@[simp] theorem State.modZones_marks (f : ZoneUnit → ZoneUnit) (s : State) : (s.modZones f).marks = s.marks := rfl
@[simp] theorem State.modZones_rlc (f : ZoneUnit → ZoneUnit) (s : State) : (s.modZones f).rlc = s.rlc := rfl
@[simp] theorem State.modZones_store (f : ZoneUnit → ZoneUnit) (s : State) : (s.modZones f).store = s.store := rfl
@[simp] theorem State.modZones_ste (f : ZoneUnit → ZoneUnit) (s : State) : (s.modZones f).ste = s.ste := rfl
@[simp] theorem State.modZones_portA (f : ZoneUnit → ZoneUnit) (s : State) : (s.modZones f).portA = s.portA := rfl
@[simp] theorem State.modZones_portB (f : ZoneUnit → ZoneUnit) (s : State) : (s.modZones f).portB = s.portB := rfl
@[simp] theorem State.modZones_noticesA (f : ZoneUnit → ZoneUnit) (s : State) : (s.modZones f).noticesA = s.noticesA := rfl
@[simp] theorem State.modZones_noticesB (f : ZoneUnit → ZoneUnit) (s : State) : (s.modZones f).noticesB = s.noticesB := rfl
@[simp] theorem State.modZones_draws (f : ZoneUnit → ZoneUnit) (s : State) : (s.modZones f).draws = s.draws := rfl
@[simp] theorem State.modZones_pending (f : ZoneUnit → ZoneUnit) (s : State) : (s.modZones f).pending = s.pending := rfl

/-! ### `modPicture` -/

@[simp] theorem State.modPicture_clock (f : TowerPicture → TowerPicture) (s : State) : (s.modPicture f).clock = s.clock := rfl
@[simp] theorem State.modPicture_held (f : TowerPicture → TowerPicture) (s : State) : (s.modPicture f).held = s.held := rfl
@[simp] theorem State.modPicture_address (f : TowerPicture → TowerPicture) (s : State) : (s.modPicture f).address = s.address := rfl
@[simp] theorem State.modPicture_maintenance (f : TowerPicture → TowerPicture) (s : State) : (s.modPicture f).maintenance = s.maintenance := rfl
@[simp] theorem State.modPicture_starting (f : TowerPicture → TowerPicture) (s : State) : (s.modPicture f).starting = s.starting := rfl
@[simp] theorem State.modPicture_noConfig (f : TowerPicture → TowerPicture) (s : State) : (s.modPicture f).noConfig = s.noConfig := rfl
@[simp] theorem State.modPicture_zones (f : TowerPicture → TowerPicture) (s : State) : (s.modPicture f).zones = s.zones := rfl
@[simp] theorem State.modPicture_picture (f : TowerPicture → TowerPicture) (s : State) : (s.modPicture f).picture = f s.picture := rfl
@[simp] theorem State.modPicture_peers (f : TowerPicture → TowerPicture) (s : State) : (s.modPicture f).peers = s.peers := rfl
@[simp] theorem State.modPicture_holders (f : TowerPicture → TowerPicture) (s : State) : (s.modPicture f).holders = s.holders := rfl
@[simp] theorem State.modPicture_marks (f : TowerPicture → TowerPicture) (s : State) : (s.modPicture f).marks = s.marks := rfl
@[simp] theorem State.modPicture_rlc (f : TowerPicture → TowerPicture) (s : State) : (s.modPicture f).rlc = s.rlc := rfl
@[simp] theorem State.modPicture_store (f : TowerPicture → TowerPicture) (s : State) : (s.modPicture f).store = s.store := rfl
@[simp] theorem State.modPicture_ste (f : TowerPicture → TowerPicture) (s : State) : (s.modPicture f).ste = s.ste := rfl
@[simp] theorem State.modPicture_portA (f : TowerPicture → TowerPicture) (s : State) : (s.modPicture f).portA = s.portA := rfl
@[simp] theorem State.modPicture_portB (f : TowerPicture → TowerPicture) (s : State) : (s.modPicture f).portB = s.portB := rfl
@[simp] theorem State.modPicture_noticesA (f : TowerPicture → TowerPicture) (s : State) : (s.modPicture f).noticesA = s.noticesA := rfl
@[simp] theorem State.modPicture_noticesB (f : TowerPicture → TowerPicture) (s : State) : (s.modPicture f).noticesB = s.noticesB := rfl
@[simp] theorem State.modPicture_draws (f : TowerPicture → TowerPicture) (s : State) : (s.modPicture f).draws = s.draws := rfl
@[simp] theorem State.modPicture_pending (f : TowerPicture → TowerPicture) (s : State) : (s.modPicture f).pending = s.pending := rfl

/-! ### `modPeers` -/

@[simp] theorem State.modPeers_clock (f : PeerTable → PeerTable) (s : State) : (s.modPeers f).clock = s.clock := rfl
@[simp] theorem State.modPeers_held (f : PeerTable → PeerTable) (s : State) : (s.modPeers f).held = s.held := rfl
@[simp] theorem State.modPeers_address (f : PeerTable → PeerTable) (s : State) : (s.modPeers f).address = s.address := rfl
@[simp] theorem State.modPeers_maintenance (f : PeerTable → PeerTable) (s : State) : (s.modPeers f).maintenance = s.maintenance := rfl
@[simp] theorem State.modPeers_starting (f : PeerTable → PeerTable) (s : State) : (s.modPeers f).starting = s.starting := rfl
@[simp] theorem State.modPeers_noConfig (f : PeerTable → PeerTable) (s : State) : (s.modPeers f).noConfig = s.noConfig := rfl
@[simp] theorem State.modPeers_zones (f : PeerTable → PeerTable) (s : State) : (s.modPeers f).zones = s.zones := rfl
@[simp] theorem State.modPeers_picture (f : PeerTable → PeerTable) (s : State) : (s.modPeers f).picture = s.picture := rfl
@[simp] theorem State.modPeers_peers (f : PeerTable → PeerTable) (s : State) : (s.modPeers f).peers = f s.peers := rfl
@[simp] theorem State.modPeers_holders (f : PeerTable → PeerTable) (s : State) : (s.modPeers f).holders = s.holders := rfl
@[simp] theorem State.modPeers_marks (f : PeerTable → PeerTable) (s : State) : (s.modPeers f).marks = s.marks := rfl
@[simp] theorem State.modPeers_rlc (f : PeerTable → PeerTable) (s : State) : (s.modPeers f).rlc = s.rlc := rfl
@[simp] theorem State.modPeers_store (f : PeerTable → PeerTable) (s : State) : (s.modPeers f).store = s.store := rfl
@[simp] theorem State.modPeers_ste (f : PeerTable → PeerTable) (s : State) : (s.modPeers f).ste = s.ste := rfl
@[simp] theorem State.modPeers_portA (f : PeerTable → PeerTable) (s : State) : (s.modPeers f).portA = s.portA := rfl
@[simp] theorem State.modPeers_portB (f : PeerTable → PeerTable) (s : State) : (s.modPeers f).portB = s.portB := rfl
@[simp] theorem State.modPeers_noticesA (f : PeerTable → PeerTable) (s : State) : (s.modPeers f).noticesA = s.noticesA := rfl
@[simp] theorem State.modPeers_noticesB (f : PeerTable → PeerTable) (s : State) : (s.modPeers f).noticesB = s.noticesB := rfl
@[simp] theorem State.modPeers_draws (f : PeerTable → PeerTable) (s : State) : (s.modPeers f).draws = s.draws := rfl
@[simp] theorem State.modPeers_pending (f : PeerTable → PeerTable) (s : State) : (s.modPeers f).pending = s.pending := rfl

/-! ### `modHolders` -/

@[simp] theorem State.modHolders_clock (f : HolderTable → HolderTable) (s : State) : (s.modHolders f).clock = s.clock := rfl
@[simp] theorem State.modHolders_held (f : HolderTable → HolderTable) (s : State) : (s.modHolders f).held = s.held := rfl
@[simp] theorem State.modHolders_address (f : HolderTable → HolderTable) (s : State) : (s.modHolders f).address = s.address := rfl
@[simp] theorem State.modHolders_maintenance (f : HolderTable → HolderTable) (s : State) : (s.modHolders f).maintenance = s.maintenance := rfl
@[simp] theorem State.modHolders_starting (f : HolderTable → HolderTable) (s : State) : (s.modHolders f).starting = s.starting := rfl
@[simp] theorem State.modHolders_noConfig (f : HolderTable → HolderTable) (s : State) : (s.modHolders f).noConfig = s.noConfig := rfl
@[simp] theorem State.modHolders_zones (f : HolderTable → HolderTable) (s : State) : (s.modHolders f).zones = s.zones := rfl
@[simp] theorem State.modHolders_picture (f : HolderTable → HolderTable) (s : State) : (s.modHolders f).picture = s.picture := rfl
@[simp] theorem State.modHolders_peers (f : HolderTable → HolderTable) (s : State) : (s.modHolders f).peers = s.peers := rfl
@[simp] theorem State.modHolders_holders (f : HolderTable → HolderTable) (s : State) : (s.modHolders f).holders = f s.holders := rfl
@[simp] theorem State.modHolders_marks (f : HolderTable → HolderTable) (s : State) : (s.modHolders f).marks = s.marks := rfl
@[simp] theorem State.modHolders_rlc (f : HolderTable → HolderTable) (s : State) : (s.modHolders f).rlc = s.rlc := rfl
@[simp] theorem State.modHolders_store (f : HolderTable → HolderTable) (s : State) : (s.modHolders f).store = s.store := rfl
@[simp] theorem State.modHolders_ste (f : HolderTable → HolderTable) (s : State) : (s.modHolders f).ste = s.ste := rfl
@[simp] theorem State.modHolders_portA (f : HolderTable → HolderTable) (s : State) : (s.modHolders f).portA = s.portA := rfl
@[simp] theorem State.modHolders_portB (f : HolderTable → HolderTable) (s : State) : (s.modHolders f).portB = s.portB := rfl
@[simp] theorem State.modHolders_noticesA (f : HolderTable → HolderTable) (s : State) : (s.modHolders f).noticesA = s.noticesA := rfl
@[simp] theorem State.modHolders_noticesB (f : HolderTable → HolderTable) (s : State) : (s.modHolders f).noticesB = s.noticesB := rfl
@[simp] theorem State.modHolders_draws (f : HolderTable → HolderTable) (s : State) : (s.modHolders f).draws = s.draws := rfl
@[simp] theorem State.modHolders_pending (f : HolderTable → HolderTable) (s : State) : (s.modHolders f).pending = s.pending := rfl

/-! ### `modMarks` -/

@[simp] theorem State.modMarks_clock (f : MarkCounts → MarkCounts) (s : State) : (s.modMarks f).clock = s.clock := rfl
@[simp] theorem State.modMarks_held (f : MarkCounts → MarkCounts) (s : State) : (s.modMarks f).held = s.held := rfl
@[simp] theorem State.modMarks_address (f : MarkCounts → MarkCounts) (s : State) : (s.modMarks f).address = s.address := rfl
@[simp] theorem State.modMarks_maintenance (f : MarkCounts → MarkCounts) (s : State) : (s.modMarks f).maintenance = s.maintenance := rfl
@[simp] theorem State.modMarks_starting (f : MarkCounts → MarkCounts) (s : State) : (s.modMarks f).starting = s.starting := rfl
@[simp] theorem State.modMarks_noConfig (f : MarkCounts → MarkCounts) (s : State) : (s.modMarks f).noConfig = s.noConfig := rfl
@[simp] theorem State.modMarks_zones (f : MarkCounts → MarkCounts) (s : State) : (s.modMarks f).zones = s.zones := rfl
@[simp] theorem State.modMarks_picture (f : MarkCounts → MarkCounts) (s : State) : (s.modMarks f).picture = s.picture := rfl
@[simp] theorem State.modMarks_peers (f : MarkCounts → MarkCounts) (s : State) : (s.modMarks f).peers = s.peers := rfl
@[simp] theorem State.modMarks_holders (f : MarkCounts → MarkCounts) (s : State) : (s.modMarks f).holders = s.holders := rfl
@[simp] theorem State.modMarks_marks (f : MarkCounts → MarkCounts) (s : State) : (s.modMarks f).marks = f s.marks := rfl
@[simp] theorem State.modMarks_rlc (f : MarkCounts → MarkCounts) (s : State) : (s.modMarks f).rlc = s.rlc := rfl
@[simp] theorem State.modMarks_store (f : MarkCounts → MarkCounts) (s : State) : (s.modMarks f).store = s.store := rfl
@[simp] theorem State.modMarks_ste (f : MarkCounts → MarkCounts) (s : State) : (s.modMarks f).ste = s.ste := rfl
@[simp] theorem State.modMarks_portA (f : MarkCounts → MarkCounts) (s : State) : (s.modMarks f).portA = s.portA := rfl
@[simp] theorem State.modMarks_portB (f : MarkCounts → MarkCounts) (s : State) : (s.modMarks f).portB = s.portB := rfl
@[simp] theorem State.modMarks_noticesA (f : MarkCounts → MarkCounts) (s : State) : (s.modMarks f).noticesA = s.noticesA := rfl
@[simp] theorem State.modMarks_noticesB (f : MarkCounts → MarkCounts) (s : State) : (s.modMarks f).noticesB = s.noticesB := rfl
@[simp] theorem State.modMarks_draws (f : MarkCounts → MarkCounts) (s : State) : (s.modMarks f).draws = s.draws := rfl
@[simp] theorem State.modMarks_pending (f : MarkCounts → MarkCounts) (s : State) : (s.modMarks f).pending = s.pending := rfl

/-! ### `modRlc` -/

@[simp] theorem State.modRlc_clock (f : RiserLink → RiserLink) (s : State) : (s.modRlc f).clock = s.clock := rfl
@[simp] theorem State.modRlc_held (f : RiserLink → RiserLink) (s : State) : (s.modRlc f).held = s.held := rfl
@[simp] theorem State.modRlc_address (f : RiserLink → RiserLink) (s : State) : (s.modRlc f).address = s.address := rfl
@[simp] theorem State.modRlc_maintenance (f : RiserLink → RiserLink) (s : State) : (s.modRlc f).maintenance = s.maintenance := rfl
@[simp] theorem State.modRlc_starting (f : RiserLink → RiserLink) (s : State) : (s.modRlc f).starting = s.starting := rfl
@[simp] theorem State.modRlc_noConfig (f : RiserLink → RiserLink) (s : State) : (s.modRlc f).noConfig = s.noConfig := rfl
@[simp] theorem State.modRlc_zones (f : RiserLink → RiserLink) (s : State) : (s.modRlc f).zones = s.zones := rfl
@[simp] theorem State.modRlc_picture (f : RiserLink → RiserLink) (s : State) : (s.modRlc f).picture = s.picture := rfl
@[simp] theorem State.modRlc_peers (f : RiserLink → RiserLink) (s : State) : (s.modRlc f).peers = s.peers := rfl
@[simp] theorem State.modRlc_holders (f : RiserLink → RiserLink) (s : State) : (s.modRlc f).holders = s.holders := rfl
@[simp] theorem State.modRlc_marks (f : RiserLink → RiserLink) (s : State) : (s.modRlc f).marks = s.marks := rfl
@[simp] theorem State.modRlc_rlc (f : RiserLink → RiserLink) (s : State) : (s.modRlc f).rlc = f s.rlc := rfl
@[simp] theorem State.modRlc_store (f : RiserLink → RiserLink) (s : State) : (s.modRlc f).store = s.store := rfl
@[simp] theorem State.modRlc_ste (f : RiserLink → RiserLink) (s : State) : (s.modRlc f).ste = s.ste := rfl
@[simp] theorem State.modRlc_portA (f : RiserLink → RiserLink) (s : State) : (s.modRlc f).portA = s.portA := rfl
@[simp] theorem State.modRlc_portB (f : RiserLink → RiserLink) (s : State) : (s.modRlc f).portB = s.portB := rfl
@[simp] theorem State.modRlc_noticesA (f : RiserLink → RiserLink) (s : State) : (s.modRlc f).noticesA = s.noticesA := rfl
@[simp] theorem State.modRlc_noticesB (f : RiserLink → RiserLink) (s : State) : (s.modRlc f).noticesB = s.noticesB := rfl
@[simp] theorem State.modRlc_draws (f : RiserLink → RiserLink) (s : State) : (s.modRlc f).draws = s.draws := rfl
@[simp] theorem State.modRlc_pending (f : RiserLink → RiserLink) (s : State) : (s.modRlc f).pending = s.pending := rfl

/-! ### `modStore` -/

@[simp] theorem State.modStore_clock (f : PlanStore → PlanStore) (s : State) : (s.modStore f).clock = s.clock := rfl
@[simp] theorem State.modStore_held (f : PlanStore → PlanStore) (s : State) : (s.modStore f).held = s.held := rfl
@[simp] theorem State.modStore_address (f : PlanStore → PlanStore) (s : State) : (s.modStore f).address = s.address := rfl
@[simp] theorem State.modStore_maintenance (f : PlanStore → PlanStore) (s : State) : (s.modStore f).maintenance = s.maintenance := rfl
@[simp] theorem State.modStore_starting (f : PlanStore → PlanStore) (s : State) : (s.modStore f).starting = s.starting := rfl
@[simp] theorem State.modStore_noConfig (f : PlanStore → PlanStore) (s : State) : (s.modStore f).noConfig = s.noConfig := rfl
@[simp] theorem State.modStore_zones (f : PlanStore → PlanStore) (s : State) : (s.modStore f).zones = s.zones := rfl
@[simp] theorem State.modStore_picture (f : PlanStore → PlanStore) (s : State) : (s.modStore f).picture = s.picture := rfl
@[simp] theorem State.modStore_peers (f : PlanStore → PlanStore) (s : State) : (s.modStore f).peers = s.peers := rfl
@[simp] theorem State.modStore_holders (f : PlanStore → PlanStore) (s : State) : (s.modStore f).holders = s.holders := rfl
@[simp] theorem State.modStore_marks (f : PlanStore → PlanStore) (s : State) : (s.modStore f).marks = s.marks := rfl
@[simp] theorem State.modStore_rlc (f : PlanStore → PlanStore) (s : State) : (s.modStore f).rlc = s.rlc := rfl
@[simp] theorem State.modStore_store (f : PlanStore → PlanStore) (s : State) : (s.modStore f).store = f s.store := rfl
@[simp] theorem State.modStore_ste (f : PlanStore → PlanStore) (s : State) : (s.modStore f).ste = s.ste := rfl
@[simp] theorem State.modStore_portA (f : PlanStore → PlanStore) (s : State) : (s.modStore f).portA = s.portA := rfl
@[simp] theorem State.modStore_portB (f : PlanStore → PlanStore) (s : State) : (s.modStore f).portB = s.portB := rfl
@[simp] theorem State.modStore_noticesA (f : PlanStore → PlanStore) (s : State) : (s.modStore f).noticesA = s.noticesA := rfl
@[simp] theorem State.modStore_noticesB (f : PlanStore → PlanStore) (s : State) : (s.modStore f).noticesB = s.noticesB := rfl
@[simp] theorem State.modStore_draws (f : PlanStore → PlanStore) (s : State) : (s.modStore f).draws = s.draws := rfl
@[simp] theorem State.modStore_pending (f : PlanStore → PlanStore) (s : State) : (s.modStore f).pending = s.pending := rfl

/-! ### `modSte` -/

@[simp] theorem State.modSte_clock (f : TransferEngine → TransferEngine) (s : State) : (s.modSte f).clock = s.clock := rfl
@[simp] theorem State.modSte_held (f : TransferEngine → TransferEngine) (s : State) : (s.modSte f).held = s.held := rfl
@[simp] theorem State.modSte_address (f : TransferEngine → TransferEngine) (s : State) : (s.modSte f).address = s.address := rfl
@[simp] theorem State.modSte_maintenance (f : TransferEngine → TransferEngine) (s : State) : (s.modSte f).maintenance = s.maintenance := rfl
@[simp] theorem State.modSte_starting (f : TransferEngine → TransferEngine) (s : State) : (s.modSte f).starting = s.starting := rfl
@[simp] theorem State.modSte_noConfig (f : TransferEngine → TransferEngine) (s : State) : (s.modSte f).noConfig = s.noConfig := rfl
@[simp] theorem State.modSte_zones (f : TransferEngine → TransferEngine) (s : State) : (s.modSte f).zones = s.zones := rfl
@[simp] theorem State.modSte_picture (f : TransferEngine → TransferEngine) (s : State) : (s.modSte f).picture = s.picture := rfl
@[simp] theorem State.modSte_peers (f : TransferEngine → TransferEngine) (s : State) : (s.modSte f).peers = s.peers := rfl
@[simp] theorem State.modSte_holders (f : TransferEngine → TransferEngine) (s : State) : (s.modSte f).holders = s.holders := rfl
@[simp] theorem State.modSte_marks (f : TransferEngine → TransferEngine) (s : State) : (s.modSte f).marks = s.marks := rfl
@[simp] theorem State.modSte_rlc (f : TransferEngine → TransferEngine) (s : State) : (s.modSte f).rlc = s.rlc := rfl
@[simp] theorem State.modSte_store (f : TransferEngine → TransferEngine) (s : State) : (s.modSte f).store = s.store := rfl
@[simp] theorem State.modSte_ste (f : TransferEngine → TransferEngine) (s : State) : (s.modSte f).ste = f s.ste := rfl
@[simp] theorem State.modSte_portA (f : TransferEngine → TransferEngine) (s : State) : (s.modSte f).portA = s.portA := rfl
@[simp] theorem State.modSte_portB (f : TransferEngine → TransferEngine) (s : State) : (s.modSte f).portB = s.portB := rfl
@[simp] theorem State.modSte_noticesA (f : TransferEngine → TransferEngine) (s : State) : (s.modSte f).noticesA = s.noticesA := rfl
@[simp] theorem State.modSte_noticesB (f : TransferEngine → TransferEngine) (s : State) : (s.modSte f).noticesB = s.noticesB := rfl
@[simp] theorem State.modSte_draws (f : TransferEngine → TransferEngine) (s : State) : (s.modSte f).draws = s.draws := rfl
@[simp] theorem State.modSte_pending (f : TransferEngine → TransferEngine) (s : State) : (s.modSte f).pending = s.pending := rfl

/-! ### `modPort` -/

@[simp] theorem State.modPort_clock (p : Port) (f : CrewPort → CrewPort) (s : State) : (s.modPort p f).clock = s.clock := by
  cases p <;> rfl
@[simp] theorem State.modPort_held (p : Port) (f : CrewPort → CrewPort) (s : State) : (s.modPort p f).held = s.held := by
  cases p <;> rfl
@[simp] theorem State.modPort_address (p : Port) (f : CrewPort → CrewPort) (s : State) : (s.modPort p f).address = s.address := by
  cases p <;> rfl
@[simp] theorem State.modPort_maintenance (p : Port) (f : CrewPort → CrewPort) (s : State) : (s.modPort p f).maintenance = s.maintenance := by
  cases p <;> rfl
@[simp] theorem State.modPort_starting (p : Port) (f : CrewPort → CrewPort) (s : State) : (s.modPort p f).starting = s.starting := by
  cases p <;> rfl
@[simp] theorem State.modPort_noConfig (p : Port) (f : CrewPort → CrewPort) (s : State) : (s.modPort p f).noConfig = s.noConfig := by
  cases p <;> rfl
@[simp] theorem State.modPort_zones (p : Port) (f : CrewPort → CrewPort) (s : State) : (s.modPort p f).zones = s.zones := by
  cases p <;> rfl
@[simp] theorem State.modPort_picture (p : Port) (f : CrewPort → CrewPort) (s : State) : (s.modPort p f).picture = s.picture := by
  cases p <;> rfl
@[simp] theorem State.modPort_peers (p : Port) (f : CrewPort → CrewPort) (s : State) : (s.modPort p f).peers = s.peers := by
  cases p <;> rfl
@[simp] theorem State.modPort_holders (p : Port) (f : CrewPort → CrewPort) (s : State) : (s.modPort p f).holders = s.holders := by
  cases p <;> rfl
@[simp] theorem State.modPort_marks (p : Port) (f : CrewPort → CrewPort) (s : State) : (s.modPort p f).marks = s.marks := by
  cases p <;> rfl
@[simp] theorem State.modPort_rlc (p : Port) (f : CrewPort → CrewPort) (s : State) : (s.modPort p f).rlc = s.rlc := by
  cases p <;> rfl
@[simp] theorem State.modPort_store (p : Port) (f : CrewPort → CrewPort) (s : State) : (s.modPort p f).store = s.store := by
  cases p <;> rfl
@[simp] theorem State.modPort_ste (p : Port) (f : CrewPort → CrewPort) (s : State) : (s.modPort p f).ste = s.ste := by
  cases p <;> rfl
@[simp] theorem State.modPort_noticesA (p : Port) (f : CrewPort → CrewPort) (s : State) : (s.modPort p f).noticesA = s.noticesA := by
  cases p <;> rfl
@[simp] theorem State.modPort_noticesB (p : Port) (f : CrewPort → CrewPort) (s : State) : (s.modPort p f).noticesB = s.noticesB := by
  cases p <;> rfl
@[simp] theorem State.modPort_draws (p : Port) (f : CrewPort → CrewPort) (s : State) : (s.modPort p f).draws = s.draws := by
  cases p <;> rfl
@[simp] theorem State.modPort_pending (p : Port) (f : CrewPort → CrewPort) (s : State) : (s.modPort p f).pending = s.pending := by
  cases p <;> rfl
@[simp] theorem State.modPort_port (p : Port) (f : CrewPort → CrewPort) (s : State) :
    (s.modPort p f).port p = f (s.port p) := by cases p <;> rfl
theorem State.modPort_port_ne {p q : Port} (h : q ≠ p) (f : CrewPort → CrewPort) (s : State) :
    (s.modPort p f).port q = s.port q := by cases p <;> cases q <;> first | rfl | exact absurd rfl h

/-! ### `modNotices` -/

@[simp] theorem State.modNotices_clock (p : Port) (f : NoticeController → NoticeController) (s : State) : (s.modNotices p f).clock = s.clock := by
  cases p <;> rfl
@[simp] theorem State.modNotices_held (p : Port) (f : NoticeController → NoticeController) (s : State) : (s.modNotices p f).held = s.held := by
  cases p <;> rfl
@[simp] theorem State.modNotices_address (p : Port) (f : NoticeController → NoticeController) (s : State) : (s.modNotices p f).address = s.address := by
  cases p <;> rfl
@[simp] theorem State.modNotices_maintenance (p : Port) (f : NoticeController → NoticeController) (s : State) : (s.modNotices p f).maintenance = s.maintenance := by
  cases p <;> rfl
@[simp] theorem State.modNotices_starting (p : Port) (f : NoticeController → NoticeController) (s : State) : (s.modNotices p f).starting = s.starting := by
  cases p <;> rfl
@[simp] theorem State.modNotices_noConfig (p : Port) (f : NoticeController → NoticeController) (s : State) : (s.modNotices p f).noConfig = s.noConfig := by
  cases p <;> rfl
@[simp] theorem State.modNotices_zones (p : Port) (f : NoticeController → NoticeController) (s : State) : (s.modNotices p f).zones = s.zones := by
  cases p <;> rfl
@[simp] theorem State.modNotices_picture (p : Port) (f : NoticeController → NoticeController) (s : State) : (s.modNotices p f).picture = s.picture := by
  cases p <;> rfl
@[simp] theorem State.modNotices_peers (p : Port) (f : NoticeController → NoticeController) (s : State) : (s.modNotices p f).peers = s.peers := by
  cases p <;> rfl
@[simp] theorem State.modNotices_holders (p : Port) (f : NoticeController → NoticeController) (s : State) : (s.modNotices p f).holders = s.holders := by
  cases p <;> rfl
@[simp] theorem State.modNotices_marks (p : Port) (f : NoticeController → NoticeController) (s : State) : (s.modNotices p f).marks = s.marks := by
  cases p <;> rfl
@[simp] theorem State.modNotices_rlc (p : Port) (f : NoticeController → NoticeController) (s : State) : (s.modNotices p f).rlc = s.rlc := by
  cases p <;> rfl
@[simp] theorem State.modNotices_store (p : Port) (f : NoticeController → NoticeController) (s : State) : (s.modNotices p f).store = s.store := by
  cases p <;> rfl
@[simp] theorem State.modNotices_ste (p : Port) (f : NoticeController → NoticeController) (s : State) : (s.modNotices p f).ste = s.ste := by
  cases p <;> rfl
@[simp] theorem State.modNotices_portA (p : Port) (f : NoticeController → NoticeController) (s : State) : (s.modNotices p f).portA = s.portA := by
  cases p <;> rfl
@[simp] theorem State.modNotices_portB (p : Port) (f : NoticeController → NoticeController) (s : State) : (s.modNotices p f).portB = s.portB := by
  cases p <;> rfl
@[simp] theorem State.modNotices_draws (p : Port) (f : NoticeController → NoticeController) (s : State) : (s.modNotices p f).draws = s.draws := by
  cases p <;> rfl
@[simp] theorem State.modNotices_pending (p : Port) (f : NoticeController → NoticeController) (s : State) : (s.modNotices p f).pending = s.pending := by
  cases p <;> rfl
@[simp] theorem State.modNotices_notices (p : Port) (f : NoticeController → NoticeController) (s : State) :
    (s.modNotices p f).notices p = f (s.notices p) := by cases p <;> rfl
theorem State.modNotices_notices_ne {p q : Port} (h : q ≠ p) (f : NoticeController → NoticeController) (s : State) :
    (s.modNotices p f).notices q = s.notices q := by cases p <;> cases q <;> first | rfl | exact absurd rfl h
@[simp] theorem State.modPort_notices (p q : Port) (f : CrewPort → CrewPort) (s : State) :
    (s.modPort p f).notices q = s.notices q := by cases p <;> cases q <;> rfl
@[simp] theorem State.modNotices_port (p q : Port) (f : NoticeController → NoticeController) (s : State) :
    (s.modNotices p f).port q = s.port q := by cases p <;> cases q <;> rfl
@[simp] theorem State.modZones_port (p : Port) (f : ZoneUnit → ZoneUnit) (s : State) : (s.modZones f).port p = s.port p := by
  cases p <;> rfl
@[simp] theorem State.modZones_notices (p : Port) (f : ZoneUnit → ZoneUnit) (s : State) : (s.modZones f).notices p = s.notices p := by
  cases p <;> rfl
@[simp] theorem State.modPicture_port (p : Port) (f : TowerPicture → TowerPicture) (s : State) : (s.modPicture f).port p = s.port p := by
  cases p <;> rfl
@[simp] theorem State.modPicture_notices (p : Port) (f : TowerPicture → TowerPicture) (s : State) : (s.modPicture f).notices p = s.notices p := by
  cases p <;> rfl
@[simp] theorem State.modPeers_port (p : Port) (f : PeerTable → PeerTable) (s : State) : (s.modPeers f).port p = s.port p := by
  cases p <;> rfl
@[simp] theorem State.modPeers_notices (p : Port) (f : PeerTable → PeerTable) (s : State) : (s.modPeers f).notices p = s.notices p := by
  cases p <;> rfl
@[simp] theorem State.modHolders_port (p : Port) (f : HolderTable → HolderTable) (s : State) : (s.modHolders f).port p = s.port p := by
  cases p <;> rfl
@[simp] theorem State.modHolders_notices (p : Port) (f : HolderTable → HolderTable) (s : State) : (s.modHolders f).notices p = s.notices p := by
  cases p <;> rfl
@[simp] theorem State.modMarks_port (p : Port) (f : MarkCounts → MarkCounts) (s : State) : (s.modMarks f).port p = s.port p := by
  cases p <;> rfl
@[simp] theorem State.modMarks_notices (p : Port) (f : MarkCounts → MarkCounts) (s : State) : (s.modMarks f).notices p = s.notices p := by
  cases p <;> rfl
@[simp] theorem State.modRlc_port (p : Port) (f : RiserLink → RiserLink) (s : State) : (s.modRlc f).port p = s.port p := by
  cases p <;> rfl
@[simp] theorem State.modRlc_notices (p : Port) (f : RiserLink → RiserLink) (s : State) : (s.modRlc f).notices p = s.notices p := by
  cases p <;> rfl
@[simp] theorem State.modStore_port (p : Port) (f : PlanStore → PlanStore) (s : State) : (s.modStore f).port p = s.port p := by
  cases p <;> rfl
@[simp] theorem State.modStore_notices (p : Port) (f : PlanStore → PlanStore) (s : State) : (s.modStore f).notices p = s.notices p := by
  cases p <;> rfl
@[simp] theorem State.modSte_port (p : Port) (f : TransferEngine → TransferEngine) (s : State) : (s.modSte f).port p = s.port p := by
  cases p <;> rfl
@[simp] theorem State.modSte_notices (p : Port) (f : TransferEngine → TransferEngine) (s : State) : (s.modSte f).notices p = s.notices p := by
  cases p <;> rfl

/-! ### `setLine` -/

@[simp] theorem State.setLine_clock (i : Nat) (x : LineRecord) (s : State) : (s.setLine i x).clock = s.clock := rfl
@[simp] theorem State.setLine_held (i : Nat) (x : LineRecord) (s : State) : (s.setLine i x).held = s.held := rfl
@[simp] theorem State.setLine_address (i : Nat) (x : LineRecord) (s : State) : (s.setLine i x).address = s.address := rfl
@[simp] theorem State.setLine_maintenance (i : Nat) (x : LineRecord) (s : State) : (s.setLine i x).maintenance = s.maintenance := rfl
@[simp] theorem State.setLine_starting (i : Nat) (x : LineRecord) (s : State) : (s.setLine i x).starting = s.starting := rfl
@[simp] theorem State.setLine_noConfig (i : Nat) (x : LineRecord) (s : State) : (s.setLine i x).noConfig = s.noConfig := rfl
@[simp] theorem State.setLine_picture (i : Nat) (x : LineRecord) (s : State) : (s.setLine i x).picture = s.picture := rfl
@[simp] theorem State.setLine_peers (i : Nat) (x : LineRecord) (s : State) : (s.setLine i x).peers = s.peers := rfl
@[simp] theorem State.setLine_holders (i : Nat) (x : LineRecord) (s : State) : (s.setLine i x).holders = s.holders := rfl
@[simp] theorem State.setLine_marks (i : Nat) (x : LineRecord) (s : State) : (s.setLine i x).marks = s.marks := rfl
@[simp] theorem State.setLine_rlc (i : Nat) (x : LineRecord) (s : State) : (s.setLine i x).rlc = s.rlc := rfl
@[simp] theorem State.setLine_store (i : Nat) (x : LineRecord) (s : State) : (s.setLine i x).store = s.store := rfl
@[simp] theorem State.setLine_ste (i : Nat) (x : LineRecord) (s : State) : (s.setLine i x).ste = s.ste := rfl
@[simp] theorem State.setLine_portA (i : Nat) (x : LineRecord) (s : State) : (s.setLine i x).portA = s.portA := rfl
@[simp] theorem State.setLine_portB (i : Nat) (x : LineRecord) (s : State) : (s.setLine i x).portB = s.portB := rfl
@[simp] theorem State.setLine_noticesA (i : Nat) (x : LineRecord) (s : State) : (s.setLine i x).noticesA = s.noticesA := rfl
@[simp] theorem State.setLine_noticesB (i : Nat) (x : LineRecord) (s : State) : (s.setLine i x).noticesB = s.noticesB := rfl
@[simp] theorem State.setLine_draws (i : Nat) (x : LineRecord) (s : State) : (s.setLine i x).draws = s.draws := rfl
@[simp] theorem State.setLine_pending (i : Nat) (x : LineRecord) (s : State) : (s.setLine i x).pending = s.pending := rfl
@[simp] theorem State.setLine_port (i : Nat) (x : LineRecord) (p : Port) (s : State) : (s.setLine i x).port p = s.port p := by cases p <;> rfl
@[simp] theorem State.setLine_notices (i : Nat) (x : LineRecord) (p : Port) (s : State) : (s.setLine i x).notices p = s.notices p := by
  cases p <;> rfl

/-! ### `setEntry` -/

@[simp] theorem State.setEntry_clock (o l : Nat) (x : ZoneEntry) (s : State) : (s.setEntry o l x).clock = s.clock := rfl
@[simp] theorem State.setEntry_held (o l : Nat) (x : ZoneEntry) (s : State) : (s.setEntry o l x).held = s.held := rfl
@[simp] theorem State.setEntry_address (o l : Nat) (x : ZoneEntry) (s : State) : (s.setEntry o l x).address = s.address := rfl
@[simp] theorem State.setEntry_maintenance (o l : Nat) (x : ZoneEntry) (s : State) : (s.setEntry o l x).maintenance = s.maintenance := rfl
@[simp] theorem State.setEntry_starting (o l : Nat) (x : ZoneEntry) (s : State) : (s.setEntry o l x).starting = s.starting := rfl
@[simp] theorem State.setEntry_noConfig (o l : Nat) (x : ZoneEntry) (s : State) : (s.setEntry o l x).noConfig = s.noConfig := rfl
@[simp] theorem State.setEntry_zones (o l : Nat) (x : ZoneEntry) (s : State) : (s.setEntry o l x).zones = s.zones := rfl
@[simp] theorem State.setEntry_peers (o l : Nat) (x : ZoneEntry) (s : State) : (s.setEntry o l x).peers = s.peers := rfl
@[simp] theorem State.setEntry_holders (o l : Nat) (x : ZoneEntry) (s : State) : (s.setEntry o l x).holders = s.holders := rfl
@[simp] theorem State.setEntry_marks (o l : Nat) (x : ZoneEntry) (s : State) : (s.setEntry o l x).marks = s.marks := rfl
@[simp] theorem State.setEntry_rlc (o l : Nat) (x : ZoneEntry) (s : State) : (s.setEntry o l x).rlc = s.rlc := rfl
@[simp] theorem State.setEntry_store (o l : Nat) (x : ZoneEntry) (s : State) : (s.setEntry o l x).store = s.store := rfl
@[simp] theorem State.setEntry_ste (o l : Nat) (x : ZoneEntry) (s : State) : (s.setEntry o l x).ste = s.ste := rfl
@[simp] theorem State.setEntry_portA (o l : Nat) (x : ZoneEntry) (s : State) : (s.setEntry o l x).portA = s.portA := rfl
@[simp] theorem State.setEntry_portB (o l : Nat) (x : ZoneEntry) (s : State) : (s.setEntry o l x).portB = s.portB := rfl
@[simp] theorem State.setEntry_noticesA (o l : Nat) (x : ZoneEntry) (s : State) : (s.setEntry o l x).noticesA = s.noticesA := rfl
@[simp] theorem State.setEntry_noticesB (o l : Nat) (x : ZoneEntry) (s : State) : (s.setEntry o l x).noticesB = s.noticesB := rfl
@[simp] theorem State.setEntry_draws (o l : Nat) (x : ZoneEntry) (s : State) : (s.setEntry o l x).draws = s.draws := rfl
@[simp] theorem State.setEntry_pending (o l : Nat) (x : ZoneEntry) (s : State) : (s.setEntry o l x).pending = s.pending := rfl
@[simp] theorem State.setEntry_port (o l : Nat) (x : ZoneEntry) (p : Port) (s : State) : (s.setEntry o l x).port p = s.port p := by cases p <;> rfl
@[simp] theorem State.setEntry_notices (o l : Nat) (x : ZoneEntry) (p : Port) (s : State) : (s.setEntry o l x).notices p = s.notices p := by
  cases p <;> rfl

/-! ### `setFloor` -/

@[simp] theorem State.setFloor_clock (i : Nat) (x : FloorSummary) (s : State) : (s.setFloor i x).clock = s.clock := rfl
@[simp] theorem State.setFloor_held (i : Nat) (x : FloorSummary) (s : State) : (s.setFloor i x).held = s.held := rfl
@[simp] theorem State.setFloor_address (i : Nat) (x : FloorSummary) (s : State) : (s.setFloor i x).address = s.address := rfl
@[simp] theorem State.setFloor_maintenance (i : Nat) (x : FloorSummary) (s : State) : (s.setFloor i x).maintenance = s.maintenance := rfl
@[simp] theorem State.setFloor_starting (i : Nat) (x : FloorSummary) (s : State) : (s.setFloor i x).starting = s.starting := rfl
@[simp] theorem State.setFloor_noConfig (i : Nat) (x : FloorSummary) (s : State) : (s.setFloor i x).noConfig = s.noConfig := rfl
@[simp] theorem State.setFloor_zones (i : Nat) (x : FloorSummary) (s : State) : (s.setFloor i x).zones = s.zones := rfl
@[simp] theorem State.setFloor_peers (i : Nat) (x : FloorSummary) (s : State) : (s.setFloor i x).peers = s.peers := rfl
@[simp] theorem State.setFloor_holders (i : Nat) (x : FloorSummary) (s : State) : (s.setFloor i x).holders = s.holders := rfl
@[simp] theorem State.setFloor_marks (i : Nat) (x : FloorSummary) (s : State) : (s.setFloor i x).marks = s.marks := rfl
@[simp] theorem State.setFloor_rlc (i : Nat) (x : FloorSummary) (s : State) : (s.setFloor i x).rlc = s.rlc := rfl
@[simp] theorem State.setFloor_store (i : Nat) (x : FloorSummary) (s : State) : (s.setFloor i x).store = s.store := rfl
@[simp] theorem State.setFloor_ste (i : Nat) (x : FloorSummary) (s : State) : (s.setFloor i x).ste = s.ste := rfl
@[simp] theorem State.setFloor_portA (i : Nat) (x : FloorSummary) (s : State) : (s.setFloor i x).portA = s.portA := rfl
@[simp] theorem State.setFloor_portB (i : Nat) (x : FloorSummary) (s : State) : (s.setFloor i x).portB = s.portB := rfl
@[simp] theorem State.setFloor_noticesA (i : Nat) (x : FloorSummary) (s : State) : (s.setFloor i x).noticesA = s.noticesA := rfl
@[simp] theorem State.setFloor_noticesB (i : Nat) (x : FloorSummary) (s : State) : (s.setFloor i x).noticesB = s.noticesB := rfl
@[simp] theorem State.setFloor_draws (i : Nat) (x : FloorSummary) (s : State) : (s.setFloor i x).draws = s.draws := rfl
@[simp] theorem State.setFloor_pending (i : Nat) (x : FloorSummary) (s : State) : (s.setFloor i x).pending = s.pending := rfl
@[simp] theorem State.setFloor_port (i : Nat) (x : FloorSummary) (p : Port) (s : State) : (s.setFloor i x).port p = s.port p := by cases p <;> rfl
@[simp] theorem State.setFloor_notices (i : Nat) (x : FloorSummary) (p : Port) (s : State) : (s.setFloor i x).notices p = s.notices p := by
  cases p <;> rfl

/-! ### `setPeer` -/

@[simp] theorem State.setPeer_clock (i : Nat) (x : PeerRecord) (s : State) : (s.setPeer i x).clock = s.clock := rfl
@[simp] theorem State.setPeer_held (i : Nat) (x : PeerRecord) (s : State) : (s.setPeer i x).held = s.held := rfl
@[simp] theorem State.setPeer_address (i : Nat) (x : PeerRecord) (s : State) : (s.setPeer i x).address = s.address := rfl
@[simp] theorem State.setPeer_maintenance (i : Nat) (x : PeerRecord) (s : State) : (s.setPeer i x).maintenance = s.maintenance := rfl
@[simp] theorem State.setPeer_starting (i : Nat) (x : PeerRecord) (s : State) : (s.setPeer i x).starting = s.starting := rfl
@[simp] theorem State.setPeer_noConfig (i : Nat) (x : PeerRecord) (s : State) : (s.setPeer i x).noConfig = s.noConfig := rfl
@[simp] theorem State.setPeer_zones (i : Nat) (x : PeerRecord) (s : State) : (s.setPeer i x).zones = s.zones := rfl
@[simp] theorem State.setPeer_picture (i : Nat) (x : PeerRecord) (s : State) : (s.setPeer i x).picture = s.picture := rfl
@[simp] theorem State.setPeer_holders (i : Nat) (x : PeerRecord) (s : State) : (s.setPeer i x).holders = s.holders := rfl
@[simp] theorem State.setPeer_marks (i : Nat) (x : PeerRecord) (s : State) : (s.setPeer i x).marks = s.marks := rfl
@[simp] theorem State.setPeer_rlc (i : Nat) (x : PeerRecord) (s : State) : (s.setPeer i x).rlc = s.rlc := rfl
@[simp] theorem State.setPeer_store (i : Nat) (x : PeerRecord) (s : State) : (s.setPeer i x).store = s.store := rfl
@[simp] theorem State.setPeer_ste (i : Nat) (x : PeerRecord) (s : State) : (s.setPeer i x).ste = s.ste := rfl
@[simp] theorem State.setPeer_portA (i : Nat) (x : PeerRecord) (s : State) : (s.setPeer i x).portA = s.portA := rfl
@[simp] theorem State.setPeer_portB (i : Nat) (x : PeerRecord) (s : State) : (s.setPeer i x).portB = s.portB := rfl
@[simp] theorem State.setPeer_noticesA (i : Nat) (x : PeerRecord) (s : State) : (s.setPeer i x).noticesA = s.noticesA := rfl
@[simp] theorem State.setPeer_noticesB (i : Nat) (x : PeerRecord) (s : State) : (s.setPeer i x).noticesB = s.noticesB := rfl
@[simp] theorem State.setPeer_draws (i : Nat) (x : PeerRecord) (s : State) : (s.setPeer i x).draws = s.draws := rfl
@[simp] theorem State.setPeer_pending (i : Nat) (x : PeerRecord) (s : State) : (s.setPeer i x).pending = s.pending := rfl
@[simp] theorem State.setPeer_port (i : Nat) (x : PeerRecord) (p : Port) (s : State) : (s.setPeer i x).port p = s.port p := by cases p <;> rfl
@[simp] theorem State.setPeer_notices (i : Nat) (x : PeerRecord) (p : Port) (s : State) : (s.setPeer i x).notices p = s.notices p := by
  cases p <;> rfl

/-! ### `setChannel` -/

@[simp] theorem State.setChannel_clock (i : Nat) (x : Channel) (s : State) : (s.setChannel i x).clock = s.clock := rfl
@[simp] theorem State.setChannel_held (i : Nat) (x : Channel) (s : State) : (s.setChannel i x).held = s.held := rfl
@[simp] theorem State.setChannel_address (i : Nat) (x : Channel) (s : State) : (s.setChannel i x).address = s.address := rfl
@[simp] theorem State.setChannel_maintenance (i : Nat) (x : Channel) (s : State) : (s.setChannel i x).maintenance = s.maintenance := rfl
@[simp] theorem State.setChannel_starting (i : Nat) (x : Channel) (s : State) : (s.setChannel i x).starting = s.starting := rfl
@[simp] theorem State.setChannel_noConfig (i : Nat) (x : Channel) (s : State) : (s.setChannel i x).noConfig = s.noConfig := rfl
@[simp] theorem State.setChannel_zones (i : Nat) (x : Channel) (s : State) : (s.setChannel i x).zones = s.zones := rfl
@[simp] theorem State.setChannel_picture (i : Nat) (x : Channel) (s : State) : (s.setChannel i x).picture = s.picture := rfl
@[simp] theorem State.setChannel_peers (i : Nat) (x : Channel) (s : State) : (s.setChannel i x).peers = s.peers := rfl
@[simp] theorem State.setChannel_holders (i : Nat) (x : Channel) (s : State) : (s.setChannel i x).holders = s.holders := rfl
@[simp] theorem State.setChannel_marks (i : Nat) (x : Channel) (s : State) : (s.setChannel i x).marks = s.marks := rfl
@[simp] theorem State.setChannel_rlc (i : Nat) (x : Channel) (s : State) : (s.setChannel i x).rlc = s.rlc := rfl
@[simp] theorem State.setChannel_store (i : Nat) (x : Channel) (s : State) : (s.setChannel i x).store = s.store := rfl
@[simp] theorem State.setChannel_portA (i : Nat) (x : Channel) (s : State) : (s.setChannel i x).portA = s.portA := rfl
@[simp] theorem State.setChannel_portB (i : Nat) (x : Channel) (s : State) : (s.setChannel i x).portB = s.portB := rfl
@[simp] theorem State.setChannel_noticesA (i : Nat) (x : Channel) (s : State) : (s.setChannel i x).noticesA = s.noticesA := rfl
@[simp] theorem State.setChannel_noticesB (i : Nat) (x : Channel) (s : State) : (s.setChannel i x).noticesB = s.noticesB := rfl
@[simp] theorem State.setChannel_draws (i : Nat) (x : Channel) (s : State) : (s.setChannel i x).draws = s.draws := rfl
@[simp] theorem State.setChannel_pending (i : Nat) (x : Channel) (s : State) : (s.setChannel i x).pending = s.pending := rfl
@[simp] theorem State.setChannel_port (i : Nat) (x : Channel) (p : Port) (s : State) : (s.setChannel i x).port p = s.port p := by cases p <;> rfl
@[simp] theorem State.setChannel_notices (i : Nat) (x : Channel) (p : Port) (s : State) : (s.setChannel i x).notices p = s.notices p := by
  cases p <;> rfl

/-! ### `modChannel` -/

@[simp] theorem State.modChannel_clock (i : Nat) (x : Channel → Channel) (s : State) : (s.modChannel i x).clock = s.clock := rfl
@[simp] theorem State.modChannel_held (i : Nat) (x : Channel → Channel) (s : State) : (s.modChannel i x).held = s.held := rfl
@[simp] theorem State.modChannel_address (i : Nat) (x : Channel → Channel) (s : State) : (s.modChannel i x).address = s.address := rfl
@[simp] theorem State.modChannel_maintenance (i : Nat) (x : Channel → Channel) (s : State) : (s.modChannel i x).maintenance = s.maintenance := rfl
@[simp] theorem State.modChannel_starting (i : Nat) (x : Channel → Channel) (s : State) : (s.modChannel i x).starting = s.starting := rfl
@[simp] theorem State.modChannel_noConfig (i : Nat) (x : Channel → Channel) (s : State) : (s.modChannel i x).noConfig = s.noConfig := rfl
@[simp] theorem State.modChannel_zones (i : Nat) (x : Channel → Channel) (s : State) : (s.modChannel i x).zones = s.zones := rfl
@[simp] theorem State.modChannel_picture (i : Nat) (x : Channel → Channel) (s : State) : (s.modChannel i x).picture = s.picture := rfl
@[simp] theorem State.modChannel_peers (i : Nat) (x : Channel → Channel) (s : State) : (s.modChannel i x).peers = s.peers := rfl
@[simp] theorem State.modChannel_holders (i : Nat) (x : Channel → Channel) (s : State) : (s.modChannel i x).holders = s.holders := rfl
@[simp] theorem State.modChannel_marks (i : Nat) (x : Channel → Channel) (s : State) : (s.modChannel i x).marks = s.marks := rfl
@[simp] theorem State.modChannel_rlc (i : Nat) (x : Channel → Channel) (s : State) : (s.modChannel i x).rlc = s.rlc := rfl
@[simp] theorem State.modChannel_store (i : Nat) (x : Channel → Channel) (s : State) : (s.modChannel i x).store = s.store := rfl
@[simp] theorem State.modChannel_portA (i : Nat) (x : Channel → Channel) (s : State) : (s.modChannel i x).portA = s.portA := rfl
@[simp] theorem State.modChannel_portB (i : Nat) (x : Channel → Channel) (s : State) : (s.modChannel i x).portB = s.portB := rfl
@[simp] theorem State.modChannel_noticesA (i : Nat) (x : Channel → Channel) (s : State) : (s.modChannel i x).noticesA = s.noticesA := rfl
@[simp] theorem State.modChannel_noticesB (i : Nat) (x : Channel → Channel) (s : State) : (s.modChannel i x).noticesB = s.noticesB := rfl
@[simp] theorem State.modChannel_draws (i : Nat) (x : Channel → Channel) (s : State) : (s.modChannel i x).draws = s.draws := rfl
@[simp] theorem State.modChannel_pending (i : Nat) (x : Channel → Channel) (s : State) : (s.modChannel i x).pending = s.pending := rfl
@[simp] theorem State.modChannel_port (i : Nat) (x : Channel → Channel) (p : Port) (s : State) : (s.modChannel i x).port p = s.port p := by cases p <;> rfl
@[simp] theorem State.modChannel_notices (i : Nat) (x : Channel → Channel) (p : Port) (s : State) : (s.modChannel i x).notices p = s.notices p := by
  cases p <;> rfl

/-! ### `setBuffer` -/

@[simp] theorem State.setBuffer_clock (i : Nat) (x : TileBuffer) (s : State) : (s.setBuffer i x).clock = s.clock := rfl
@[simp] theorem State.setBuffer_held (i : Nat) (x : TileBuffer) (s : State) : (s.setBuffer i x).held = s.held := rfl
@[simp] theorem State.setBuffer_address (i : Nat) (x : TileBuffer) (s : State) : (s.setBuffer i x).address = s.address := rfl
@[simp] theorem State.setBuffer_maintenance (i : Nat) (x : TileBuffer) (s : State) : (s.setBuffer i x).maintenance = s.maintenance := rfl
@[simp] theorem State.setBuffer_starting (i : Nat) (x : TileBuffer) (s : State) : (s.setBuffer i x).starting = s.starting := rfl
@[simp] theorem State.setBuffer_noConfig (i : Nat) (x : TileBuffer) (s : State) : (s.setBuffer i x).noConfig = s.noConfig := rfl
@[simp] theorem State.setBuffer_zones (i : Nat) (x : TileBuffer) (s : State) : (s.setBuffer i x).zones = s.zones := rfl
@[simp] theorem State.setBuffer_picture (i : Nat) (x : TileBuffer) (s : State) : (s.setBuffer i x).picture = s.picture := rfl
@[simp] theorem State.setBuffer_peers (i : Nat) (x : TileBuffer) (s : State) : (s.setBuffer i x).peers = s.peers := rfl
@[simp] theorem State.setBuffer_holders (i : Nat) (x : TileBuffer) (s : State) : (s.setBuffer i x).holders = s.holders := rfl
@[simp] theorem State.setBuffer_marks (i : Nat) (x : TileBuffer) (s : State) : (s.setBuffer i x).marks = s.marks := rfl
@[simp] theorem State.setBuffer_rlc (i : Nat) (x : TileBuffer) (s : State) : (s.setBuffer i x).rlc = s.rlc := rfl
@[simp] theorem State.setBuffer_store (i : Nat) (x : TileBuffer) (s : State) : (s.setBuffer i x).store = s.store := rfl
@[simp] theorem State.setBuffer_portA (i : Nat) (x : TileBuffer) (s : State) : (s.setBuffer i x).portA = s.portA := rfl
@[simp] theorem State.setBuffer_portB (i : Nat) (x : TileBuffer) (s : State) : (s.setBuffer i x).portB = s.portB := rfl
@[simp] theorem State.setBuffer_noticesA (i : Nat) (x : TileBuffer) (s : State) : (s.setBuffer i x).noticesA = s.noticesA := rfl
@[simp] theorem State.setBuffer_noticesB (i : Nat) (x : TileBuffer) (s : State) : (s.setBuffer i x).noticesB = s.noticesB := rfl
@[simp] theorem State.setBuffer_draws (i : Nat) (x : TileBuffer) (s : State) : (s.setBuffer i x).draws = s.draws := rfl
@[simp] theorem State.setBuffer_pending (i : Nat) (x : TileBuffer) (s : State) : (s.setBuffer i x).pending = s.pending := rfl
@[simp] theorem State.setBuffer_port (i : Nat) (x : TileBuffer) (p : Port) (s : State) : (s.setBuffer i x).port p = s.port p := by cases p <;> rfl
@[simp] theorem State.setBuffer_notices (i : Nat) (x : TileBuffer) (p : Port) (s : State) : (s.setBuffer i x).notices p = s.notices p := by
  cases p <;> rfl

/-! ### `countTransfers` -/

@[simp] theorem State.countTransfers_clock (x : TransferCounters → TransferCounters) (s : State) : (s.countTransfers x).clock = s.clock := rfl
@[simp] theorem State.countTransfers_held (x : TransferCounters → TransferCounters) (s : State) : (s.countTransfers x).held = s.held := rfl
@[simp] theorem State.countTransfers_address (x : TransferCounters → TransferCounters) (s : State) : (s.countTransfers x).address = s.address := rfl
@[simp] theorem State.countTransfers_maintenance (x : TransferCounters → TransferCounters) (s : State) : (s.countTransfers x).maintenance = s.maintenance := rfl
@[simp] theorem State.countTransfers_starting (x : TransferCounters → TransferCounters) (s : State) : (s.countTransfers x).starting = s.starting := rfl
@[simp] theorem State.countTransfers_noConfig (x : TransferCounters → TransferCounters) (s : State) : (s.countTransfers x).noConfig = s.noConfig := rfl
@[simp] theorem State.countTransfers_zones (x : TransferCounters → TransferCounters) (s : State) : (s.countTransfers x).zones = s.zones := rfl
@[simp] theorem State.countTransfers_picture (x : TransferCounters → TransferCounters) (s : State) : (s.countTransfers x).picture = s.picture := rfl
@[simp] theorem State.countTransfers_peers (x : TransferCounters → TransferCounters) (s : State) : (s.countTransfers x).peers = s.peers := rfl
@[simp] theorem State.countTransfers_holders (x : TransferCounters → TransferCounters) (s : State) : (s.countTransfers x).holders = s.holders := rfl
@[simp] theorem State.countTransfers_marks (x : TransferCounters → TransferCounters) (s : State) : (s.countTransfers x).marks = s.marks := rfl
@[simp] theorem State.countTransfers_rlc (x : TransferCounters → TransferCounters) (s : State) : (s.countTransfers x).rlc = s.rlc := rfl
@[simp] theorem State.countTransfers_store (x : TransferCounters → TransferCounters) (s : State) : (s.countTransfers x).store = s.store := rfl
@[simp] theorem State.countTransfers_portA (x : TransferCounters → TransferCounters) (s : State) : (s.countTransfers x).portA = s.portA := rfl
@[simp] theorem State.countTransfers_portB (x : TransferCounters → TransferCounters) (s : State) : (s.countTransfers x).portB = s.portB := rfl
@[simp] theorem State.countTransfers_noticesA (x : TransferCounters → TransferCounters) (s : State) : (s.countTransfers x).noticesA = s.noticesA := rfl
@[simp] theorem State.countTransfers_noticesB (x : TransferCounters → TransferCounters) (s : State) : (s.countTransfers x).noticesB = s.noticesB := rfl
@[simp] theorem State.countTransfers_draws (x : TransferCounters → TransferCounters) (s : State) : (s.countTransfers x).draws = s.draws := rfl
@[simp] theorem State.countTransfers_pending (x : TransferCounters → TransferCounters) (s : State) : (s.countTransfers x).pending = s.pending := rfl
@[simp] theorem State.countTransfers_port (x : TransferCounters → TransferCounters) (p : Port) (s : State) : (s.countTransfers x).port p = s.port p := by cases p <;> rfl
@[simp] theorem State.countTransfers_notices (x : TransferCounters → TransferCounters) (p : Port) (s : State) : (s.countTransfers x).notices p = s.notices p := by
  cases p <;> rfl

/-! ### `countLink` -/

@[simp] theorem State.countLink_clock (x : LinkCounters → LinkCounters) (s : State) : (s.countLink x).clock = s.clock := rfl
@[simp] theorem State.countLink_held (x : LinkCounters → LinkCounters) (s : State) : (s.countLink x).held = s.held := rfl
@[simp] theorem State.countLink_address (x : LinkCounters → LinkCounters) (s : State) : (s.countLink x).address = s.address := rfl
@[simp] theorem State.countLink_maintenance (x : LinkCounters → LinkCounters) (s : State) : (s.countLink x).maintenance = s.maintenance := rfl
@[simp] theorem State.countLink_starting (x : LinkCounters → LinkCounters) (s : State) : (s.countLink x).starting = s.starting := rfl
@[simp] theorem State.countLink_noConfig (x : LinkCounters → LinkCounters) (s : State) : (s.countLink x).noConfig = s.noConfig := rfl
@[simp] theorem State.countLink_zones (x : LinkCounters → LinkCounters) (s : State) : (s.countLink x).zones = s.zones := rfl
@[simp] theorem State.countLink_picture (x : LinkCounters → LinkCounters) (s : State) : (s.countLink x).picture = s.picture := rfl
@[simp] theorem State.countLink_peers (x : LinkCounters → LinkCounters) (s : State) : (s.countLink x).peers = s.peers := rfl
@[simp] theorem State.countLink_holders (x : LinkCounters → LinkCounters) (s : State) : (s.countLink x).holders = s.holders := rfl
@[simp] theorem State.countLink_marks (x : LinkCounters → LinkCounters) (s : State) : (s.countLink x).marks = s.marks := rfl
@[simp] theorem State.countLink_store (x : LinkCounters → LinkCounters) (s : State) : (s.countLink x).store = s.store := rfl
@[simp] theorem State.countLink_ste (x : LinkCounters → LinkCounters) (s : State) : (s.countLink x).ste = s.ste := rfl
@[simp] theorem State.countLink_portA (x : LinkCounters → LinkCounters) (s : State) : (s.countLink x).portA = s.portA := rfl
@[simp] theorem State.countLink_portB (x : LinkCounters → LinkCounters) (s : State) : (s.countLink x).portB = s.portB := rfl
@[simp] theorem State.countLink_noticesA (x : LinkCounters → LinkCounters) (s : State) : (s.countLink x).noticesA = s.noticesA := rfl
@[simp] theorem State.countLink_noticesB (x : LinkCounters → LinkCounters) (s : State) : (s.countLink x).noticesB = s.noticesB := rfl
@[simp] theorem State.countLink_draws (x : LinkCounters → LinkCounters) (s : State) : (s.countLink x).draws = s.draws := rfl
@[simp] theorem State.countLink_pending (x : LinkCounters → LinkCounters) (s : State) : (s.countLink x).pending = s.pending := rfl
@[simp] theorem State.countLink_port (x : LinkCounters → LinkCounters) (p : Port) (s : State) : (s.countLink x).port p = s.port p := by cases p <;> rfl
@[simp] theorem State.countLink_notices (x : LinkCounters → LinkCounters) (p : Port) (s : State) : (s.countLink x).notices p = s.notices p := by
  cases p <;> rfl

end Sys2Proof.Machine
end

