-- ==== Sys2Proof/Laws/Shared.lean ====
section
/-! SUPPORT. What the operations that many commands share can do, said once: a crew request taken at once, a response
placed, a frame taken from a peer. -/

namespace Sys2Proof.Machine

open Sys2Proof

/-! ### Ports -/

theorem State.modPort_modPort (p : Port) (f g : CrewPort → CrewPort) (s : State) :
    (s.modPort p f).modPort p g = s.modPort p fun q => g (f q) := by
  cases p <;> rfl

theorem State.modPort_congr {p : Port} {f g : CrewPort → CrewPort} {s : State} (h : f (s.port p) = g (s.port p)) :
    s.modPort p f = s.modPort p g := by
  cases p <;> simp only [State.modPort, State.port] at h ⊢ <;> rw [h]

theorem State.modPort_self {p : Port} {f : CrewPort → CrewPort} {s : State} (h : f (s.port p) = s.port p) :
    s.modPort p f = s := by
  cases p <;> simp only [State.modPort, State.port] at h ⊢ <;> rw [h]

theorem State.modNotices_congr {p : Port} {f g : NoticeController → NoticeController} {s : State}
    (h : f (s.notices p) = g (s.notices p)) : s.modNotices p f = s.modNotices p g := by
  cases p <;> simp only [State.modNotices, State.notices] at h ⊢ <;> rw [h]

/-- A change of a port and one of a Notice Controller do not meet. -/
theorem State.modNotices_modPort (p q : Port) (f : NoticeController → NoticeController) (g : CrewPort → CrewPort)
    (s : State) : (s.modNotices p f).modPort q g = (s.modPort q g).modNotices p f := by
  cases p <;> cases q <;> rfl

/-! ### Requests -/

/-- The whole check of R113, with its empty and its overlong data. -/
theorem writeOutOfRange_iff (offset length : Nat) : writeOutOfRange offset length = true ↔
    length = 0 ∨ 256 < length ∨ 67108864 < offset + length ∨ 256 < offset % 256 + length := by
  simp only [writeOutOfRange, Bool.or_eq_true, decide_eq_true_eq, or_assoc]
  rfl

/-- The Plan Store refuses RANGE every STORE WRITE that comes to it and fails R113, one of empty or overlong data too. -/
theorem serveStoreWrite_range (p : Port) (body : List Byte) (s : State)
    (h : writeOutOfRange (wordAt body 0) (body.drop 4).length = true) :
    serveStoreWrite p body s = respond p 0x10 .range [] s := by
  rw [serveStoreWrite, if_pos h]

/-- A port with an empty buffer, or a response not yet sent, takes no request (R149). -/
theorem takeRequests_stop (p : Port) (n : Nat) {s : State}
    (h : (s.port p).buffer = [] ∨ (s.port p).responseSlot ≠ []) : takeRequests p n s = s := by
  cases n with
  | zero => rfl
  | succ n =>
    unfold takeRequests
    split
    · rename_i h1 h2
      rcases h with h | h
      · rw [h] at h2; cases h2
      · exact absurd h1 h
    · rfl

/-- A complete request that the port serves at once is dispatched to a receiver that hunts; then the port takes whatever it
may still take (R148, R149). -/
theorem crewRequest_ready {p : Port} {s : State} (h : Ready p s) (kind : Byte) {body : List Byte}
    (hb : body.length ≤ 299) :
    crewRequest p kind body s = takeRequests p 2 (dispatch p { kind := kind, body := body } (s.hunting p)) := by
  obtain ⟨_, hh, hbuf, hslot⟩ := h
  have hn : ¬ 299 < body.length := by omega
  unfold crewRequest
  rw [if_pos hh]
  simp only [if_neg hn, State.modPort_modPort]
  rw [show bufferLimit + 1 = 2 + 1 from rfl]
  unfold takeRequests
  have hs : (s.modPort p fun q => CrewPort.join { kind := kind, body := body } { q with receiving := false }).port p =
      { s.port p with receiving := false, buffer := [{ kind := kind, body := body }] } := by
    simp [CrewPort.join, hbuf, bufferLimit]
  simp only [hs, hslot, State.modPort_modPort]
  have hb : (s.modPort p fun q => { CrewPort.join { kind := kind, body := body } { q with receiving := false } with
      buffer := [] }) = s.hunting p :=
    State.modPort_congr (by simp [CrewPort.join, hbuf, bufferLimit])
  rw [hb]
  rfl

@[simp] theorem State.hunting_port (p : Port) (s : State) :
    (s.hunting p).port p = { s.port p with receiving := false } := by
  simp [State.hunting]

@[simp] theorem State.hunting_notices (p q : Port) (s : State) : (s.hunting p).notices q = s.notices q := by
  simp [State.hunting]

/-- The response of one part is the response written out. -/
theorem respond_eq (p : Port) (kind : Nat) (result : Result) (fields : List Byte) (s : State) :
    respond p kind result fields s = s.answer p [[byte kind, byte result.code, 1#8, 1#8] ++ fields] := rfl

@[simp] theorem State.answer_slot (p : Port) (parts : List (List Byte)) (s : State) :
    ((s.answer p parts).port p).responseSlot = parts := by
  simp [State.answer]

/-- A port that has placed a response takes no further request. -/
theorem takeRequests_answer (p : Port) (n : Nat) {parts : List (List Byte)} (h : parts ≠ []) (s : State) :
    takeRequests p n (s.answer p parts) = s.answer p parts := takeRequests_stop p n (Or.inr (by simpa using h))

/-- A crew request of a running station whose dispatch places a response. -/
theorem crewEvent_ready {p : Port} {s u : State} (h : Ready p s) (kind : Byte) {body : List Byte} (hb : body.length ≤ 299)
    (hd : dispatch p { kind := kind, body := body } (s.hunting p) = u)
    (hu : (u.port p).buffer = [] ∨ (u.port p).responseSlot ≠ []) :
    event (crewRequest p kind body) s = .next (settle s u) := by
  rw [event_running h.1, crewRequest_ready h kind hb, hd, takeRequests_stop p 2 hu]

/-! ### Frames -/

/-- A frame whose origin is a peer and whose destination takes in the station is accepted, and handed on (R94). -/
theorem receiveFrame_peer {x : Nat} {s : State} (h : s.canTake x) (f : Frame) (act : State → State) (hx : f.origin = x)
    (hd : f.misdirected = false) (ht : f.dest = s.address ∨ f.dest = 63) :
    receiveFrame f act s =
      act ((s.modRlc (RiserLink.frameEnds f)).countLink fun k => { k with accepted := countUp k.accepted }) := by
  obtain ⟨_, hr, hp⟩ := h
  subst hx
  simp only [State.isPeer, Bool.and_eq_true, decide_eq_true_eq] at hp
  unfold receiveFrame
  rw [if_pos hr]
  simp only [hp.1, if_neg hp.2, hd]
  have hn : ¬(f.dest ≠ s.address ∧ f.dest ≠ 63) := by omega
  simp [hn]

end Sys2Proof.Machine
end

