-- ==== Sys2Proof/Laws/Tables.lean ====
section
/-! SUPPORT. Reading and writing the tables of the state: each operation's law, once. -/

namespace Sys2Proof.Machine

open Sys2Proof

theorem tget_eq {α : Type} {n : Nat} (d : α) (t : Vector α n) (i : Nat) : tget d t i = t.toList.getD i d := rfl

@[simp] theorem tset_toList {α : Type} {n : Nat} (t : Vector α n) (i : Nat) (x : α) :
    (tset t i x).toList = t.toList.set i x := rfl

@[simp] theorem tbuild_toList {α : Type} (n : Nat) (f : Nat → α) : (tbuild n f).toList = (List.range n).map f := rfl

/-- A read of the item written gives what was written. -/
theorem tget_tset_same {α : Type} {n : Nat} (d : α) (t : Vector α n) {i : Nat} (h : i < n) (x : α) :
    tget d (tset t i x) i = x := by
  simp [tget, h]

/-- A write leaves every other item alone. -/
theorem tget_tset_ne {α : Type} {n : Nat} (d : α) (t : Vector α n) {i j : Nat} (h : i ≠ j) (x : α) :
    tget d (tset t i x) j = tget d t j := by
  simp [tget, List.getD_eq_getElem?_getD, List.getElem?_set_ne h]

/-- A write beyond the end writes nothing. -/
theorem tset_beyond {α : Type} {n : Nat} (t : Vector α n) {i : Nat} (h : n ≤ i) (x : α) : tset t i x = t := by
  apply Vector.toList_inj.mp
  simp [List.set_eq_of_length_le, h]

/-- A built table holds what it was built from. -/
theorem tget_tbuild {α : Type} (d : α) {n i : Nat} (h : i < n) (f : Nat → α) : tget d (tbuild n f) i = f i := by
  simp [tget, h]

/-! ### The accessors -/

theorem State.setChannel_channel_same {c : Nat} (h : c < 6) (k : Channel) (s : State) :
    (s.setChannel c k).channel c = k := tget_tset_same _ _ h k

theorem State.setChannel_channel_ne {c d : Nat} (h : c ≠ d) (k : Channel) (s : State) :
    (s.setChannel c k).channel d = s.channel d := tget_tset_ne _ _ h k

theorem State.modChannel_channel_same {c : Nat} (h : c < 6) (f : Channel → Channel) (s : State) :
    (s.modChannel c f).channel c = f (s.channel c) := tget_tset_same _ _ h _

theorem State.modChannel_channel_ne {c d : Nat} (h : c ≠ d) (f : Channel → Channel) (s : State) :
    (s.modChannel c f).channel d = s.channel d := tget_tset_ne _ _ h _

@[simp] theorem State.setChannel_buffer (c b : Nat) (k : Channel) (s : State) : (s.setChannel c k).buffer b = s.buffer b :=
  rfl

@[simp] theorem State.setBuffer_channel (b c : Nat) (x : TileBuffer) (s : State) :
    (s.setBuffer b x).channel c = s.channel c := rfl

theorem State.setBuffer_buffer_same {b : Nat} (h : b < 16) (x : TileBuffer) (s : State) :
    (s.setBuffer b x).buffer b = x := tget_tset_same _ _ h x

theorem State.setBuffer_buffer_ne {a b : Nat} (h : a ≠ b) (x : TileBuffer) (s : State) :
    (s.setBuffer a x).buffer b = s.buffer b := tget_tset_ne _ _ h x

theorem State.setLine_line_same {i : Nat} (h : i < 16) (l : LineRecord) (s : State) : (s.setLine i l).line i = l :=
  tget_tset_same _ _ h l

theorem State.setLine_line_ne {i j : Nat} (h : i ≠ j) (l : LineRecord) (s : State) :
    (s.setLine i l).line j = s.line j := tget_tset_ne _ _ h l

theorem State.setFloor_floor_same {f : Nat} (h : f < 256) (x : FloorSummary) (s : State) : (s.setFloor f x).floor f = x :=
  tget_tset_same _ _ h x

theorem State.setFloor_floor_ne {f g : Nat} (h : f ≠ g) (x : FloorSummary) (s : State) :
    (s.setFloor f x).floor g = s.floor g := tget_tset_ne _ _ h x

@[simp] theorem State.setFloor_entry (f o l : Nat) (x : FloorSummary) (s : State) :
    (s.setFloor f x).entry o l = s.entry o l := rfl

@[simp] theorem State.setEntry_floor (o l f : Nat) (e : ZoneEntry) (s : State) :
    (s.setEntry o l e).floor f = s.floor f := rfl

theorem State.setEntry_entry_same {o l : Nat} (ho : o ≤ 62) (hl : l ≤ 15) (e : ZoneEntry) (s : State) :
    (s.setEntry o l e).entry o l = e := tget_tset_same _ _ (by unfold entryIndex; omega) e

theorem State.setEntry_entry_ne {o l o' l' : Nat} (hl : l ≤ 15) (hl' : l' ≤ 15) (h : (o, l) ≠ (o', l')) (e : ZoneEntry)
    (s : State) : (s.setEntry o l e).entry o' l' = s.entry o' l' := by
  apply tget_tset_ne
  intro hi
  unfold entryIndex at hi
  apply h
  have : o = o' := by omega
  have : l = l' := by omega
  simp_all

theorem State.setPeer_peer_same {a : Nat} (h : a < 64) (r : PeerRecord) (s : State) : (s.setPeer a r).peer a = r :=
  tget_tset_same _ _ h r

theorem State.setPeer_peer_ne {a b : Nat} (h : a ≠ b) (r : PeerRecord) (s : State) :
    (s.setPeer a r).peer b = s.peer b := tget_tset_ne _ _ h r

end Sys2Proof.Machine
end

