-- ==== Sys2Proof/WellFormed.lean ====
section
/-! DEFINITION. Which commands can occur: the bounds the layouts of chapters 5 and 8 put on a command's operands.
`exec` is total and answers on every command; an ill-formed one stands for nothing a line can bring. -/

namespace Sys2Proof

/-- A riser payload is at most 416 bytes (5.2). -/
def payloadFits (payload : List Byte) : Bool := decide (payload.length ≤ 416)

/-- A crew message's kind and body are at most 300 bytes, so its body at most 299 (8.2). -/
def bodyFits (body : List Byte) : Bool := decide (body.length ≤ 299)

/-- The first byte of a MARK payload, when it is one of the three mark kinds (4.3), is the kind of the row. -/
def markRowFits (kind : Nat) (payload : List Byte) : Bool :=
  payloadFits payload &&
    match payload with
    | [] => true
    | k :: _ => decide (k.toNat = kind) || decide (k.toNat = 0) || decide (3 < k.toNat)

/-- The request kinds that every port serves (8.2): all but the three STORE kinds. -/
def servedCodes : List Nat :=
  [0x01, 0x02, 0x03, 0x04, 0x05, 0x06, 0x07, 0x08, 0x09, 0x0A, 0x0B, 0x0C, 0x0D, 0x0E]

/-- A command's operands lie within the ranges its layout gives them. -/
def Instr.wellFormed : Instr → Bool
  | .reset _ _ => true
  | .headerReadDone => true
  | .slotReadDone => true
  | .startupReadTimeout => true
  | .sample _ => true
  | .confirmTimerExpiry _ _ => true
  | .troubleTimerExpiry _ _ => true
  | .restoreTimerExpiry _ _ => true
  | .normalHoldTimerExpiry _ _ => true
  | .decayTimerExpiry _ _ => true
  | .joinListenEnd => true
  | .idleDetection => true
  | .idleRound => true
  | .startMoment offset => decide (offset ≤ 1988)
  | .transmissionComplete => true
  | .attemptAbandoned => true
  | .burstContinuation => true
  | .dominantSensed => true
  | .yieldMark => true
  | .transmitGuardCut => true
  | .duplicateHoldExpiry => true
  | .babbleClear => true
  | .lineClear => true
  | .duplicateCountDecay => true
  | .babbleCountDecay => true
  | .refreshTimerExpiry => true
  | .directoryTimerExpiry => true
  | .receiveFailure bytes => decide (1 ≤ bytes.length) && decide (bytes.length ≤ 424)
  | .zoneState _ _ _ payload => payloadFits payload
  | .directory _ _ payload => payloadFits payload
  | .sheetRequest _ _ payload => payloadFits payload
  | .sheetRefuse _ _ payload => payloadFits payload
  | .sheetCancel _ _ payload => payloadFits payload
  | .sheetTile _ _ payload => payloadFits payload
  | .markAck _ _ payload => markRowFits 1 payload
  | .markAttendOn _ _ payload => markRowFits 2 payload
  | .markAttendOff _ _ payload => markRowFits 3 payload
  | .silenceTimerExpiry peer => decide (1 ≤ peer.toNat) && decide (peer.toNat ≤ 62)
  | .tileReadEnd => true
  | .tileReadTimeout => true
  | .storeWrite _ _ data => decide (data.length ≤ 295)
  | .storeErase _ _ => true
  | .storeCheck _ => true
  | .storeWriteDone => true
  | .storeWriteTimeout => true
  | .storeEraseDone => true
  | .storeEraseTimeout => true
  | .storeCheckReadDone => true
  | .storeCheckReadTimeout => true
  | .sheet _ _ _ _ _ _ => true
  | .queueFullRetry _ => true
  | .responseTimerExpiry _ => true
  | .busyRetry _ => true
  | .gapTimerExpiry _ => true
  | .cancel _ _ => true
  | .breakDetected _ => true
  | .crewMessageReceived _ _ body _ => bodyFits body
  | .receiveStall _ => true
  | .unknown _ kind body => bodyFits body && !(servedCodes.contains kind.toNat)
  | .attach _ body => bodyFits body && decide (1 ≤ body.length)
  | .detach _ => true
  | .picture _ _ _ => true
  | .floor _ _ _ => true
  | .watch _ floors => bodyFits floors
  | .ack _ _ _ _ => true
  | .attendOn _ _ => true
  | .attendOff _ _ => true
  | .peek _ => true
  | .finish _ _ => true
  | .mask _ _ => true
  | .streamOn _ _ => true
  | .streamOff _ _ => true
  | .streamPassStart _ => true
  | .status _ _ => true
  | .messageEnd _ => true
  | .resetAsserted => true
  | .lineActivity => true
  | .lineReturnedHigh _ => true
  | .crewByteFramingError _ => true
  | .crewLengthFieldFault _ length => decide (length.toNat = 0) || decide (300 < length.toNat)

end Sys2Proof
end

