-- ==== Sys2Proof/Tests/Slice0.lean ====
section
/-! SUPPORT. Tests: ill-formed commands that `Instr.wellFormed` refuses, values worked out in the manual, and for each
statement with hypotheses, a state and operands that meet them. -/

namespace Sys2Proof.Tests

open Sys2Proof Sys2Proof.Machine

-- One test at a time: tests checked side by side each take a thread's stack.
set_option Elab.async false

/-! ## Ill-formed commands -/

theorem test_startMoment_beyond_last :
    (Instr.startMoment 1989).wellFormed = false ∧ (Instr.startMoment 1988).wellFormed = true := by decide

theorem test_receiveFailure_of_no_byte_or_too_many :
    (Instr.receiveFailure []).wellFormed = false ∧
    (Instr.receiveFailure (List.replicate 425 ⟨0#8, false⟩)).wellFormed = false := by decide +kernel

theorem test_payload_of_417_bytes :
    ∀ i ∈ [Instr.zoneState .alarm 2 63 (List.replicate 417 0), .directory 2 63 (List.replicate 417 0),
      .sheetRequest 2 1 (List.replicate 417 0), .sheetRefuse 2 1 (List.replicate 417 0),
      .sheetCancel 2 1 (List.replicate 417 0), .sheetTile 2 1 (List.replicate 417 0), .markAck 2 63 (List.replicate 417 0),
      .markAttendOn 2 63 (List.replicate 417 0), .markAttendOff 2 63 (List.replicate 417 0)], i.wellFormed = false := by
  decide +kernel

theorem test_mark_row_of_another_kind :
    ∀ i ∈ [Instr.markAck 2 63 [2], .markAttendOn 2 63 [3], .markAttendOff 2 63 [1]], i.wellFormed = false := by decide

theorem test_silence_of_no_peer_address :
    (Instr.silenceTimerExpiry 0#6).wellFormed = false ∧ (Instr.silenceTimerExpiry 63#6).wellFormed = false := by decide

theorem test_crew_body_too_long :
    ∀ i ∈ [Instr.storeWrite .a 0 (List.replicate 296 0), .crewMessageReceived .a 1 (List.replicate 300 0) 0,
      .unknown .a 0 (List.replicate 300 0), .attach .a (List.replicate 300 0), .watch .a (List.replicate 300 0)],
      i.wellFormed = false := by decide +kernel

theorem test_unknown_of_a_served_kind :
    (Instr.unknown .a 0x0E [0]).wellFormed = false ∧ (Instr.unknown .a 0x0F [0]).wellFormed = true := by decide

theorem test_attach_without_body : (Instr.attach .a []).wellFormed = false := by decide

theorem test_crew_length_in_range :
    (Instr.crewLengthFieldFault .a 1).wellFormed = false ∧ (Instr.crewLengthFieldFault .a 300).wellFormed = false := by
  decide

/-! ## Values worked out in the manual -/

/-- The check value of the CRC (0.7): the nine characters 123456789 give 0x29B1. -/
theorem test_crc_check_value : crc16 [0x31, 0x32, 0x33, 0x34, 0x35, 0x36, 0x37, 0x38, 0x39] = 0x29B1#16 := by
  decide +kernel

/-- The table of R4. -/
theorem test_resistances : [0, 31, 32, 100, 247, 248, 511, 735, 736, 954, 955].map resistanceOf =
    [0, 147, 152, 509, 1496, 1504, 4691, 11995, 12053, 64983, 65535] := by decide

/-- R5: the class keeps to its side of each boundary. -/
theorem test_hysteresis : classify .normal 1400 = .normal ∧ classify .alarm 1400 = .alarm ∧
    classify .alarm 12500 = .normal ∧ classify .normal 14000 = .openLoop ∧ classify .openLoop 11995 = .openLoop ∧
    classify .openLoop 7854 = .normal := by decide

/-- The sums of the worked examples of chapter 1 and the readings they give (R3). -/
theorem test_readings : readingOf [505, 505, 505, 506] = 505 ∧ readingOf [370, 370, 370, 370] = 370 ∧
    readingOf [235, 235, 235, 235] = 235 ∧ readingOf [100, 100, 101, 101] = 100 := by decide

/-- The slots of the worked examples of chapter 5 (R79). -/
theorem test_slots : slotOf 17 40 = 38 ∧ slotOf 12 30 = 43 ∧ slotOf 55 23 = 31 ∧ slotOf 12 17 = 56 ∧ slotOf 23 23 = 61 := by
  decide

/-- R121's table at its boundaries. -/
theorem test_claimable : claimable 0 0 = 0 ∧ claimable 0 1 = 1 ∧ claimable 0 3 = 1 ∧ claimable 0 4 = 2 ∧ claimable 0 6 = 4 ∧
    claimable 0 16 = 4 ∧ claimable 1 2 = 0 ∧ claimable 1 5 = 3 ∧ claimable 3 16 = 1 ∧ claimable 4 16 = 0 := by decide

/-- An erased byte reads 0xFF (6.1), a write clears bits only (R113). -/
theorem test_program_clears_bits : (Memory.program [] 4 [0x0F#8]).read 4 = 0x0F#8 ∧
    ((Memory.program [] 4 [0x0F#8]).program 4 [0xF8#8]).read 4 = 0x08#8 ∧ Memory.read [] 4 = 0xFF#8 := by decide

/-! ## States that meet the hypotheses of the statements -/

/-- The state a command leaves. -/
def after (c : Instr) (s : State) : State :=
  match exec c s with
  | .next t => t
  | .fault _ => s
  | .refused _ => s

/-- A peer heard now. -/
def heardPeer : PeerRecord := { PeerRecord.atReset with presence := .present, silence := some 100000 }

/-- A running station 1 at 100 s: both ports open, A attached as "A", JOIN past, peers 2 and 3 PRESENT. -/
def up : State :=
  { State.reset with
    clock := 100000
    starting := false
    zones := { State.reset.zones with configTaken := true, readyReported := true }
    store := { State.reset.store with ready := true, access := .free }
    rlc := { State.reset.rlc with
      phase := .quiet, directorySent := true, zoneStateSent := true
      blocks := { State.reset.rlc.blocks with join := false } }
    peers := { State.reset.peers with records := tset (tset State.reset.peers.records 2 heardPeer) 3 heardPeer }
    portA := { CrewPort.atReset with isOpen := true, attached := true, label := some [0x41#8] }
    portB := { CrewPort.atReset with isOpen := true } }

/-- A good record of floor 7's FLOOR PLAN of three tiles. -/
def plan : SheetRecord :=
  { floor := 7, kind := 0, role := .owner, revision := 5, tileCount := 3, location := 65536, title := List.replicate 24 0x20#8 }

/-- Station 1 holds the plan itself. -/
def owning : State :=
  { up with
    store := { up.store with sheets := [plan] }
    holders :=
      { own := some { firstFloor := 7, floorCount := 1, owned := [1#6], replicas := [] }
        rows := tset up.holders.rows 7 { owner := some ⟨.self, 1#6⟩, replicas := [] } } }

/-- Peers 2 and 3 hold the plan of floor 7. -/
def holding : State :=
  { up with
    holders :=
      { own := none, rows := tset up.holders.rows 7 { owner := some ⟨.peer 2, 1#6⟩, replicas := [⟨.peer 3, 1#6⟩] } } }

/-- A channel of port A that fetches tiles 0 to 2 of the plan from peer 2. -/
def fetcher : Channel :=
  { Channel.freed with
    state := .request, owner := .port .a, floor := 7, origLast := 2, curLast := 2, window := some (0, 2),
    candidates := [.peer 2, .peer 3], tag := 9 }

/-- A channel that serves tiles 0 to 1 of the plan to peer 2. -/
def server : Channel :=
  { Channel.freed with
    state := .serve, owner := .peer 2 9, floor := 7, record := some plan, window := some (0, 1), fetch := 2, burstMode := true }

/-- Station 1 with channel 0 as given, which holds buffers 0 and 1 as given. -/
def withChannel (k : Channel) (x y : BufferState) : State :=
  ((up.setChannel 0 k).setBuffer 0 { holder := some 0, state := x }).setBuffer 1 { holder := some 0, state := y }

/-- Serving, with both tiles held. -/
def serving : State := withChannel server (.full 0 [0x11#8]) (.full 1 [0x22#8])

/-- A transmission of the given source. -/
def driving (source : TxSource) (f : Option Frame) : State :=
  serving.modRlc fun r =>
    { r with
      tx := some { source := source, frame := f, start := 99990, alarmAtStart := false, raisedSince := false,
                   moreFollows := true, serviceLive := true } }

def someFrame : Frame := { kind := .mark, origin := 1, dest := 63, payload := [] }

/-- A 15-byte MARK payload from peer 2's port A: the kind, the place (station or floor, line) and change number 0. -/
def markOf (kind place : Byte) : List Byte :=
  [kind, 0x42, 0x20, 0x20, 0x20, 0x20, 0x20, 0x20, 0x20, 2, 1, place, 0, 0, 0]

/-- A line configured as a DETECTOR whose history waits for its fourth sample, in a zone state. -/
def lineIn (z : ZoneState) (timer : Option Nat) : LineRecord :=
  { LineRecord.atReset with
    ztype := .detector, zstate := z, history := [200, 200, 200], lastMark := 99980, confirmTimer := timer,
    confirmLength := 4000, troubleTimer := timer, restoreTimer := timer, holdTimer := timer, decayTimer := timer,
    repeatCount := 1, trouble := if z = .trouble then some .openLoop else none }

def withLine (l : LineRecord) : State := up.setLine 0 l

/-- A blank picture counts no entry on any floor. -/
theorem blank_counted (f : Nat) : State.reset.picture.counted f = [] := by
  rw [TowerPicture.counted, State.reset, Vector.toList_replicate, List.filter_eq_nil_iff]
  intro e h
  rw [List.eq_of_mem_replicate h]
  simp [ZoneEntry.countedOn, ZoneEntry.empty]

/-- Every entry of `up` is EMPTY, and every floor as at reset. -/
theorem up_entry (o l : Nat) : up.entry o l = ZoneEntry.empty := by
  simp only [State.entry, up, State.reset, tget, Vector.toList_replicate, List.getD_eq_getElem?_getD,
    List.getElem?_replicate]
  split <;> rfl

theorem up_floor (f : Nat) : up.floor f = FloorSummary.atReset := by
  simp only [State.floor, up, State.reset, tget, Vector.toList_replicate, List.getD_eq_getElem?_getD,
    List.getElem?_replicate]
  split <;> rfl

theorem up_line (i : Nat) : up.line i = LineRecord.atReset := by
  simp only [State.line, up, State.reset, tget, Vector.toList_replicate, List.getD_eq_getElem?_getD,
    List.getElem?_replicate]
  split <;> rfl

theorem up_summary : SummaryLaw up := by
  refine ⟨by decide +kernel, by intro i _ h; simp [up_entry, ZoneEntry.empty] at h, ?_⟩
  intro f _
  rw [up_floor, show up.picture = State.reset.picture from rfl, blank_counted]
  rfl

/-! ### The end of an event -/

/-- A read of tile 2 of the plan waits for channel 3. -/
def queuedRead : TileRead := { channel := 3, record := plan, tile := 2, buffer := 0 }

/-- R109: a free access, and a waiting operation or the next channel of the rotation that has a read. -/
theorem test_meets_EndOfEvent_store :
    (let s := { up with store := { up.store with waiting := some (.check, false) } }
     s.store.access = .free ∧ s.store.waiting = some (.check, false)) ∧
    (let s := { up with store := { up.store with lists := tset up.store.lists 3 [queuedRead] } }
     s.store.waiting = none ∧ 3 = (s.store.rotation + 1 + 3) % 6 ∧ s.readList 3 = queuedRead :: [] ∧ queuedRead.channel = 3 ∧
       queuedRead.tile < queuedRead.record.tileCount ∧ (∀ j < 3, s.readList ((s.store.rotation + 1 + j) % 6) = []) ∧
       (serveStore storeFuel s).store.access = .tile queuedRead 100000 false) := by decide +kernel

/-- R125, R136: the next tile lies past the last one. -/
theorem test_meets_EndOfEvent_done :
    let s := up.setChannel 2 { fetcher with nextTile := 3 }
    (s.channel 2).state ≠ .free ∧ (s.channel 2).state ≠ .serve ∧ (s.channel 2).result = none ∧
      (s.channel 2).curLast < (s.channel 2).nextTile ∧ ((pumpChannel s 2).channel 2).result = some .done ∧
      (pumpChannel s 2).ste.counters.done = 1 := by decide +kernel

/-- R124, R140: the reads of a service, and of a LOCAL run that holds no buffer yet. -/
theorem test_meets_EndOfEvent_reads :
    (let s := withChannel { server with fetch := 0 } .empty .empty
     (s.channel 0).state = .serve ∧ (s.channel 0).window = some (0, 1) ∧
       ((pumpChannel s 0).readList 0).map (fun r => (r.tile, r.buffer)) = [(0, 0), (1, 1)]) ∧
    (let s := up.setChannel 0 { fetcher with state := .localStore, record := some plan }
     (s.channel 0).state = .localStore ∧ (s.channel 0).nextTile ≤ (s.channel 0).curLast ∧ s.heldBy 0 = 0 ∧
       ((pumpChannel s 0).readList 0).map (fun r => (r.tile, r.buffer)) = [(0, 0), (1, 1), (2, 2)]) := by decide +kernel

/-- R121, R127, R131: a window built anew or after a complete one, waited for, refused QUEUE_FULL and NO_PATH. -/
theorem test_meets_EndOfEvent_windows :
    let waits := { fetcher with wantWindow := true, window := none }
    let next := { fetcher with state := .receive, fetch := 1, window := some (0, 0), busyRetries := 2 }
    let pumped := fun (k : Channel) (f : State → State) => pumpChannel (f (withChannel k .empty .empty)) 0
    let asked := fun (u : State) => ((u.channel 0).window, u.rlc.control.map (·.payload.drop 5))
    let full := fun (s : State) => s.modRlc fun r =>
      { r with control := List.replicate 8 ⟨.mark, 63, [], .mark, false⟩ }
    asked (pumped waits id) = (some (0, 2), [[0, 0, 0, 2, 1]]) ∧ asked (pumped next id) = (some (1, 2), [[0, 1, 0, 2, 1]]) ∧
    ((pumped next id).channel 0).busyRetries = 0 ∧ asked (pumped fetcher id) = (some (0, 2), []) ∧
    ((pumped waits fun s => { s with ste := { s.ste with buffers := Vector.replicate 16 ⟨some 5, .empty⟩ } }).channel 0).wantWindow =
      true ∧
    (pumped waits full).ste.counters.controlNotSent = 1 ∧
    ((pumped waits fun s => s.modRlc fun r => { r with blocks := { r.blocks with line := true } }).channel 0).result =
      some (.failed .noPath) := by decide +kernel

/-- R124, R131, R135: under a block the last tile of a window begins to be sent, the next window is answered NO_PATH, and the
channel with a local fallback is back in LOCAL with its read begun, in one event; a fallback beyond the sheet, and one past
the sheet's end. -/
theorem test_meets_EndOfEvent_fallback :
    let k := { fetcher with
      state := .receive, fetch := 1, window := some (0, 0), candidates := [.self, .peer 2], position := 1, pinned := 5,
      record := some plan }
    let blocked := fun (k : Channel) (x : BufferState) =>
      (withChannel k x .empty).modRlc fun r => { r with blocks := { r.blocks with line := true } }
    let t := settle up (blocked k (.full 0 [0x11]))
    t.portA.sending.map (·.source) = some (.tile 0) ∧ (t.channel 0).state = .localStore ∧ (t.channel 0).missingDue = [1] ∧
    t.store.access = .tile { channel := 0, record := plan, tile := 2, buffer := 0 } 100000 false ∧
    t.ste.counters.controlNotSent = 1 ∧
    ((pumpChannel (blocked { k with curFirst := 3, curLast := 5, nextTile := 3, fetch := 4 } .empty) 0).channel 0).result =
      some (.failed .range) ∧
    ((pumpChannel (blocked { k with curLast := 5, nextTile := 4, fetch := 4 } .empty) 0).channel 0).result = some .done := by
  decide +kernel

/-- A record of the level given about station `a`. -/
def recordOf (level a : Nat) : Notice :=
  { key := { level := level, subject := .station a }, time := 0, events := 1, detail := 0, outcome := none }

/-- R170: the oldest of the least level enters service over an empty stack or a greater level, not over its own. -/
theorem test_meets_EndOfEvent_select :
    let queue := [recordOf 6 2, recordOf 4 2, recordOf 4 3]
    let n : NoticeController := { up.noticesA with queue := queue }
    (n.select.stack = [(recordOf 4 2).key] ∧ n.select.due = [(recordOf 4 2).key]) ∧
    ({ n with stack := [(recordOf 6 2).key] } : NoticeController).select.stack = [(recordOf 6 2).key, (recordOf 4 2).key] ∧
    ({ n with stack := [(recordOf 4 3).key] } : NoticeController).select.stack = [(recordOf 4 3).key] ∧
    ({ n with mask := 0xFF#8 } : NoticeController).select.stack = [] := by decide +kernel

/-- What port A sends first of what waits (R159): its kind and the head of its body. -/
def offered (s : State) : Option (Byte × Option Byte) :=
  (arbitrate .a s).portA.sending.map fun m => (m.kind, m.body.head?)

theorem test_meets_EndOfEvent_responses :
    offered up = none ∧ offered (up.modPort .a fun q => { q with responseSlot := [[1]], storeSlot := [[2]] }) = some (0x81, some 1) ∧
    offered (up.modPort .a fun q => { q with responseSlot := [[1]], storeSlot := [[2]], storeAhead := 1 }) =
      some (0x81, some 2) ∧
    offered (up.modPort .a fun q => { q with storeSlot := [[2]] }) = some (0x81, some 2) ∧
    offered (up.modPort .a fun q => { q with isOpen := false, responseSlot := [[1]] }) = none := by decide +kernel

theorem test_meets_EndOfEvent_notice_and_channels :
    offered (up.modNotices .a fun n => { n with queue := [recordOf 4 2], due := [(recordOf 4 2).key] }) = some (0x82, some 4) ∧
    (let k := { Channel.freed with owner := .port .a, pinned := 5, nextTile := 1 }
     offered (up.setChannel 2 { k with restartOffer := some (1, 0), result := some .done }) = some (0x85, some 2) ∧
     offered (up.setChannel 2 { k with result := some .done, missingDue := [1] }) = some (0x84, some 2) ∧
     offered (up.setChannel 2 { k with missingDue := [1] }) = some (0x83, some 2) ∧
     offered ((up.setChannel 2 k).setBuffer 0 { holder := some 2, state := .full 1 [0x11] }) = some (0x83, some 2) ∧
     offered ((up.setChannel 2 k).setBuffer 0 { holder := some 2, state := .full 2 [0x11] }) = none) := by decide +kernel

/-- R157: a pass with floor 9 to show, over, and over with the next one due. -/
theorem test_meets_EndOfEvent_stream :
    let fire := up.setFloor 9 { FloorSummary.atReset with counts := { Counts.zero with worst := .fire } }
    let stream := fun (cursor start : Nat) (s : State) => s.modPort .a fun q =>
      { q with stream := { isOn := true, period := 1, cursor := cursor, passOpen := true, start := start } }
    offered (stream 9 99500 fire) = some (0x86, some 9) ∧ offered (stream 10 99500 fire) = none ∧
    (arbitrate .a (stream 10 99500 fire)).portA.stream.passOpen = false ∧
    offered (stream 10 99000 fire) = some (0x86, some 9) ∧ offered (stream 10 99000 up) = none ∧
    (arbitrate .a (stream 10 99000 up)).portA.stream.start = 100000 := by decide +kernel

/-! ### Steps -/

theorem test_meets_StepTakesFront : ∃ t, step { up with pending := [.idleDetection, .sample (Vector.replicate 16 0)] } = .next t ∧
    t.pending.length = 1 := ⟨_, rfl, rfl⟩

theorem test_meets_EmptyQueueCountsMillisecond : up.pending = [] ∧ step up = .next { up with clock := 100001 } :=
  ⟨rfl, rfl⟩

theorem test_meets_HeldStationTakesNothing : (after .resetAsserted up).held = true ∧
    (∀ a m, Instr.idleRound ≠ .reset a m) ∧ Instr.idleRound ≠ .resetAsserted := by
  refine ⟨by decide +kernel, by simp, by simp⟩

/-- Every law holds of the running station with a command waiting, and the step answers a next state. -/
theorem test_meets_Kept (s : State) (hs : s = { up with pending := [.refreshTimerExpiry] }) :
    MemoryLaw s ∧ LinkLaw s ∧ LinkLimits s ∧ StartUpLaw s ∧ ChannelLimits s ∧ NoticeLaw s ∧ ∃ t, step s = .next t := by
  subst hs
  refine ⟨by decide +kernel, by decide +kernel, by decide +kernel, by decide +kernel,
    ⟨by decide +kernel, fun p => by cases p <;> decide +kernel⟩, by decide +kernel, _, rfl⟩

theorem test_meets_Kept_zones : ZoneLaw up ∧ ∃ t, step up = .next t := by
  refine ⟨⟨by decide +kernel, ?_⟩, _, rfl⟩
  intro i _
  rw [up_line]
  simp [LineRecord.Lawful, LineRecord.atReset]

theorem test_meets_Kept_picture : AttendanceLaw up ∧ StaleLaw up ∧ RemoteAckLaw up ∧ SummaryLaw up ∧ ∃ t, step up = .next t := by
  refine ⟨?_, ?_, ?_, up_summary, _, rfl⟩
  · intro f _; rw [up_floor]; decide
  · intro o _ l _ h; simp [up_entry, ZoneEntry.empty] at h
  · intro o _ l _ _ a h; simp [up_entry, ZoneEntry.empty] at h

theorem test_meets_FixedUntilReset : (∃ t, exec .babbleClear up = .next t) ∧ StartUpLaw up ∧ up.store.ready = true ∧
    (∀ a m, Instr.babbleClear ≠ .reset a m) ∧ Instr.babbleClear ≠ .resetAsserted := by
  refine ⟨⟨_, rfl⟩, by decide +kernel, rfl, by simp, by simp⟩

theorem test_meets_SilencedStays : (up.putBlock .silenced true).rlc.blocks.silenced = true := rfl

/-- A write and an erase that a reset abandons. -/
theorem test_meets_ResetGivesResetValues :
    (let s := { up with store := { up.store with access := .write 4 [0x0F#8] 99995 false } }
     MemoryLaw s ∧ s.store.access = .write 4 [0x0F#8] 99995 false) ∧
    (let s := { up with store := { up.store with access := .erase 3 98000 false, memory := [⟨196608, 0#8⟩] } }
     MemoryLaw s ∧ s.store.access = .erase 3 98000 false) := by decide +kernel

/-! ### Formulas -/

theorem test_meets_StartMomentsKeepApart : validAddress 1 = true ∧ validAddress 62 = true ∧ slotOf 1 62 = 0 ∧ slotOf 62 1 = 60 ∧
    validAddress (up.rlc.lastOrigins.get .bulk) = true ∧ up.rlc.startMoment 62 .bulk = 1488 := by decide +kernel

/-- R107: an OWNER record is preferred; a revision given is looked for; no record of the kind gives none. -/
theorem test_meets_LookupGives :
    let copy := { plan with role := .replica, revision := 4 }
    lookupSheet [copy, plan] 7 0 0 = some plan ∧ lookupSheet [copy, plan] 7 0 4 = some copy ∧
    lookupSheet [copy, plan] 7 1 0 = none := by decide

theorem test_meets_TagsAndBuffersGiven : ({ up with ste := { up.ste with tagCounter := 255 } } : State).nextTag = 1 ∧
    (withChannel { fetcher with tag := 1 } .empty .empty).nextTag = 2 ∧ up.freeBuffers = 16 ∧
    (claimBuffers 0 16 up).heldBy 0 = 16 := by decide +kernel

/-! ### Zone lines -/

/-- Line 0 is sampled at the mark and takes its fourth sample; line 1, not enabled, is not sampled. -/
theorem test_meets_SampleJoinsHistories :
    let s := withLine (lineIn .normal none)
    s.held = false ∧ (s.markDue 0 && s.lineSampled 0) = true ∧ s.lineEnabled 0 = true ∧
    (s.markDue 1 && s.lineSampled 1) = false ∧ s.starting = false ∧
    ((after (.sample (Vector.replicate 16 200#10)) s).line 0).history = [200, 200, 200, 200] := by decide +kernel

/-- R182: with the last history complete STARTING ends. -/
theorem test_meets_SampleJoinsHistories_starting :
    let s := { withLine (lineIn .normal none) with starting := true }
    s.starting = true ∧ (after (.sample (Vector.replicate 16 200#10)) s).starting = false := by decide +kernel

/-- The zone state, the LINE_LOST flag and the repeat count after an evaluation at 100 s of a line in the zone state whose
timers began at `timer`, with four samples. -/
def moved (z : ZoneState) (timer : Option Nat) (sample : Nat) (lost : Bool) : ZoneState × Bool × Nat :=
  let e := { lineIn z timer with history := List.replicate 4 sample, lineLost := lost }.evaluated 100000 false
  (e.zstate, e.lineLost, e.repeatCount)

/-- The moves of R9 to R13, R15 and R17, each side of each timer's length: samples of 101 are ALARM, of 505 NORMAL, of
800 OPEN. -/
theorem test_meets_SampleJoinsHistories_moves_normal :
    [moved .normal none 101 false, moved .normal none 800 false, moved .normal (some 95001) 800 false,
      moved .normal (some 95000) 800 false, moved .normal none 505 false, moved .normal (some 0) 505 false] =
    [(.pending, false, 1), (.normal, false, 1), (.normal, false, 1), (.trouble, false, 1), (.normal, false, 1),
      (.normal, false, 1)] := by decide +kernel

theorem test_meets_SampleJoinsHistories_moves_pending :
    [moved .pending (some 96000) 101 false, moved .pending (some 96001) 101 false, moved .pending (some 96000) 505 false,
      moved .pending (some 96000) 800 false] =
    [(.alarm, false, 2), (.pending, false, 1), (.normal, false, 1), (.normal, false, 1)] := by decide +kernel

theorem test_meets_SampleJoinsHistories_moves_alarm :
    [moved .alarm none 505 true, moved .alarm none 101 true, moved .alarm none 800 false,
      moved .clearing (some 70000) 505 false, moved .clearing (some 70001) 505 false,
      moved .clearing (some 99990) 101 false, moved .clearing (some 99990) 800 false] =
    [(.clearing, false, 1), (.alarm, false, 1), (.alarm, true, 1), (.normal, false, 1), (.clearing, false, 1),
      (.alarm, false, 1), (.alarm, true, 1)] := by decide +kernel

theorem test_meets_SampleJoinsHistories_moves_trouble :
    [moved .trouble none 101 false, moved .trouble none 505 false, moved .trouble (some 95001) 505 false,
      moved .trouble (some 95000) 505 false, moved .trouble (some 95000) 800 false, moved .disabled none 505 false] =
    [(.pending, false, 1), (.trouble, false, 1), (.trouble, false, 1), (.normal, false, 1), (.trouble, false, 1),
      (.disabled, false, 1)] := by decide +kernel

/-- R7, R18: one line's sample that completes its history, and one that does not; the repeat count's decay. -/
theorem test_meets_SampleJoinsHistories_line :
    (let s := withLine (lineIn .normal none)
     (s.markDue 0 && s.lineSampled 0) = true ∧ s.lineEnabled 0 = true ∧ s.boostApplies 0 = false) ∧
    (let s := withLine { lineIn .normal none with history := [200] }
     (s.markDue 0 && s.lineSampled 0) = true ∧ ((sampleLine 0 505 s).line 0).history = [200, 505]) ∧
    (let l := { lineIn .normal none with history := [505, 505, 505, 505], repeatCount := 3, decayTimer := some 0 }
     timerDue 120000 120000 l.decayTimer = true ∧ (l.evaluated 120000 false).repeatCount = 2 ∧
       timerDue 119999 120000 l.decayTimer = false ∧ (l.evaluated 119999 false).repeatCount = 3) := by decide +kernel

/-- A sample sum of 402 (reading 100, 509 Ω) is ALARM, one of 2021 (505) NORMAL, one of 3200 (800) OPEN. -/
theorem test_meets_ZoneTimersExpire :
    (let s := withLine { lineIn .pending (some 96000) with history := [100, 100, 101] }
     s.evaluates 0 101 ∧ (s.line 0).zstate = .pending ∧ s.classFound 0 101 = .alarm ∧
       timerDue s.clock (s.line 0).confirmLength (s.line 0).confirmTimer = true) ∧
    (let s := withLine { lineIn .normal (some 95000) with history := [800, 800, 800] }
     s.evaluates 0 800 ∧ (s.line 0).zstate = .normal ∧ s.classFound 0 800 = .openLoop ∧
       timerDue s.clock 5000 (s.line 0).troubleTimer = true) ∧
    (let s := withLine { lineIn .clearing (some 70000) with history := [505, 505, 505] }
     s.evaluates 0 506 ∧ (s.line 0).zstate = .clearing ∧ s.classFound 0 506 = .normal ∧
       timerDue s.clock (s.line 0).ztype.restore (s.line 0).restoreTimer = true) ∧
    (let s := withLine { lineIn .trouble (some 95000) with history := [505, 505, 505] }
     s.evaluates 0 506 ∧ (s.line 0).zstate = .trouble ∧ s.classFound 0 506 = .normal ∧
       timerDue s.clock 5000 (s.line 0).holdTimer = true) ∧
    (let s := { withLine { lineIn .normal (some 0) with history := [505, 505, 505], lastMark := 119980 } with clock := 120000 }
     s.evaluates 0 506 ∧ (s.line 0).zstate = .normal ∧ s.classFound 0 506 ≠ .alarm ∧ 1 ≤ (s.line 0).repeatCount ∧
       timerDue s.clock 120000 (s.line 0).decayTimer = true) := by decide +kernel

/-- R10: the confirm timer's expiry takes the zone into ALARM. -/
theorem test_confirm_expiry_raises :
    let t := after (.confirmTimerExpiry 0 101) (withLine { lineIn .pending (some 96000) with history := [100, 100, 101] })
    (t.line 0).zstate = .alarm ∧ (t.line 0).resistance = 509 ∧ t.rlc.alarmPending = true := by decide +kernel

/-! ### Start-up -/

theorem test_meets_StartUpReads :
    (let s := { State.reset with clock := 1 }
     s.held = false ∧ s.store.access = .startup none default 0 ∧ 1 ≤ s.clock - 0) ∧
    (let s := after .startupReadTimeout { State.reset with clock := 1 }
     s.store.access = .startup (some 0) { (default : StoreScan) with header := none } 1) ∧
    (let s := { State.reset with store := { State.reset.store with access := .startup (some 94) default 0 }, clock := 1 }
     s.held = false ∧ s.store.access = .startup (some 94) default 0 ∧ 94 < 95 ∧ 1 ≤ s.clock - 0) ∧
    (let s := { State.reset with store := { State.reset.store with access := .startup (some 95) default 0 } }
     s.held = false ∧ s.store.access = .startup (some 95) default 0) := by decide +kernel

theorem test_meets_StartUpReads_late :
    (let s := { State.reset with clock := 2 }
     1 < s.clock - 0 ∧ (after .headerReadDone s).store.access = .startup (some 0) default 2) ∧
    (let s := { State.reset with store := { State.reset.store with access := .startup (some 94) default 0 }, clock := 2 }
     1 < s.clock - 0 ∧
       (after .slotReadDone s).store.access = .startup (some 95) { (default : StoreScan) with counts := ⟨0, 1, 0, 0, 0⟩ } 2) ∧
    (let s := { State.reset with store := { State.reset.store with access := .startup (some 95) default 0 }, clock := 2 }
     s.held = false ∧ s.store.access = .startup (some 95) default 0 ∧ 1 < s.clock - 0) := by decide +kernel

/-- A header image of floor 7, labelled "L7", with the types of its first lines as given. -/
def imageOf (types : List ZoneType) : HeaderImage :=
  { name := [], firstFloor := 7, floorCount := 1, floorLabels := [[0x4C#8, 0x37]], replicas := [],
    lines := types.map fun z => { ztype := z, offset := 0, label := [] } }

/-- The station at 97 ms in the last slot read, the header image and line 0's history as given. -/
def at97 (image : Option HeaderImage) (history : List Nat) : State :=
  let s := ({ State.reset with clock := 97 } : State).setLine 0 { LineRecord.atReset with history := history }
  { s with store := { s.store with access := .startup (some 95) { (default : StoreScan) with header := image } 96 } }

/-- Sampling is complete once the lines are configured (R1, R2). -/
def completeAt97 (image : Option HeaderImage) (history : List Nat) : Bool :=
  (List.range 16).all fun i =>
    let l := configureLine image i ((at97 image history).line i)
    decide (l.ztype = .unused ∨ l.history.length = 4)

/-- R2, R181: at the store-ready event sampling is complete with no line enabled and with every enabled line's history full,
but not with one short of samples. R40, R59: the floor of the header image then has the station as owner, and its label. -/
theorem test_meets_StoreReadyFixesImages :
    (at97 none []).held = false ∧ (at97 none []).starting = true ∧ 1 ≤ (at97 none []).clock - 96 ∧
    (at97 none []).store.access = .startup (some 95) { (default : StoreScan) with header := none } 96 ∧
    completeAt97 none [] = true ∧ completeAt97 (some (imageOf [.unused])) [] = true ∧
    completeAt97 (some (imageOf [.detector])) [500, 500, 500, 500] = true ∧
    completeAt97 (some (imageOf [.detector])) [500, 500, 500] = false ∧
    (let s := fixImages { (default : StoreScan) with header := some (imageOf []) } (at97 none [])
     (at97 none []).ownerOf 7 = none ∧ (recomputeHolders (takeHoldings (takeConfiguration s))).ownerOf 7 = some .self ∧
       (imageOf []).floorLabels[7 - 7]? = some [0x4C#8, 0x37]) := by decide +kernel

/-- A header of one floor, 7, labelled with spaces, all lines UNUSED, no replica; its CRC last. -/
def goodHeader : List Byte :=
  [0x5A, 0x31] ++ List.replicate 16 0x20 ++ [7, 1] ++ List.replicate 16 0x20 ++
    (List.replicate 16 ([0#8, 0#8] ++ List.replicate 8 0x20)).flatten ++ List.replicate 9 0 ++ [0x0C, 0x10]

/-- Every check of R104 passes on `goodHeader`, its CRC taken 48 bytes at a time. -/
theorem test_meets_StartUpReads_header_check : (crc16 (goodHeader.take 205)).toNat = halfAt goodHeader 205 := by
  have h : goodHeader.take 205 =
      goodHeader.take 48 ++ ((goodHeader.drop 48).take 48 ++ ((goodHeader.drop 96).take 48 ++ ((goodHeader.drop 144).take 48 ++ (goodHeader.drop 192).take 13))) := by
    decide +kernel
  rw [h, crc16, List.foldl_append, List.foldl_append, List.foldl_append, List.foldl_append,
    show (goodHeader.take 48).foldl crcByte 0xFFFF#16 = 19439#16 by decide +kernel,
    show ((goodHeader.drop 48).take 48).foldl crcByte 19439#16 = 3549#16 by decide +kernel,
    show ((goodHeader.drop 96).take 48).foldl crcByte 3549#16 = 47417#16 by decide +kernel,
    show ((goodHeader.drop 144).take 48).foldl crcByte 47417#16 = 9608#16 by decide +kernel,
    show ((goodHeader.drop 192).take 13).foldl crcByte 9608#16 = 3088#16 by decide +kernel,
    show halfAt goodHeader 205 = 3088 by decide +kernel]
  rfl

theorem test_meets_StartUpReads_header :
    goodHeader.length = 207 ∧ halfAt goodHeader 0 = 0x5A31 ∧
    1 ≤ byteAt goodHeader 19 ∧ byteAt goodHeader 19 ≤ 4 ∧ byteAt goodHeader 18 + byteAt goodHeader 19 ≤ 256 ∧
    (∀ k < 16, byteAt goodHeader (36 + 10 * k) ≤ 4 ∧ byteAt goodHeader (37 + 10 * k) ≤ 3) ∧ byteAt goodHeader 196 ≤ 8 ∧
    (∀ n < 16, byteAt goodHeader (2 + n) = 0x20) ∧ (∀ n < 4, byteAt goodHeader (20 + n) = 0x20) ∧
    (∀ k < 16, ∀ n < 8, byteAt goodHeader (38 + 10 * k + n) = 0x20) ∧
    scanHeader (some (List.replicate 207 0)) = none := by decide +kernel

/-- The counts after a slot of three tiles with the fields given, on a station of floor 7 with floor 3 a replica's, which
has accepted `plan` (R105). -/
def slotCounts (floor kind role revision : Byte) (location check : List Byte) : List Nat :=
  let h : HeaderImage :=
    { name := [], firstFloor := 7, floorCount := 1, floorLabels := [], lines := [], replicas := [3] }
  let x : StoreScan := { header := some h, records := [plan], counts := default }
  (x.takeSlot (some ([floor, kind, role, 0#8, revision, 0#8, 3#8] ++ location ++ List.replicate 24 0x20#8 ++ check ++
    [0xFF, 0xFF, 0xFF]))).counts.list

/-- R105: the counts accepted, bad check, out of range, beyond and duplicate, at the boundary of each check. -/
theorem test_meets_StartUpReads_slots :
    (default : StoreScan).takeSlot (some (List.replicate 40 0xFF)) = default ∧
    slotCounts 7 0 1 5 [0, 1, 0, 0] [0, 0] = [0, 1, 0, 0, 0] := by decide +kernel

theorem test_meets_StartUpReads_slot_revision : slotCounts 7 0 1 0 [0, 1, 0, 0] [82, 231] = [0, 0, 1, 0, 0] := by
  decide +kernel

theorem test_meets_StartUpReads_slot_floor : slotCounts 9 0 1 5 [0, 1, 0, 0] [143, 124] = [0, 0, 0, 1, 0] := by
  decide +kernel

theorem test_meets_StartUpReads_slot_twice : slotCounts 7 0 1 5 [0, 1, 0, 0] [196, 40] = [0, 0, 0, 0, 1] := by
  decide +kernel

theorem test_meets_StartUpReads_slot_replica : slotCounts 3 0 2 5 [0, 1, 0, 0] [206, 152] = [1, 0, 0, 0, 0] := by
  decide +kernel

theorem test_meets_StartUpReads_slot_last_tile : slotCounts 7 1 1 5 [3, 255, 252, 250] [167, 240] = [1, 0, 0, 0, 0] := by
  decide +kernel

theorem test_meets_StartUpReads_slot_past_end : slotCounts 7 1 1 5 [3, 255, 252, 251] [226, 68] = [0, 0, 1, 0, 0] := by
  decide +kernel

/-! ### The riser link -/

theorem test_meets_LinkTimersExpire :
    let s := { up with clock := 600000, rlc := { up.rlc with
      joinTimer := some 597500, refreshTimer := some 598000, directoryTimer := some 590000, duplicateHold := some 570000,
      babbleTimer := some 598000, lineTimer := some 595000, duplicateDecay := some 0, babbleDecay := some 0 } }
    s.held = false ∧ 2500 ≤ s.clock - 597500 ∧ 2000 ≤ s.clock - 598000 ∧ 10000 ≤ s.clock - 590000 ∧
    30000 ≤ s.clock - 570000 ∧ 5000 ≤ s.clock - 595000 ∧ 600000 ≤ s.clock - 0 ∧
    (after .joinListenEnd s).rlc.directoryMark = true ∧ (after .duplicateCountDecay s).rlc.duplicateDecay = none := by
  decide +kernel

/-- An idle round of the serving station with the holdings given. -/
def round (f : RiserLink → RiserLink) : State := serving.modRlc fun r => f { r with phase := .idle 0 }

theorem test_meets_StartMomentBeginsFrame :
    (let s := round fun r => { r with alarmPending := true }
     s.rlc.tx = none ∧ s.rlc.blocks.any = false ∧ s.rlc.directorySent = true ∧ s.rlc.startMoment s.address .alarm = 0) ∧
    (let s := round fun r =>
       { r with control := [{ kind := .mark, dest := 63, payload := [], submitter := .mark, withdrawn := false }] }
     s.rlc.alarmPending = false ∧ s.rlc.control.length = 1 ∧ s.rlc.startMoment s.address .control = 500) ∧
    (let s := round id
     s.rlc.control = [] ∧ s.bulkChoice = some 0 ∧ s.fullBuffer 0 (s.channel 0).nextTile = some (0, [0x11#8]) ∧
       (s.channel 0).owner = .peer 2 9 ∧ (s.channel 0).record = some plan ∧ (s.channel 0).window = some (0, 1) ∧
       s.rlc.startMoment s.address .bulk = 1000) ∧
    (let s := round fun r => { r with directorySent := false, directoryMark := true }
     s.rlc.blocks.any = false ∧ s.rlc.startMoment s.address .routine = 1500) ∧
    (let s := round fun r => { r with zoneStateSent := false }
     s.rlc.directorySent = true ∧ s.rlc.alarmPending = false) ∧
    (let s := { up with rlc := { up.rlc with phase := .idle 0, directoryMark := true } }
     s.bulkChoice = none ∧ s.rlc.zoneStateSent = true) ∧
    (let s := { up with rlc := { up.rlc with phase := .idle 0, refreshMark := true } }
     s.bulkChoice = none ∧ s.rlc.directoryMark = false) ∧
    (let s := { up with rlc := { up.rlc with phase := .idle 0 } }
     s.held = false ∧ s.contends = none) := by decide +kernel

/-- R30, R56: a station with an own entry and EMPTY ones, and a station with own holdings. -/
theorem test_meets_StartMomentBeginsFrame_layouts :
    (let s := up.setEntry 1 0 { ZoneEntry.empty with known := true, ztype := .detector, zstate := .alarm, floor := 7, age := .own 90000 }
     s.ownOrigin = 1 ∧ (s.entry s.ownOrigin 0).known = true ∧ (s.entry s.ownOrigin 1).known = false ∧
       s.zoneStatePayload.take 4 = [0, 7, 1, 2] ∧ slice s.zoneStatePayload 12 2 = [0, 10]) ∧
    owning.holders.own = some { firstFloor := 7, floorCount := 1, owned := [1#6], replicas := [] } ∧
    owning.directoryFrame.take 4 = [2, 0, 7, 1] ∧ owning.directoryFrame.drop 148 = [1, 7, 1, 1] := by decide +kernel

theorem test_meets_RoundsBurstsAndYieldMarks :
    (up.rlc.tx.all fun t => t.frame.isNone) = true ∧ up.rlc.phase = .quiet ∧
    (let s := serving.modRlc fun r => { r with burst := some 0, yieldDue := true }
     s.held = false ∧ s.rlc.tx = none ∧ s.rlc.blocks.any = false ∧ (s.channel 0).state = .serve ∧
       s.buffer 0 = { holder := some 0, state := .full (s.channel 0).nextTile [0x11#8] } ∧
       (s.channel 0).burstMode = true ∧ (s.channel 0).nextTile < 1 ∧
       s.buffer 1 = { holder := some 0, state := .full ((s.channel 0).nextTile + 1) [0x22#8] } ∧
       (s.channel 1).state ≠ .serve) ∧
    (after .burstContinuation (serving.modRlc fun r => { r with burst := some 0 })).rlc.tx.isSome = true ∧
    (after .yieldMark (serving.modRlc fun r => { r with yieldDue := true })).rlc.counters.yieldMarks = 1 := by decide +kernel

/-- A CONTROL entry of channel 0's SHEET REQUEST. -/
def requestEntry : ControlEntry :=
  { kind := .sheetRequest, dest := 2, payload := [], submitter := .request 0 false, withdrawn := false }

theorem test_meets_FrameSentToItsEnd :
    (∀ src ∈ [TxSource.zoneState, .directory, .control, .tile 0 0],
      ∃ x, (driving src (some someFrame)).rlc.tx = some x ∧ x.frame = some someFrame ∧ x.source = src ∧
        x.serviceLive = true) ∧
    (let s := ((driving .control (some someFrame)).setChannel 0 fetcher).modRlc fun r => { r with control := [requestEntry] }
     s.held = false ∧ (s.channel 0).isRemote = true ∧ (s.channel 0).result = none) ∧
    (serving.channel 0).window = some (0, 1) ∧ (serving.channel 0).nextTile < 1 ∧
    (let s := serving.setChannel 0 { server with nextTile := 1 }
     (s.channel 0).window = some (0, 1) ∧ 1 ≤ (s.channel 0).nextTile) := by
  refine ⟨?_, by decide +kernel⟩
  intro src h
  exact ⟨_, rfl, rfl, rfl, rfl⟩

theorem test_meets_FrameSentToItsEnd_gap :
    let s := ((driving .control (some someFrame)).setChannel 0 { fetcher with state := .receive }).modRlc fun r =>
      { r with control := [{ requestEntry with submitter := .request 0 true }] }
    s.held = false ∧ (s.channel 0).state = .receive ∧ (s.channel 0).result = none ∧ (s.channel 0).window = some (0, 2) ∧
    0 ≤ (s.channel 0).fetch ∧ (s.channel 0).fetch ≤ 2 ∧ (s.channel 0).fetch ≤ (s.channel 0).curLast ∧
    ((after .transmissionComplete s).channel 0).gapTimer = some 100000 ∧ ((after .transmissionComplete s).channel 0).responseTimer = none := by
  decide +kernel

/-- The last tile of a service, a tile of a service that has ended, and a yield mark. -/
theorem test_meets_FrameSentToItsEnd_last :
    (let s := (driving (.tile 0 1) (some { someFrame with kind := .sheetTile })).setChannel 0 { server with nextTile := 1 }
     (s.channel 0).window = some (0, 1) ∧ 1 ≤ (s.channel 0).nextTile ∧
       (after .transmissionComplete s).channel 0 = Channel.freed ∧ (after .transmissionComplete s).rlc.lastOrigins.bulk = 1 ∧
       (after .transmissionComplete s).ste.counters.servicesCompleted = 1) ∧
    (let s := (driving (.tile 0 1) (some { someFrame with kind := .sheetTile })).modRlc fun r =>
       { r with tx := r.tx.map fun x => { x with serviceLive := false } }
     (s.buffer 1).holder = some 0 ∧ (s.channel 0).state = .serve ∧ (s.rlc.tx.all fun x => !x.serviceLive) = true) ∧
    (let s := (driving (.tile 0 2) (some someFrame)).modRlc fun r => { r with tx := r.tx.map fun x => { x with serviceLive := false } }
     (s.buffer 2).holder = none) ∧
    (let s := driving .yieldMark none
     (s.rlc.tx.all fun x => x.frame.isNone) = true ∧ (after .transmissionComplete s).rlc.tx = none) := by decide +kernel

theorem test_meets_TransmissionsGivenUp :
    (let s := driving .directory (some someFrame)
     s.held = false ∧ s.rlc.abandoned < 7 ∧ 10 ≤ s.clock - 99990) ∧
    (let s := (driving .directory (some someFrame)).modRlc fun r => { r with abandoned := 7 }
     (after .attemptAbandoned s).rlc.blocks.line = true ∧ (after .attemptAbandoned s).rlc.abandoned = 0) ∧
    (after .transmitGuardCut (driving .directory (some someFrame))).rlc.babbleCount = 1 := by decide +kernel

/-- A frame's bytes without framing error. -/
def onLine (l : List Byte) : List LineByte := l.map fun b => ⟨b, false⟩

theorem test_meets_ReceiverDiscards :
    (up.held = false ∧ up.receives = true) ∧
    (after (.receiveFailure (onLine [0x5A])) up).rlc.counters.badStart = 1 ∧
    (after (.receiveFailure [⟨0xA5#8, false⟩, ⟨0#8, true⟩]) up).rlc.counters.framingError = 1 ∧
    (after (.receiveFailure (onLine [0xA5, 0x31, 2, 63, 1, 0xA1])) up).rlc.counters.badLength = 1 ∧
    (after (.receiveFailure (onLine [0xA5, 0x31, 2, 63, 1, 0xA0])) up).rlc.counters.truncated = 1 ∧
    (let s := up.modRlc fun r => { r with phase := .idle 7 }
     s.receives = true ∧ (after (.receiveFailure (onLine [0xA5, 0x31])) s).rlc.phase = .idle 7 ∧
       (after (.receiveFailure (onLine [0xA5, 0x31])) up).rlc.phase = .quiet) ∧
    (after (.receiveFailure (onLine [0xA5, 0x44, 2, 1, 0, 1] ++ [⟨0#8, true⟩])) up).rlc.counters.framingError = 1 ∧
    (after (.receiveFailure (onLine [0xA5, 0x43, 2, 1, 0, 0, 0, 0])) up).rlc.counters.badCrc = 1 ∧
    (let f := [0x40#8, 2, 1, 0, 0]
     (after (.receiveFailure (onLine ([0xA5#8] ++ f ++ be16 (crc16 f).toNat))) up).rlc.counters.unknownKind = 1) := by
  decide +kernel

/-! ### Frames from peers -/

theorem test_meets_FramesOfNoPeer :
    up.held = false ∧ up.receives = true ∧ (1#8).toNat = up.address ∧ up.rlc.blocks.duplicate = false ∧
    (up.putBlock .duplicate true).rlc.blocks.duplicate = true ∧
    (after (.zoneState .alarm 1 63 []) up).rlc.duplicateCount = 1 ∧
    (after (.directory 2 1 []) up).rlc.counters.misdirected = 1 ∧
    (after (.sheetCancel 2 3 []) up).rlc.counters.notForThis = 1 ∧
    (after (.markAck 63 63 []) up).peers.unplacedFrames = 1 := by decide +kernel

/-- A row of sixteen records of UNUSED lines. -/
def blankRow : List Byte :=
  ((List.range 16).map fun k => [byte k, 0#8, 0, 5] ++ List.replicate 10 0 ++ List.replicate 8 0x20 ++ [0]).flatten

/-- The same with line 0 a DETECTOR in ALARM on floor 9, acknowledged by "B" of station 2. -/
def alarmRow : List Byte :=
  [0#8, 9, 1, 2, 0, 8, 1, 0, 1, 0xFD, 0, 3, 0, 4, 0x42, 0x20, 0x20, 0x20, 0x20, 0x20, 0x20, 0x20, 2] ++ blankRow.drop 23

theorem test_meets_ZoneStateReplacesRow :
    up.canTake (2#8).toNat ∧ zonePayloadGood alarmRow = true ∧ zonePayloadGood [0] = false ∧
    (up.peer 2).presence = .present ∧
    (zoneRecordAt alarmRow 0).flags = 8 ∧ (zoneRecordAt alarmRow 0).zstate = 2 ∧ (zoneRecordAt alarmRow 0).station = 2 ∧
    (zoneRecordAt alarmRow 15).flags < 8 := by decide +kernel

/-- A good DIRECTORY: OPERATING, floors 7 and 8, the plan of floor 7 owned, that of floor 3 a replica. -/
def goodDirectory : List Byte :=
  [2#8, 0, 7, 2] ++ List.replicate 144 0x20 ++ [2, 7, 1, 1, 3, 2, 1]

theorem test_meets_DirectoryReplacesRecord :
    up.canTake (2#8).toNat ∧ directoryGood goodDirectory = true ∧ directoryGood [] = false ∧
    (up.peer 2).presence = .present ∧ (up.setPeer 2 PeerRecord.atReset).canTake 2 ∧
    byteAt goodDirectory 148 = 2 ∧ byteAt goodDirectory 150 = 1 ∧ byteAt goodDirectory 153 = 2 := by decide +kernel

/-- A LOST peer's DIRECTORY brings it back. -/
theorem test_meets_DirectoryReplacesRecord_back :
    let s := up.setPeer 2 { PeerRecord.atReset with presence := .lost }
    SummaryLaw s ∧ s.canTake 2 ∧ (s.peer 2).presence = .lost ∧ (s.port .a).attached = true ∧ (s.notices .a).queue.length < 32 :=
  ⟨up_summary, by decide +kernel⟩

/-- The running station with peer 2 LOST, which covers floor 9 by its latest DIRECTORY, and its line 0 STALE in ALARM. -/
def lost : State :=
  (up.setPeer 2 { PeerRecord.atReset with
    presence := .lost, directory := some ⟨.operating, false, 9, 1, [[0x4C#8, 0x39]], [], [1], []⟩ }).setEntry 2 0
    { ZoneEntry.empty with known := true, ztype := .detector, zstate := .alarm, floor := 9, stale := true }

/-- R40, R50, R53, R59: a LOST peer is heard by any frame, a rejected one too: its floor has its owner and label again, and its
row is not STALE. -/
theorem test_meets_FrameHeard :
    lost.canTake (2#8).toNat ∧ (lost.peer 2).presence = .lost ∧ lost.ownerOf 9 = none ∧ (lost.entry 2 0).stale = true ∧
    markGood 2 (markOf 0 2) = false ∧
    ∀ c ∈ [Instr.zoneState .alarm 2 63 [0], .directory 2 63 [], .sheetTile 2 1 [], .markAck 2 63 (markOf 1 2)],
      ((after c lost).peer 2).presence = .present ∧ (after c lost).ownerOf 9 = some (.peer 2) ∧
      ((after c lost).floor 9).label = some [0x4C#8, 0x39] ∧ ((after c lost).entry 2 0).stale = false ∧
      ((after c lost).floor 9).changeNumber = 1 := by decide +kernel

/-- R55, R59: a DIRECTORY of a PRESENT peer that has given none, and of one that has given the same claims. -/
theorem test_meets_DirectoryReplacesRecord_claims :
    let d := directoryOf goodDirectory
    let s := up.setPeer 2 { heardPeer with directory := some { d with noConfig := true } }
    (up.peer 2).presence = .present ∧ (up.peer 2).directory = none ∧ s.canTake 2 ∧ (s.peer 2).presence = .present ∧
    (d.firstFloor, d.floorCount, d.owned, d.replicas) = (7, 2, [1#6, 0#6], [(3, 1#6)]) ∧
    ∃ o, (s.peer 2).directory = some o ∧ o ≠ d ∧ o.claimFields = d.claimFields :=
  ⟨by decide +kernel, by decide +kernel, by decide +kernel, by decide +kernel, by decide +kernel,
    { directoryOf goodDirectory with noConfig := true }, by decide +kernel⟩

/-- R57, R58: peers 2 and 3 cover floor 7 and peer 4 holds a replica of it; the station, strapped to no valid address, ranks
last and is left out. -/
theorem test_meets_DirectoryReplacesRecord_rows :
    let covering := fun (x : Source) (k : KindSet) => ({ source := x, firstFloor := 7, floorCount := 1, owned := [k], replicas := [] } : Claim)
    let peer4 : Claim := { source := .peer 4, firstFloor := 1, floorCount := 1, owned := [0], replicas := [(7, 4#6)] }
    rowFrom [covering (.peer 2) 1, covering (.peer 3) 2, peer4, covering .self 8] 7 =
      { owner := some ⟨.peer 2, 1⟩, replicas := [⟨.peer 3, 2⟩, ⟨.peer 4, 4⟩] } ∧
    rowFrom [peer4] 7 = { owner := none, replicas := [⟨.peer 4, 4⟩] } ∧
    (let s := (owning.setPeer 2 { heardPeer with directory := some ⟨.operating, false, 7, 1, [], [], [1], []⟩ })
     s.allClaims.map (·.source) = [.self, .peer 2] ∧
       ({ s with address := 63 } : State).allClaims.map (·.source) = [.peer 2, .self]) := by decide +kernel

/-- R56, R60: the own holdings of a covered floor and of a replica floor listed twice; candidate lists. -/
theorem test_meets_DirectoryReplacesRecord_holdings :
    (let h : HeaderImage :=
       { name := [], firstFloor := 7, floorCount := 2, floorLabels := [], lines := [], replicas := [9, 3, 9, 7] }
     ownHoldingsOf (some h) [plan, { plan with floor := 3, kind := 2, role := .replica }] =
       { firstFloor := 7, floorCount := 2, owned := [1#6, 0#6], replicas := [(3, 4#6), (9, 0#6)] }) ∧
    ownHoldingsOf none [plan] = { firstFloor := 0, floorCount := 0, owned := [], replicas := [] } ∧
    owning.candidates 7 0 = [.self] ∧ holding.candidates 7 0 = [.peer 2, .peer 3] ∧ holding.candidates 7 1 = [] := by
  decide +kernel

/-- R139: a payload of another length than 10, from a LOST peer. -/
theorem test_meets_SheetRequestServed_length :
    lost.canTake 2 ∧ (1#8).toNat = lost.address ∧ [9#8, 7].length ≠ 10 ∧
    (after (.sheetRequest 2 1 [9, 7]) lost).ste.counters.serveIgnored = 1 := by decide +kernel

theorem test_meets_SheetRequestServed :
    (1#8).toNat = owning.address ∧ owning.canTake 2 ∧ validAddress owning.address = true ∧
    (owning.peer 2).presence = .present ∧ owning.rlc.blocks.any = false ∧ owning.serviceOf 2 9 = none ∧
    owning.rlc.control.length < 8 ∧ owning.lookup 8 0 0 = none ∧ owning.lookup 7 0 5 = some plan ∧ owning.lookup 7 0 0 = some plan ∧
    owning.freeChannel = some 0 ∧ owning.serving < 4 ∧ 2 ≤ owning.freeBuffers ∧
    (after (.sheetRequest 2 1 [0, 7, 0, 0, 5, 0, 2, 0, 9, 1]) owning).ste.counters.serveIgnored = 1 ∧
    ((after (.sheetRequest 2 1 [9, 7, 0, 0, 5, 0, 2, 0, 9, 1]) owning).channel 0).window = some (2, 2) := by decide +kernel

/-- R139: the refuses REVISION and RANGE, and BUSY for want of a channel or of a buffer. -/
theorem test_meets_SheetRequestServed_refused :
    let refused := fun (s : State) (revision first last : Byte) =>
      ((after (.sheetRequest 2 1 [9, 7, 0, 0, revision, 0, first, 0, last, 1]) s).rlc.control.map fun e => (e.dest, e.payload))
    owning.lookup 7 0 6 = none ∧ refused owning 6 0 2 = [(2, [9, 2])] ∧ refused owning 5 2 1 = [(2, [9, 5])] ∧
    refused owning 5 3 4 = [(2, [9, 5])] ∧
    (let s := { owning with ste := { owning.ste with buffers := Vector.replicate 16 ⟨some 5, .empty⟩ } }
     s.freeBuffers = 0 ∧ refused s 5 0 2 = [(2, [9, 3])]) ∧
    (let s := { owning with ste := { owning.ste with channels := Vector.replicate 6 fetcher } }
     s.freeChannel = none ∧ refused s 5 0 2 = [(2, [9, 3])]) ∧
    (after (.sheetRequest 2 1 [9, 7, 0, 0, 6, 0, 0, 0, 2, 1]) (owning.modRlc fun r =>
      { r with control := List.replicate 8 ⟨.mark, 63, [], .mark, false⟩ })).ste.counters.controlNotSent = 1 := by
  decide +kernel

/-- R142: a service replaced, and ended by a refused replacement. -/
theorem test_meets_SheetRequestServed_replaced :
    let s := { serving with store := owning.store }
    let t := fun (revision burst : Byte) => after (.sheetRequest 2 1 [9, 7, 0, 0, revision, 0, 1, 0, 9, burst]) s
    s.canTake 2 ∧ s.serviceOf 2 9 = some 0 ∧ s.heldBy 0 = 2 ∧ s.bufferBusy 1 = false ∧
    (((t 5 1).channel 0).window, ((t 5 1).channel 0).burstMode, (t 5 1).heldBy 0) = (some (1, 2), true, 2) ∧
    (((t 5 0).channel 0).window, ((t 5 0).channel 0).burstMode, (t 5 0).heldBy 0) = (some (1, 2), false, 1) ∧
    (t 6 1).channel 0 = Channel.freed ∧ (t 6 1).rlc.control.map (·.payload) = [[9, 2]] := by decide +kernel

/-- A good SHEET TILE payload: tile 0 of three of the plan for tag 9, more following. -/
def goodTile : List Byte := [9#8, 7, 0, 0, 5, 0, 0, 0, 3, 0, 0, 0, 2, 1] ++ List.replicate 256 0x11

theorem test_meets_SheetFramesTaken :
    (let s := withChannel fetcher .empty .empty
     s.canTake 2 ∧ validAddress s.address = true ∧ (s.peer 2).presence = .present ∧ s.channelOfTag 9 = some 0 ∧
       (s.channel 0).state = .request ∧ (s.channel 0).result = none ∧ (s.channel 0).fetch ≤ (s.channel 0).curLast ∧
       (s.channel 0).currentPeer = some 2 ∧ (s.channel 0).busyRetries < 3 ∧ sheetTileGood goodTile = true ∧
       (s.channel 0).floor = byteAt goodTile 1 ∧ (s.channel 0).kind = byteAt goodTile 2 ∧ (s.channel 0).pinned = 0 ∧
       (s.channel 0).window = some (0, 2) ∧ (s.channel 0).fetch = halfAt goodTile 5 ∧ s.emptyBuffers 0 = [0, 1]) ∧
    serving.serviceOf 2 9 = some 0 ∧ up.channelOfTag 9 = none ∧ up.serviceOf 2 9 = none ∧ sheetTileGood [] = false := by
  decide +kernel

/-- R130 to R132: a refuse other than BUSY with a further candidate, and with none left. -/
theorem test_meets_SheetFramesTaken_refuse :
    (let s := withChannel fetcher .empty .empty
     let k := s.channel 0
     s.rlc.blocks.any = false ∧ s.rlc.control = [] ∧ k.isRemote = true ∧ k.fetch ≤ k.curLast ∧
       k.candidates[k.position + 1]? = some (.peer 3) ∧ s.present 3 = true ∧
       1 ≤ min 4 ((crewClaim 0 (s.acceptedPresent .control 2 false)).emptyBuffers 0).length ∧
       ((after (.sheetRefuse 2 1 [9, 1]) s).channel 0).position = 1 ∧ (after (.sheetRefuse 2 1 [9, 1]) s).rlc.control.length = 1) ∧
    (let s := withChannel { fetcher with candidates := [.peer 2] } .empty .empty
     (s.channel 0).candidates.length = (s.channel 0).position + 1 ∧ (s.channel 0).pinned = 0 ∧ (s.channel 0).record = none ∧
       ((after (.sheetRefuse 2 1 [9, 5]) s).channel 0).result = some (.failed .range)) ∧
    (let s := withChannel { fetcher with state := .receive, busyRetries := 3 } .empty .empty
     (s.channel 0).state = .receive ∧ 3 ≤ (s.channel 0).busyRetries) := by decide +kernel

/-- The tile that follows `goodTile`. -/
def nextTile : List Byte := [9#8, 7, 0, 0, 5, 0, 1, 0, 3, 0, 0, 0, 2, 1] ++ List.replicate 256 0x11

/-- R130: a tile above the one expected, at the first strike with no buffer and with buffers, and at the second; and the
clauses of a tile that no channel takes. -/
theorem test_meets_SheetFramesTaken_gap :
    (let s := withChannel { fetcher with state := .receive } .empty .empty
     s.canTake 2 ∧ sheetTileGood nextTile = true ∧ s.channelOfTag 9 = some 0 ∧ (s.channel 0).state = .receive ∧
       (s.channel 0).window = some (0, 2) ∧ (s.channel 0).fetch < halfAt nextTile 5 ∧ (s.channel 0).gapStrike = 0 ∧
       s.rlc.control.length < 8 ∧ ((after (.sheetTile 2 1 nextTile) s).channel 0).gapStrike = 1 ∧
       (after (.sheetTile 2 1 nextTile) s).rlc.control.length = 1) ∧
    (let s := (up.setChannel 0 { fetcher with state := .receive }).modSte fun e =>
       { e with buffers := Vector.replicate 16 ⟨some 5, .empty⟩ }
     ((crewClaim 0 s).emptyBuffers 0).length = 0 ∧ ((after (.sheetTile 2 1 nextTile) s).channel 0).wantWindow = true) ∧
    (let s := withChannel { fetcher with state := .receive, gapStrike := 1 } .empty .empty
     (s.channel 0).gapStrike ≠ 0 ∧ s.rlc.control = [] ∧ (s.channel 0).candidates[(s.channel 0).position + 1]? = some (.peer 3) ∧
       s.present 3 = true ∧ (after (.sheetTile 2 1 nextTile) s).rlc.control.map (·.kind) = [.sheetCancel, .sheetRequest]) ∧
    (let s := withChannel { fetcher with state := .receive, fetch := 1 } .empty .empty
     halfAt goodTile 5 < (s.channel 0).fetch ∧ (after (.sheetTile 2 1 goodTile) s).ste.counters.strayTiles = 1 ∧
       (after (.sheetTile 3 1 goodTile) s).ste.counters.strayTiles = 1) := by decide +kernel

/-- The running station with peer 2's line 0 in ALARM. -/
def alarmed : State := up.setEntry 2 0 { ZoneEntry.empty with known := true, ztype := .detector, zstate := .alarm, floor := 9 }

theorem test_meets_MarkAckTaken :
    alarmed.canTake (2#8).toNat ∧ (alarmed.peer 2).presence = .present ∧ markGood 2 (markOf 1 2) = true ∧
    byteAt (markOf 1 2) 0 = 1 ∧ (alarmed.entry 2 0).known = true ∧ (alarmed.entry 2 0).changeNumber = halfAt (markOf 1 2) 13 ∧
    (alarmed.entry 2 0).zstate = .alarm ∧ (alarmed.entry 2 0).ack = none ∧ (alarmed.entry 3 0).known = false ∧
    markGood 2 (markOf 1 3) = true ∧ markGood 2 (markOf 1 63) = false ∧ markGood 2 (markOf 0 2) = false := by decide +kernel

theorem test_meets_MarkAttendTaken :
    up.canTake (2#8).toNat ∧ markGood 2 (markOf 2 9) = true ∧ byteAt (markOf 2 9) 0 = 2 ∧ markGood 2 (markOf 3 9) = true ∧
    byteAt (markOf 3 9) 0 = 3 ∧
    ((after (.markAttendOn 2 63 (markOf 2 9)) up).floor 9).attendance =
      [{ label := [0x42#8], station := 2, port := .a, time := 100000 }] := by decide +kernel

theorem test_meets_MarkAttendTaken_any :
    (let s := up.setPeer 2 { PeerRecord.atReset with presence := .lost }
     s.canTake 2 ∧ markGood 2 (markOf 2 9) = true ∧ byteAt (markOf 2 9) 0 = 2 ∧
       ((after (.markAttendOn 2 63 (markOf 2 9)) s).floor 9).changeNumber = 1) ∧
    (let s := up.setFloor 9 { FloorSummary.atReset with attendance := [{ label := [0x42#8], station := 2, port := .a, time := 0 }] }
     ((after (.markAttendOff 2 63 (markOf 3 9)) s).floor 9).attendance = [] ∧
       ((after (.markAttendOff 2 63 (markOf 3 9)) s).floor 9).changeNumber = 1 ∧
       ((after (.markAttendOff 2 63 (markOf 3 9)) up).floor 9).changeNumber = 0) ∧
    markGood 2 (markOf 2 9 ++ [0]) = false ∧ (after (.markAttendOn 2 63 (markOf 2 9 ++ [0])) up).marks.rejected = 1 := by
  decide +kernel

theorem test_meets_SilenceLosesPeer :
    SummaryLaw { up with clock := 106000 } ∧ up.held = false ∧ up.isPeer (2#6).toNat = true ∧
    (up.peer 2).presence = .present ∧ (up.peer 2).silence = some 100000 ∧ 6000 ≤ 106000 - 100000 ∧
    (up.port .a).attached = true ∧ (up.notices .a).queue.length < 32 :=
  ⟨up_summary, by decide +kernel⟩

/-! ### The plan store -/

/-- A read of tile 0 of the plan for channel 0, into buffer 0, begun 1 ms ago. -/
def reading (k : Channel) (r : SheetRecord) (withdrawn : Bool) : State :=
  let s := withChannel k (.reading 0) .empty
  { s with store := { s.store with access := .tile { channel := 0, record := r, tile := 0, buffer := 0 } 99999 withdrawn } }

/-- A channel of port A reading the plan from the own store, with peer 2 a further candidate. -/
def localReader (l : List Source) : Channel :=
  { Channel.freed with
    state := .localStore, owner := .port .a, floor := 7, record := some plan, pinned := 5, origLast := 2, curLast := 2,
    candidates := l, tag := 9 }

/-- The check of 256 erased bytes, 64 bytes at a time. -/
theorem erased_check : crc16 (List.replicate 256 0xFF#8) = 23343#16 := by
  have h : List.replicate 256 0xFF#8 =
      List.replicate 64 0xFF#8 ++ (List.replicate 64 0xFF#8 ++ (List.replicate 64 0xFF#8 ++ List.replicate 64 0xFF#8)) := by
    simp only [List.replicate_append_replicate]
  rw [h, crc16, List.foldl_append, List.foldl_append, List.foldl_append,
    show (List.replicate 64 0xFF#8).foldl crcByte 0xFFFF#16 = 61780#16 by decide +kernel,
    show (List.replicate 64 0xFF#8).foldl crcByte 61780#16 = 7587#16 by decide +kernel,
    show (List.replicate 64 0xFF#8).foldl crcByte 7587#16 = 4803#16 by decide +kernel]
  decide +kernel

/-- The blank flash with a good check behind 256 erased bytes at 65536. -/
def goodFlash : Memory := [⟨65792, 0x5B#8⟩, ⟨65793, 0x2F#8⟩]

/-- The tile of the blank flash is BAD, that of `goodFlash` good. -/
theorem test_meets_TileReadsEnd_check :
    (let bytes := Memory.readRange [] 65536 258
     (crc16 (bytes.take 256)).toNat ≠ halfAt bytes 256) ∧
    (let bytes := goodFlash.readRange 65536 258
     (crc16 (bytes.take 256)).toNat = halfAt bytes 256) := by
  have hb : (Memory.readRange [] 65536 258).take 256 = List.replicate 256 0xFF#8 := by decide +kernel
  have hg : (goodFlash.readRange 65536 258).take 256 = List.replicate 256 0xFF#8 := by decide +kernel
  simp only [hb, hg, erased_check]
  decide +kernel

theorem test_meets_TileReadsEnd :
    (67108864 < 67108607 + 258 * 0 + 258) ∧ (65536 + 258 * 0 + 258 ≤ 67108864) ∧
    (let s := reading (localReader [.self]) plan false
     s.held = false ∧ (s.channel 0).state = .localStore ∧ s.remotePath (s.channel 0) = false ∧ 1 ≤ s.clock - 99999 ∧
       (s.buffer 0).holder = some 0) ∧
    (let s := reading server plan false
     (s.channel 0).state = .serve ∧ (s.channel 0).owner = .peer 2 9 ∧ s.rlc.blocks.any = false) ∧
    (let s := reading (localReader [.self, .peer 2]) plan false
     (s.channel 0).candidates = [.self, .peer 2] ∧ Source.self ∉ [Source.peer 2] ∧ s.remotePath (s.channel 0) = true) := by
  decide +kernel

/-- R126: a remote path from a PRESENT peer behind the station itself, in a list without it, and none with it last. -/
theorem test_meets_TileReadsEnd_path :
    up.remotePath (localReader [.peer 3, .self, .peer 2]) = true ∧ up.remotePath (localReader [.peer 2]) = true ∧
    up.remotePath (localReader [.peer 2, .self]) = false ∧ up.remotePath (localReader [.self, .peer 9]) = false := by
  decide +kernel

/-- A row that comes late, a read withdrawn from a channel that is FREE, serves or has gone on, and what waits behind. -/
theorem test_meets_TileReadsEnd_withdrawn :
    (let s := reading { Channel.freed with state := .free } plan true
     s.store.access = .tile { channel := 0, record := plan, tile := 0, buffer := 0 } 99999 true ∧
       (s.buffer 0).holder = some 0 ∧ (s.channel 0).state = .free ∧
       (after .tileReadTimeout s).buffer 0 = { holder := none, state := .empty }) ∧
    (let s := reading { server with burstMode := false } plan true
     (s.channel 0).state = .serve ∧ (s.channel 0).burstMode = false ∧ 1 < s.heldBy 0) ∧
    (let s := reading fetcher plan true
     (s.channel 0).state = .request ∧ (after .tileReadTimeout s).buffer 0 = { holder := some 0, state := .empty }) ∧
    (let s := (reading Channel.freed plan true).setBuffer 0 { holder := none, state := .empty }
     (s.buffer 0).holder = none) ∧
    (let s := { reading server plan false with clock := 100001 }
     1 < s.clock - 99999 ∧ (after .tileReadEnd s).store.timeouts = 1) ∧
    (let s := reading server plan false
     let w := { s with store := { s.store with waiting := some (.check, false) } }
     let q := { s with store := { s.store with lists := tset s.store.lists 3 [queuedRead] } }
     w.store.waiting = some (.check, false) ∧ (∀ c < 6, s.readList c = []) ∧ s.store.waiting = none ∧
       q.readList 3 = queuedRead :: [] ∧ (∀ j < 3, q.readList ((q.store.rotation + 1 + j) % 6) = [])) := by decide +kernel

/-- Port A in maintenance mode. -/
def maint : State := { up with maintenance := true, rlc := { up.rlc with blocks := { up.rlc.blocks with maintenance := true } } }

theorem test_meets_StoreRequestsTaken :
    Ready .a up ∧ Ready .b up ∧ Ready .a maint ∧ up.maintenance = false ∧ maint.maintenance = true ∧
    maint.store.maintBusy = false ∧
    ({ maint with store := { maint.store with waiting := some (.check, false) } } : State).store.maintBusy = true ∧
    67108864 < (67108863#32).toNat + 2 ∧ 256 < (255#32).toNat % 256 + 2 ∧ (1024#16).toNat = 1024 ∧ (1023#16).toNat ≤ 1023 ∧
    (after (.storeWrite .a 0#32 []) maint).portA.sending.map (·.body) = some [0x10#8, 0x41#8, 1#8, 1#8] ∧
    (after (.storeWrite .a 0#32 (List.replicate 257 0)) maint).portA.sending.map (·.body) = some [0x10#8, 0x41#8, 1#8, 1#8] ∧
    (after (.storeWrite .a 255#32 [1, 2]) maint).portA.sending.map (·.body) = some [0x10#8, 0x4D#8, 1#8, 1#8] ∧
    (after (.storeWrite .a 254#32 [1, 2]) maint).store.access = .write 254 [1, 2] 100000 false := by decide +kernel

theorem test_meets_StoreOperationsEnd :
    (let s := { maint with store := { maint.store with access := .write 4 [0x0F#8] 99995 false } }
     s.held = false ∧ MemoryLaw s ∧ 4 + 1 ≤ 67108864 ∧ 5 ≤ s.clock - 99995 ∧
       (s.store.memory.program 4 [0x0F#8]).read 4 = 0x0F#8 ∧
       ((after .storeWriteDone s).portA.sending.map (·.body)) = some [0x10#8, 0x07#8, 1#8, 1#8]) ∧
    ((Memory.program [⟨4, 0xF0#8⟩] 4 [0x0F#8]).read 4 ≠ 0x0F#8) ∧
    (let s := { maint with store := { maint.store with access := .erase 3 98000 false, memory := [⟨196608, 0#8⟩] } }
     MemoryLaw s ∧ 2000 ≤ s.clock - 98000 ∧ (after .storeEraseDone s).store.memory = []) := by decide +kernel

theorem test_meets_StoreOperationsEnd_late :
    (let s := { maint with store := { maint.store with access := .write 4 [0x0F#8] 99994 false } }
     5 < s.clock - 99994 ∧ MemoryLaw s ∧
       ((after .storeWriteDone s).portA.sending.map (·.body)) = some [0x10#8, 0x4F#8, 1#8, 1#8]) ∧
    (let s := { maint with store := { maint.store with access := .write 4 [0x0F#8] 99995 true } }
     s.clock - 99995 ≤ 5 ∧ (after .storeWriteDone s).portA.sending = none) ∧
    (let s := { maint with store := { maint.store with access := .erase 3 97999 false } }
     2000 < s.clock - 97999 ∧ s.held = false ∧ MemoryLaw s) := by decide +kernel

theorem test_meets_StoreCheckReadsAgain_late :
    (let s := { maint with store := { maint.store with access := .check none default 99998 false } }
     1 < s.clock - 99998 ∧ (after .storeCheckReadDone s).store.access = .check (some 0) default 100000 false) ∧
    (let s := { maint with store := { maint.store with access := .check (some 94) default 99998 false } }
     (after .storeCheckReadDone s).store.access =
       .check (some 95) { (default : StoreScan) with counts := ⟨0, 1, 0, 0, 0⟩ } 100000 false) ∧
    (let s := { maint with store := { maint.store with access := .check (some 95) default 99999 false } }
     1 ≤ s.clock - 99999 ∧
       ((after .storeCheckReadTimeout s).portA.sending.map fun m => m.body.drop 24) = some [0, 1, 0, 0, 0]) := by
  decide +kernel

theorem test_meets_StoreCheckReadsAgain :
    (let s := { maint with store := { maint.store with access := .check none default 99999 false } }
     s.held = false ∧ 1 ≤ s.clock - 99999 ∧
       (after .storeCheckReadTimeout s).store.access = .check (some 0) default 100000 false) ∧
    (let s := { maint with store := { maint.store with access := .check (some 95) default 99999 true } }
     (after .storeCheckReadDone s).store.access = .free) := by decide +kernel

/-! ### Sheet transfers -/

theorem test_meets_SheetRequestTaken :
    (Ready .b up ∧ (up.port .b).label = none) ∧ (Ready .a up ∧ (up.port .a).label ≠ none) ∧
    (2#16).toNat < (3#16).toNat ∧ up.freeChannel = some 0 ∧ (up.channelsOf .a).length < 3 ∧ up.candidates 7 0 = [] ∧
    (let s := { up with ste := { up.ste with channels := Vector.replicate 6 server } }
     s.freeChannel = none) ∧
    (let s := holding.putBlock .line true
     s.candidates 7 0 ≠ [] ∧ s.rlc.blocks.any = true ∧ (s.candidates 7 0).head? ≠ some .self) ∧
    (let s := (holding.setPeer 2 PeerRecord.atReset).setPeer 3 PeerRecord.atReset
     s.candidates 7 0 = [.peer 2, .peer 3] ∧ s.present 2 = false ∧ s.present 3 = false ∧ s.lookup 7 0 5 = none) ∧
    (owning.candidates 7 0 = [.self] ∧ owning.lookup 7 0 0 = some plan ∧ plan.tileCount ≤ (3#16).toNat ∧
      (2#16).toNat < plan.tileCount) ∧
    (holding.candidates 7 0 = [.peer 2, .peer 3] ∧ holding.present 2 = true ∧ holding.rlc.control.length < 8 ∧
      1 ≤ claimable 0 holding.freeBuffers) ∧
    claimable 0 ({ holding with ste := { holding.ste with buffers := Vector.replicate 16 ⟨some 5, .empty⟩ } } : State).freeBuffers = 0 := by
  decide +kernel

/-- The fetching station with channel 0 as given and its two buffers empty. -/
def fetching (k : Channel) : State := withChannel k .empty .empty

theorem test_meets_ChannelTimersExpire :
    (let s := fetching { fetcher with queueFullWait := some 99980, busyWait := some 99900, responseTimer := some 99940 }
     let k := s.channel 0
     s.held = false ∧ k.isRemote = true ∧ k.result = none ∧ k.fetch ≤ k.curLast ∧ k.currentPeer = some 2 ∧
       s.rlc.blocks.any = false ∧ 20 ≤ s.clock - 99980 ∧ 100 ≤ s.clock - 99900 ∧ 60 ≤ s.clock - 99940 ∧
       k.window = some (0, 2) ∧ s.rlc.control = [] ∧ 1 ≤ min 4 ((crewClaim 0 s).emptyBuffers 0).length ∧
       s.present 2 = true ∧ k.candidates[k.position + 1]? = some (.peer 3) ∧ s.present 3 = true) ∧
    (let s := (fetching fetcher).modRlc fun r => { r with control := List.replicate 8 requestEntry }
     8 ≤ s.rlc.control.length) ∧
    (let s := { up.setChannel 0 fetcher with
       ste := { (up.setChannel 0 fetcher).ste with buffers := Vector.replicate 16 ⟨some 5, .empty⟩ } }
     min 4 ((crewClaim 0 s).emptyBuffers 0).length = 0) ∧
    (let s := fetching { fetcher with state := .receive, gapTimer := some 99900 }
     (s.channel 0).state = .receive ∧ (s.channel 0).gapStrike = 0 ∧ 0 ≤ (s.channel 0).fetch ∧ (s.channel 0).fetch ≤ 2) ∧
    (let s := fetching { fetcher with state := .receive, gapTimer := some 99900, gapStrike := 1, candidates := [.peer 2] }
     (s.channel 0).gapStrike = 1 ∧ (s.channel 0).candidates.length = (s.channel 0).position + 1 ∧
       (s.channel 0).pinned = 0 ∧ (s.channel 0).record = none ∧
       ((after (.gapTimerExpiry 0) s).channel 0).result = some (.failed .noHolder) ∧
       (after (.gapTimerExpiry 0) s).ste.counters.failed = 1) := by decide +kernel

/-- R133, R134: a list of one peer after the station itself is exhausted: a local fallback, one beyond the sheet, a restart
that finds the station itself, a peer, and nobody. -/
theorem test_meets_ChannelTimersExpire_exhausted :
    let k := { fetcher with
      state := .receive, responseTimer := some 99940, candidates := [.self, .peer 2], position := 1, pinned := 5, fetch := 1 }
    let held := { k with record := some plan }
    let run := fun (s : State) (k : Channel) => after (.responseTimerExpiry 0) (s.setChannel 0 k)
    (held.isRemote = true ∧ held.currentPeer = some 2 ∧ up.present 2 = true ∧ held.candidates.length = held.position + 1) ∧
    (((run up held).channel 0).state, ((run up held).channel 0).missingDue, ((run up held).channel 0).position) =
      (.localStore, [1], 1) ∧
    ((run up { held with curFirst := 3, nextTile := 1 }).channel 0).result = some (.failed .range) ∧
    (((run owning k).channel 0).state, ((run owning k).channel 0).record, ((run owning k).channel 0).restartUsed) =
      (.localStore, some plan, true) ∧
    ((run holding k).channel 0).window = some (0, 2) ∧ (run holding k).ste.counters.restarts = 1 ∧
    ((run holding k).channel 0).candidates = [.peer 2, .peer 3] ∧
    ((run up k).channel 0).result = some (.failed .noHolder) ∧
    ((run up k).noticesA.queue.map (·.key.level)) = [7] := by decide +kernel

theorem test_meets_CancelFreesChannel :
    Ready .b up ∧ (up.port .b).attached = false ∧ Ready .a (fetching fetcher) ∧ ((fetching fetcher).port .a).attached = true ∧
    5 < (6#8).toNat ∧ ((fetching fetcher).channel 1).owner ≠ .port .a ∧ ((fetching fetcher).channel 0).owner = .port .a ∧
    ((fetching fetcher).channel 0).isRemote = true ∧ ((fetching fetcher).channel 0).currentPeer = some 2 ∧
    (localReader [.self]).isRemote = false := by decide +kernel

/-! ### Crew ports -/

theorem test_meets_BreakResetsPort : up.held = false ∧ (up.port .a).isOpen = true ∧ (up.port .a).breakHeld = false := by
  decide +kernel

/-- A port whose response waits behind the message being sent. -/
def answering (buffered : List Request) (response : List (List Byte)) (source : MsgSource) (live : Bool) : State :=
  up.modPort .a fun q =>
    { q with buffer := buffered, responseSlot := response,
             sending := some { source := source, kind := 0x81#8, body := [], live := live } }

theorem test_meets_PortReceives :
    (up.held = false ∧ (up.port .a).isOpen = true ∧ (up.port .a).breakHeld = false) ∧
    ((State.reset.port .a).isOpen = false ∧ State.reset.held = false) ∧ (0#16 = 0#16 ∧ 300 < (301#16).toNat) ∧
    (0x0000#16 ≠ crc16 (be16 1 ++ [0x02#8])) ∧
    (after (.crewMessageReceived .a 0x0F#8 [] (crc16 (be16 1 ++ [0x0F#8]))) up).portA.sending.map (·.body) =
      some [0x0F#8, 0x40#8, 1#8, 1#8] ∧
    ((answering [] [[0#8]] .response true).port .a).responseSlot ≠ [] := by decide +kernel

theorem test_meets_AttachSeedsOrRelabels :
    Ready .b up ∧ (up.port .b).attached = false ∧ (up.notices .b).queue = [] ∧ Ready .a up ∧ (up.port .a).attached = true ∧
    trimText ([0x42#8, 0x20#8].take 8) = [0x42#8] ∧ trimText ([0x20#8].take 8) = [] := by decide +kernel

theorem test_meets_DetachLeavesPort : Ready .b up ∧ (up.port .b).attached = false ∧ Ready .a up ∧ (up.port .a).attached = true := by
  decide +kernel

theorem test_meets_Picture_Floor : Ready .a up ∧ (3#8).toNat < (4#8).toNat ∧ (4#8).toNat ≤ (255#8).toNat ∧
    ((after (.picture .a 250 255) up).portA.sending.map (·.body.length)) = some (4 + 2 + 16 * 6) ∧
    ((after (.floor .a 9 0) alarmed).portA.responseSlot.length) = 2 := by decide +kernel

theorem test_meets_AckPlacesAcknowledgement :
    (Ready .b alarmed ∧ (alarmed.port .b).label = none) ∧ (Ready .a alarmed ∧ (alarmed.port .a).label = some [0x41#8]) ∧
    ({ alarmed with address := 0 } : State).address = 0 ∧ 1 ≤ alarmed.address ∧ alarmed.address ≤ 62 ∧
    (alarmed.entry 3 0).known = false ∧ (alarmed.entry 2 0).known = true ∧ (alarmed.entry 2 0).zstate = .alarm ∧
    (alarmed.entry 2 0).changeNumber ≠ (1#16).toNat ∧ (alarmed.entry 2 0).changeNumber = (0#16).toNat ∧
    (alarmed.entry 2 0).ack = none ∧ alarmed.rlc.blocks.any = false ∧
    (let e := (after (.ack .a 2 0 0) alarmed).entry 2 0
     e.ack = some { label := [0x41#8], station := 1, port := some .a, change := 0 }) ∧
    (let e := (up.setEntry 2 0 { ZoneEntry.empty with known := true, ztype := .detector, zstate := .normal }).entry 2 0
     e.known = true ∧ e.zstate ≠ .alarm ∧ e.zstate ≠ .clearing) := by decide +kernel

theorem test_meets_AttendChangesList :
    (Ready .b up ∧ (up.port .b).label = none) ∧ (Ready .a up ∧ (up.port .a).label = some [0x41#8]) ∧
    1 ≤ up.address ∧ up.address ≤ 62 ∧ (63 ≤ ({ up with address := 63 } : State).address) ∧
    up.rlc.blocks.any = false ∧ (maint.rlc.blocks.any = true) ∧
    ((after (.attendOn .a 9) up).floor 9).attendance.length = 1 := by decide +kernel

/-- Port A with one ALARM record in service. -/
def serviceOf (k : NoticeKey) : State :=
  up.modNotices .a fun n =>
    { n with queue := [{ key := k, time := 0, events := 1, detail := 0, outcome := none }], stack := [k] }

theorem test_meets_Peek_Finish :
    (Ready .a up ∧ (up.notices .a).Lawful ∧ (up.notices .a).stack = []) ∧ (Ready .b up ∧ (up.port .b).attached = false) ∧
    8 ≤ (8#8).toNat ∧ (7#8).toNat ≤ 7 ∧ (∀ k ∈ (up.notices .a).stack, k.level ≠ 0) ∧
    (let s := serviceOf { level := 0, subject := .zone 2 0 }
     Ready .a s ∧ (s.notices .a).Lawful ∧ (s.port .a).attached = true ∧
       (s.notices .a).stack.getLast? = some { level := 0, subject := .zone 2 0 } ∧
       ((after (.finish .a 0) s).notices .a).queue = []) := by decide +kernel

/-- R172: the snapshots of a station with a DIRECTORY and of one without, and of a channel with its outcome. -/
theorem test_meets_PeekGivesTop_snapshots :
    let r := fun (x : Subject) (o : Option TransferOutcome) =>
      ({ key := { level := 4, subject := x }, time := 98000, events := 1, detail := 1, outcome := o } : Notice)
    lost.noticeBody (r (.station 2) none) 1 = [4, 3, 2, 0, 1, 1, 0, 2, 1, 5, 3, 2, 0, 0, 0] ∧
    (lost.snapshot (r (.station 3) none)).take 2 = [2, 0xFF] ∧ (lost.snapshot (r (.station 1) none)).take 1 = [0] ∧
    lost.snapshot (r (.channel 2) (some ⟨.failed .noPath, 7, 1, 258, 3, 4⟩)) = [1, 2, 7, 1, 1, 2, 0, 3, 0, 4] := by
  decide +kernel

theorem test_meets_Watch_Mask_Status :
    Ready .a up ∧ Ready .b up ∧ (up.port .b).attached = false ∧ (up.port .a).attached = true ∧
    ((after (.mask .a 0xFF) up).notices .a).mask = 0xF0#8 ∧
    (((after (.watch .a [3, 3, 4]) up).notices .a).watch.map (·.1)) = [3, 4] ∧ 1 < (2#8).toNat ∧
    ((after (.status .a 0) up).portA.responseSlot.length) = 5 := by decide +kernel

/-- R165: each source of a ZONE notice, with its level and detail. -/
theorem test_meets_WatchAndMaskTaken_entry :
    let e := { ZoneEntry.empty with known := true, ztype := .detector }
    let post := fun (old new : ZoneEntry) => (up.noticesA.takeEntry 0 2 0 old new).queue.map fun r => (r.key.level, r.detail)
    post e { e with zstate := .alarm } = [(0, 0)] ∧ post ZoneEntry.empty { e with recurring := true, repeatCount := 3 } = [(2, 3)] ∧
    post e { e with lineLost := true, trouble := some .short } = [(3, 2)] ∧
    post { e with ztype := .valve } { e with ztype := .valve, zstate := .alarm } = [(6, 1)] ∧
    post e { e with zstate := .trouble } = [(6, 2)] ∧ post { e with zstate := .alarm } { e with zstate := .alarm } = [] := by
  decide +kernel

/-- R166, R177: a floor that turns FIRE with a FIRE floor at distance 2 and not 3, and a watched floor that changes, comes
back to its latch, and comes back while in service. -/
theorem test_meets_WatchAndMaskTaken_summary :
    let calm := FloorSummary.atReset
    let fire := { calm with counts := { Counts.zero with worst := .fire } }
    let key : NoticeKey := { level := 5, subject := .floor 9 }
    let watching := fun (stack : List NoticeKey) =>
      ({ up.noticesA with
         watch := [(9, { counts := Counts.zero, attendance := 0 })], stack := stack
         queue := [{ key := key, time := 0, events := 1, detail := 0, outcome := none }] } : NoticeController)
    ((up.noticesA.takeSummary 0 9 calm fire fun g => decide (g = 11)).queue.map fun r => (r.key.level, r.detail)) = [(1, 11)] ∧
    (up.noticesA.takeSummary 0 9 calm fire fun g => decide (g = 12)).queue = [] ∧
    ((watching []).takeSummary 0 9 calm { calm with attendance := [⟨[], 2, .a, 0⟩] } fun _ => false).queue.map (·.events) = [2] ∧
    ((watching []).takeSummary 0 9 calm calm fun _ => false).queue = [] ∧
    ((watching [key]).takeSummary 0 9 calm calm fun _ => false).queue.map (·.key) = [key] := by decide +kernel

/-- R168, R169: a record refreshed in and out of service, a new one, and in a full queue one that evicts the newest of the
greatest level not in service, and one that is lost. -/
theorem test_meets_WatchAndMaskTaken_post :
    let full : NoticeController :=
      { up.noticesA with queue := recordOf 6 2 :: recordOf 6 3 :: (List.range 30).map fun k => recordOf 4 (2 + k) }
    let post := fun (n : NoticeController) (level : Nat) => n.post 9 level (.station 2) 1 none
    full.queue.length = 32 ∧ (post full 4).queue.getLast?.map (·.events) = some 2 ∧
    (post { full with stack := [(recordOf 4 2).key] } 4).queue.map (·.key) = full.queue.map (·.key) ∧
    (post full 5).queue.contains (recordOf 6 3) = false ∧ (post full 5).queue.length = 32 ∧ (post full 5).lost = false ∧
    (post { full with stack := [(recordOf 6 3).key] } 5).queue.contains (recordOf 6 2) = false ∧
    (post full 7).lost = true ∧ (post full 7).queue = full.queue := by decide +kernel

theorem test_meets_StreamTurnsAndPasses :
    (Ready .a up ∧ (up.port .a).stream.isOn = false ∧ (up.floor 0).counts.worst = .none) ∧
    ((alarmed.setFloor 9 { FloorSummary.atReset with counts := { Counts.zero with worst := .fire } }).floor 9).counts.worst ≠ .none ∧
    (let s := up.modPort .a fun q => { q with stream := { isOn := true, period := 60, cursor := 256, passOpen := false, start := 40000 } }
     Ready .a s ∧ (s.port .a).isOpen = true ∧ (s.port .a).stream.isOn = true ∧ (s.port .a).stream.passOpen = false ∧
       (s.port .a).stream.start + 1000 * (s.port .a).stream.period ≤ s.clock) := by decide +kernel

theorem test_meets_MessageEndTellsSource :
    (let s := answering [] [[1#8], [2#8]] .response true
     s.held = false ∧ ∃ m, (s.port .a).sending = some m ∧ m.source = .response ∧ (s.port .a).responseSlot = [[1#8], [2#8]]) ∧
    (let s := answering [{ kind := 0#8, body := [] }] [[1#8]] .response true
     (s.port .a).buffer = [{ kind := 0#8, body := [] }] ∧ (s.port .a).responseSlot = [[1#8]]) ∧
    (let s := (answering [] [] .storeResult true).modPort .a fun q => { q with storeSlot := [[1#8]] }
     (s.port .a).buffer = [] ∧ (s.port .a).storeSlot = [[1#8]]) ∧
    (let s := (answering [] [] (.sheetEnd 0) true).setChannel 0 { fetcher with result := some .done }
     (s.channel 0).result = some .done ∧ (s.channel 0).owner = .port .a ∧ (s.port .a).attached = true ∧
       (s.notices .a).queue.length < 32 ∧ (after (.messageEnd .a) s).channel 0 = Channel.freed) := by
  refine ⟨⟨by decide +kernel, _, rfl, rfl, by decide +kernel⟩, by decide +kernel⟩

end Sys2Proof.Tests
end

section
/-! SUPPORT. The formulas of a line's reading (R4 to R6). -/

namespace Sys2Proof.Machine

open Sys2Proof

/-- Below 955 the quotient of R4 does not reach the limit, and is the nearest whole number of ohms. -/
theorem resistanceOf_below {v : Nat} (h : v < 955) :
    resistanceOf v = (9400 * v + (1023 - v)) / (2 * (1023 - v)) := by
  have hle : (9400 * v + (1023 - v)) / (2 * (1023 - v)) ≤ 65535 := by
    apply Nat.div_le_of_le_mul
    omega
  rw [resistanceOf, if_neg (by omega), satAt, Nat.min_eq_right hle]

/-- From 955 on the quotient of R4 is at or past the limit. -/
theorem resistanceOf_above {v : Nat} (h : 955 ≤ v) : resistanceOf v = 65535 := by
  unfold resistanceOf
  split
  · rfl
  · refine Nat.min_eq_left ((Nat.le_div_iff_mul_le (by omega)).mpr ?_)
    omega

/-- The quotient of R4 is within half an ohm, an exact half rounded up. -/
theorem resistanceOf_nearest {v : Nat} (h : v < 955) :
    2 * 4700 * (v : Int) - (1023 - v) < 2 * (resistanceOf v : Int) * (1023 - v) ∧
    2 * (resistanceOf v : Int) * (1023 - v) ≤ 2 * 4700 * (v : Int) + (1023 - v) := by
  obtain ⟨d, hd⟩ : ∃ d, d = 1023 - v := ⟨_, rfl⟩
  have hdiv := Nat.div_add_mod (9400 * v + d) (2 * d)
  have hmod := Nat.mod_lt (9400 * v + d) (show 0 < 2 * d by omega)
  rw [resistanceOf_below h, ← hd]
  generalize (9400 * v + d) / (2 * d) = q at hdiv ⊢
  have hz : (1023 - v : Int) = d := by omega
  have hq : 2 * (q : Int) * d = ((2 * d * q : Nat) : Int) := by push_cast; ring
  rw [hz, hq]
  omega

/-- The class of a resistance lies between the boundaries in use (R5). -/
theorem classify_iff (current : LineClass) (r b1 b2 b3 : Nat) (hb : boundaries current = (b1, b2, b3)) (h12 : b1 ≤ b2)
    (h23 : b2 ≤ b3) :
    (classify current r = .short ↔ r < b1) ∧ (classify current r = .alarm ↔ b1 ≤ r ∧ r < b2) ∧
    (classify current r = .normal ↔ b2 ≤ r ∧ r < b3) ∧ (classify current r = .openLoop ↔ b3 ≤ r) := by
  simp only [classify, hb]
  split_ifs <;> simp <;> omega

end Sys2Proof.Machine

open Sys2Proof Sys2Proof.Machine

/-- Settles O18, from the quotient of R4, the boundaries of R5 and the table of R6. -/
theorem resistanceIsNearest : Obligations.ResistanceIsNearest := by
  refine ⟨rfl, fun v h => resistanceOf_nearest h, fun v h => resistanceOf_above h, ?_, ?_⟩
  · rintro current r rank b1 b2 b3 rfl rfl rfl rfl
    apply classify_iff
    all_goals cases current <;> decide
  · intro t ht
    cases t
    case unused => exact absurd rfl ht
    all_goals decide

end

section
/-! SUPPORT. What a reset leaves: the flash after an access it abandons (R116), and the tables at their reset values. -/

namespace Sys2Proof.Machine

open Sys2Proof

/-- Each byte after an abandoned write holds its old value, or its old value with the data's bits (R116). -/
theorem Memory.read_abandonWrite {m : Memory} (draw a : Nat) (data : List Byte) (h : m.wf = true) (x : Nat) :
    (m.abandonWrite draw a data).read x = m.read x ∨
    (a ≤ x ∧ x < a + data.length ∧ (m.abandonWrite draw a data).read x = m.read x &&& data.getD (x - a) 0#8) := by
  induction data generalizing m a with
  | nil => exact .inl rfl
  | cons d rest ih =>
    obtain ⟨w, hw⟩ : ∃ w, w = if (Config.flashResidue draw a).getLsbD 0 then m.programByte a d else m := ⟨_, rfl⟩
    have hwf : w.wf = true := by
      rw [hw]; split
      · exact Memory.programByte_wf a d h
      · exact h
    have hne : ∀ y, a ≠ y → w.read y = m.read y := by
      intro y hy
      rw [hw]; split
      · exact Memory.read_write_ne _ h hy
      · rfl
    have heq : w.read a = m.read a ∨ w.read a = m.read a &&& d := by
      rw [hw]; split
      · by_cases hs : a < storeSize
        · exact .inr (Memory.read_write_same _ h hs)
        · exact .inl (by rw [Memory.programByte, Memory.write_beyond _ _ (by omega)])
      · exact .inl rfl
    have hstep : m.abandonWrite draw a (d :: rest) = w.abandonWrite draw (a + 1) rest := by rw [hw]; rfl
    rw [hstep]
    rcases ih (a + 1) hwf with hx | ⟨hlow, hhigh, hx⟩
    · by_cases hax : a = x
      · subst hax
        rw [hx]
        refine heq.imp id fun hd => ⟨Nat.le_refl a, by simp, by simpa using hd⟩
      · exact .inl (hx.trans (hne x hax))
    · refine .inr ⟨by omega, by simp only [List.length_cons]; omega, ?_⟩
      rw [hx, hne x (by omega), show x - a = (x - (a + 1)) + 1 by omega, List.getD_cons_succ]

/-- A store with some of its bytes erased reads each byte as it was, or erased where a byte was given up. -/
theorem Memory.read_filter {m : Memory} {low : Nat} (f : Host.Cell → Bool) (h : Memory.wfFrom low m = true) (x : Nat) :
    Memory.read (m.filter f) x = m.read x ∨ ((∃ b, f (x, b) = false) ∧ Memory.read (m.filter f) x = erasedByte) := by
  induction m generalizing low with
  | nil => exact .inl rfl
  | cons c rest ih =>
    obtain ⟨k, v⟩ := c
    simp only [Memory.wfFrom, Bool.and_eq_true] at h
    obtain ⟨-, hrest⟩ := h
    by_cases hf : f (k, v) = true
    · rw [List.filter_cons_of_pos hf]
      simp only [Memory.read]
      split
      · exact .inl rfl
      · split
        · exact .inl rfl
        · exact ih hrest
    · rw [List.filter_cons_of_neg hf]
      have hread : ¬ k < x → Memory.read (rest.filter f) x = erasedByte := fun hk =>
        Memory.read_below (Memory.filter_wfFrom f hrest) (by omega)
      simp only [Memory.read]
      split
      · rename_i hk
        subst hk
        exact .inr ⟨⟨v, by simpa using hf⟩, hread (by omega)⟩
      · split
        · exact .inl (hread (by omega))
        · exact ih hrest

/-- Each byte after an abandoned erase holds its old value, or lies in the block and is 0xFF (R116). -/
theorem Memory.read_abandonErase {m : Memory} (draw block : Nat) (h : m.wf = true) (x : Nat) :
    (m.abandonErase draw block).read x = m.read x ∨
    (65536 * block ≤ x ∧ x < 65536 * block + 65536 ∧ (m.abandonErase draw block).read x = 0xFF#8) := by
  refine (Memory.read_filter _ h x).imp id fun ⟨⟨b, hb⟩, hx⟩ => ?_
  simp only [inBlock, Bool.or_eq_false_iff, Bool.not_eq_false', Bool.and_eq_true, decide_eq_true_eq] at hb
  exact ⟨hb.1.1, hb.1.2, hx⟩

/-- A table of equal items holds that item at each index. -/
theorem tget_replicate {α : Type} (n i : Nat) (d : α) : tget d (Vector.replicate n d) i = d := by
  simp only [tget, Vector.toList_replicate, List.getD_eq_getElem?_getD, List.getElem?_replicate]
  split <;> rfl

/-- No channel holds a buffer of a pool that is wholly free. -/
theorem freeBuffers_replicate {s : State} (h : s.ste.buffers = Vector.replicate 16 TileBuffer.freed) : s.freeBuffers = 16 := by
  have hb : ∀ b, s.buffer b = TileBuffer.freed := fun b => by rw [State.buffer, h]; exact tget_replicate ..
  simp only [State.freeBuffers, State.buffersWhere, hb]
  rfl

/-- A store that a reset finds in no write and no erase keeps its bytes. -/
theorem PlanStore.abandoned_kept {p : PlanStore} (draw : Nat) (hw : ∀ o d b w, p.access ≠ .write o d b w)
    (he : ∀ k b w, p.access ≠ .erase k b w) : p.abandoned draw = p.memory := by
  unfold PlanStore.abandoned
  split
  · exact absurd ‹_› (hw _ _ _ _)
  · exact absurd ‹_› (he _ _ _)
  all_goals rfl

end Sys2Proof.Machine

open Sys2Proof Sys2Proof.Machine

/-- Settles O4: the two next states are one reset station, whose tables hold one item each and whose flash is that of
`PlanStore.abandoned`. -/
theorem resetGivesResetValues : Obligations.ResetGivesResetValues := by
  intro a m s
  refine ⟨_, _, rfl, rfl, rfl, rfl, rfl, rfl, ?_, rfl, rfl, ?_⟩
  · have strapped : (a.toNat = 0 ∨ a.toNat = 63) ↔ (a = 0#6 ∨ a = 63#6) := by
      simp only [← BitVec.toNat_inj]; rfl
    simp only [resetStation, RiserLink.atReset, strapped]
  · intro r hr
    obtain ⟨address, maintenance, held, access, rfl⟩ : ∃ address maintenance held access, r =
        resetStation address maintenance held
          { PlanStore.atReset (s.store.abandoned s.draws) with access := access } (s.draws + 1) s := by
      rcases hr with rfl | rfl
      · exact ⟨_, _, _, _, rfl⟩
      · exact ⟨_, _, _, _, rfl⟩
    refine ⟨rfl, rfl, rfl, rfl, fun i _ => tget_replicate 16 i _, rfl, rfl, fun o _ l _ => tget_replicate 1008 _ _,
      fun f _ => tget_replicate 256 f _, rfl, fun x _ => tget_replicate 64 x _, rfl, rfl, rfl,
      fun f _ => tget_replicate 256 f _, rfl, rfl, rfl, rfl, rfl, rfl, rfl, rfl, rfl, rfl, rfl, rfl, rfl, rfl, rfl, rfl,
      rfl, rfl, rfl, rfl, rfl, rfl, rfl, rfl, rfl, rfl, rfl, rfl, rfl, rfl, fun c _ => tget_replicate 6 c _, rfl, rfl, rfl,
      rfl, fun c _ => tget_replicate 6 c _, freeBuffers_replicate rfl, rfl, rfl, ?_, ?_, ?_, ?_, ?_⟩
    · rintro (_ | _) <;> exact ⟨rfl, rfl, rfl, rfl, rfl, rfl, rfl, rfl, rfl, rfl, rfl, rfl, rfl, rfl, rfl⟩
    · rintro (_ | _) <;> exact ⟨rfl, rfl, rfl, rfl, rfl, rfl⟩
    · exact fun hw he => PlanStore.abandoned_kept s.draws hw he
    · intro o d b w hwf hacc x
      have hmem : s.store.abandoned s.draws = s.store.memory.abandonWrite s.draws o d := by
        simp only [PlanStore.abandoned, hacc]
      simpa only [resetStation, PlanStore.atReset, hmem] using Memory.read_abandonWrite s.draws o d hwf x
    · intro k b w hwf hacc x
      have hmem : s.store.abandoned s.draws = s.store.memory.abandonErase s.draws k := by
        simp only [PlanStore.abandoned, hacc]
      simpa only [resetStation, PlanStore.atReset, hmem] using Memory.read_abandonErase s.draws k hwf x

end

section
/-! SUPPORT. A property of the station that looks at no channel, buffer, port, notice, link register or waiting read is kept
by every operation of the Sheet Transfer Engine, the store reader, the selections and the arbiters, and so by the whole
end of an event. -/

namespace Sys2Proof.Machine

open Sys2Proof

/-- A change of the store that leaves its bytes and its images, and begins no start-up read. -/
structure PlanStore.Lasts (p q : PlanStore) : Prop where
  memory : q.memory = p.memory
  image : q.image = p.image
  sheets : q.sheets = p.sheets
  counts : q.counts = p.counts
  ready : q.ready = p.ready
  startup : q.access.isStartup = true → p.access.isStartup = true

/-- The property looks at nothing that the channels, the link, the ports, the notices and the store reader change. -/
structure Blind (P : State → Prop) : Prop where
  ste : ∀ f s, P s → P (s.modSte f)
  rlc : ∀ f s, P s → P (s.modRlc f)
  port : ∀ p f s, P s → P (s.modPort p f)
  notices : ∀ p f s, P s → P (s.modNotices p f)
  store : ∀ f s, s.store.Lasts (f s.store) → P s → P (s.modStore f)

section

variable {P : State → Prop} {s : State}

/-! ### Channels, buffers and counters -/

theorem blind_setChannel (h : Blind P) (c : Nat) (k : Channel) (hs : P s) : P (s.setChannel c k) :=
  h.ste (fun e => { e with channels := tset e.channels c k }) s hs

theorem blind_modChannel (h : Blind P) (c : Nat) (f : Channel → Channel) (hs : P s) : P (s.modChannel c f) :=
  blind_setChannel h c _ hs

theorem blind_setBuffer (h : Blind P) (b : Nat) (x : TileBuffer) (hs : P s) : P (s.setBuffer b x) :=
  h.ste (fun e => { e with buffers := tset e.buffers b x }) s hs

theorem blind_countTransfers (h : Blind P) (f : TransferCounters → TransferCounters) (hs : P s) : P (s.countTransfers f) :=
  h.ste (fun e => { e with counters := f e.counters }) s hs

theorem blind_countLink (h : Blind P) (f : LinkCounters → LinkCounters) (hs : P s) : P (s.countLink f) :=
  h.rlc (fun r => { r with counters := f r.counters }) s hs

/-! ### Notices, buffers and reads -/

theorem blind_notify (h : Blind P) (p : Port) (f : NoticeController → NoticeController) (hs : P s) : P (s.notify p f) := by
  unfold State.notify
  split
  · exact h.notices p f s hs
  · exact hs

theorem blind_notifyBoth (h : Blind P) (f : NoticeController → NoticeController) (hs : P s) : P (s.notifyBoth f) :=
  blind_notify h .b f (blind_notify h .a f hs)

theorem blind_selectBoth (h : Blind P) (before : State) (hs : P s) : P (State.selectBoth before s) :=
  h.notices .b (NoticeController.selectAfter before.noticesB) _
    (h.notices .a (NoticeController.selectAfter before.noticesA) s hs)

theorem blind_setReadList (h : Blind P) (c : Nat) (l : List TileRead) (hs : P s) : P (s.setReadList c l) :=
  h.store (fun p => { p with lists := tset p.lists c l }) s ⟨rfl, rfl, rfl, rfl, rfl, id⟩ hs

theorem FlashAccess.withdraw_isStartup (c : Nat) (a : FlashAccess) : (a.withdraw c).isStartup = a.isStartup := by
  cases a <;> rfl

theorem blind_withdrawReads (h : Blind P) (c : Nat) (hs : P s) : P (withdrawReads c s) := by
  have hl : P (((s.readList c).foldl emptyRead s).setReadList c []) :=
    blind_setReadList h c [] (List.foldlRecOn _ emptyRead hs fun _ ht _ _ => blind_setBuffer h _ _ ht)
  exact h.store (fun p => { p with access := p.access.withdraw c }) _
    ⟨rfl, rfl, rfl, rfl, rfl, fun ha => (FlashAccess.withdraw_isStartup c _).symm.trans ha⟩ hl

theorem blind_claimBuffers (h : Blind P) (c n : Nat) (hs : P s) : P (claimBuffers c n s) :=
  List.foldlRecOn _ (holdBuffer c) hs fun _ ht _ _ => blind_setBuffer h _ _ ht

theorem blind_crewClaim (h : Blind P) (c : Nat) (hs : P s) : P (crewClaim c s) := blind_claimBuffers h c _ hs

theorem blind_releaseBuffers (h : Blind P) (c : Nat) (hs : P s) : P (releaseBuffers c s) := by
  refine List.foldlRecOn _ (releaseBuffer c) hs fun t ht b _ => ?_
  unfold releaseBuffer
  split
  · exact blind_setBuffer h _ _ ht
  · exact ht

theorem blind_discardTiles (h : Blind P) (c : Nat) (test : Nat → Bool) (hs : P s) : P (discardTiles c test s) := by
  refine List.foldlRecOn _ (discardTile c test) hs fun t ht b _ => ?_
  unfold discardTile
  split
  · split
    · exact blind_setBuffer h _ _ ht
    · exact ht
  · exact ht
  · exact ht

theorem blind_bufferOver (h : Blind P) (b : Nat) (hs : P s) : P (bufferOver b s) := by
  unfold bufferOver
  split
  · exact hs
  · dsimp only
    split <;> exact blind_setBuffer h _ _ hs

/-! ### The CONTROL queue -/

theorem blind_submitSheet (h : Blind P) (kind : FrameKind) (dest : Nat) (payload : List Byte) (who : Submitter) (hs : P s) :
    P (submitSheet kind dest payload who s) := by
  have hc : P (if s.rlc.answer = .queued then s else s.countTransfers TransferCounters.notSent) := by
    split
    · exact hs
    · exact blind_countTransfers h _ hs
  exact h.rlc (RiserLink.submit kind dest payload who) _ hc

theorem blind_submitCancel (h : Blind P) (c : Nat) (hs : P s) : P (submitCancel c s) := by
  unfold submitCancel
  dsimp only
  split
  · exact hs
  · exact blind_submitSheet h _ _ _ _ hs

theorem blind_submitRefuse (h : Blind P) (dest tag : Nat) (reason : RefuseReason) (hs : P s) :
    P (submitRefuse dest tag reason s) := blind_submitSheet h _ _ _ _ (blind_countTransfers h _ hs)

theorem blind_withdrawRequest (h : Blind P) (c : Nat) (hs : P s) : P (withdrawRequest c s) :=
  h.rlc (RiserLink.withdrawRequests c) s hs

/-! ### Channels -/

theorem blind_closeChannel (h : Blind P) (c : Nat) (hs : P s) : P (closeChannel c s) :=
  blind_setChannel h c _ (h.rlc (RiserLink.orphan c) _ (blind_releaseBuffers h c (blind_withdrawReads h c hs)))

theorem blind_endTransfer (h : Blind P) (c : Nat) (result : TransferResult) (hs : P s) : P (endTransfer c result s) :=
  blind_countTransfers h _ (blind_modChannel h c _
        (blind_discardTiles h c _ (blind_withdrawRequest h c (blind_withdrawReads h c hs))))

theorem blind_transferEvent (h : Blind P) (c : Nat) (o : TransferOutcome) (hs : P s) : P (transferEvent c o s) := by
  unfold transferEvent
  split
  · exact blind_notify h _ _ hs
  · exact hs
  · exact hs

theorem blind_enterLocal (h : Blind P) (c : Nat) (hs : P s) : P (enterLocal c s) := by
  unfold enterLocal
  dsimp only
  split
  · exact hs
  · split
    · exact blind_endTransfer h c _ hs
    · exact blind_crewClaim h c (blind_setChannel h c _ hs)

theorem blind_localFallback (h : Blind P) (c : Nat) (hs : P s) : P (localFallback c s) :=
  blind_enterLocal h c (blind_modChannel h c _ hs)

theorem blind_channelNoPath (h : Blind P) (c : Nat) (hs : P s) : P (channelNoPath c s) := by
  unfold channelNoPath
  split
  · exact blind_localFallback h c hs
  · exact blind_endTransfer h c _ hs

theorem blind_submitRequest (h : Blind P) (c : Nat) (hs : P s) : P (submitRequest c s) := by
  unfold submitRequest
  dsimp only
  split
  · split
    · exact blind_modChannel h c _ (blind_submitSheet h _ _ _ _ hs)
    · exact blind_modChannel h c _ (blind_submitSheet h _ _ _ _ hs)
    · exact blind_channelNoPath h c (blind_submitSheet h _ _ _ _ hs)
  · exact hs

theorem blind_buildWindow (h : Blind P) (c : Nat) (hs : P s) : P (buildWindow c s) := by
  unfold buildWindow
  dsimp only
  split
  · exact blind_modChannel h c _ (blind_crewClaim h c hs)
  · exact blind_submitRequest h c (blind_modChannel h c _ (blind_crewClaim h c hs))

theorem blind_enterSource (h : Blind P) (c i : Nat) (hs : P s) : P (enterSource c i s) := by
  unfold enterSource
  dsimp only
  split
  · exact hs
  · exact blind_enterLocal h c (blind_setChannel h c _ hs)
  · exact blind_buildWindow h c (blind_setChannel h c _ hs)

theorem blind_restart (h : Blind P) (c : Nat) (hs : P s) : P (restart c s) := by
  have hr : P (transferEvent c { (s.channel c).outcome .restart with revision := 0 }
      (((discardTiles c (fun _ => true) (withdrawRequest c (withdrawReads c s))).modChannel c fun x =>
        x.restarted (s.candidates (s.channel c).floor (s.channel c).kind)).countTransfers TransferCounters.restarted)) :=
    blind_transferEvent h c _
      (blind_countTransfers h _ (blind_modChannel h c _
        (blind_discardTiles h c _ (blind_withdrawRequest h c (blind_withdrawReads h c hs)))))
  unfold restart
  dsimp only
  split
  · exact blind_endTransfer h c _ hr
  · split
    · exact blind_enterSource h c _ hr
    · exact blind_endTransfer h c _ hr

theorem blind_exhausted (h : Blind P) (c : Nat) (hs : P s) : P (exhausted c s) := by
  unfold exhausted
  dsimp only
  split
  · exact blind_localFallback h c hs
  · split
    · exact blind_restart h c hs
    · exact blind_endTransfer h c _ hs

theorem blind_chooseSource (h : Blind P) (c : Nat) (hs : P s) : P (chooseSource c s) := by
  unfold chooseSource
  dsimp only
  split
  · exact blind_enterSource h c _ hs
  · exact blind_exhausted h c (blind_setChannel h c _ hs)

theorem blind_moveNext (h : Blind P) (c : Nat) (cancel : Bool) (hs : P s) : P (moveNext c cancel s) := by
  have hc : P (if cancel && s.currentPresent (s.channel c) then submitCancel c s else s) := by
    split
    · exact blind_submitCancel h c hs
    · exact hs
  exact blind_chooseSource h c (blind_modChannel h c _ (blind_withdrawRequest h c hc))

theorem blind_gapEvent (h : Blind P) (c : Nat) (hs : P s) : P (gapEvent c s) := by
  unfold gapEvent
  split
  · exact blind_buildWindow h c (blind_modChannel h c _ hs)
  · exact blind_moveNext h c true hs

theorem blind_placeReads (h : Blind P) (c : Nat) (hs : P s) : P (placeReads c s) := by
  unfold placeReads
  split
  · exact hs
  · refine List.foldlRecOn _ _ hs fun t ht b _ => ?_
    unfold placeOne
    dsimp only
    split
    · exact blind_modChannel h c _ (blind_setBuffer h _ _ (blind_setReadList h c _ ht))
    · exact ht

theorem blind_localBad (h : Blind P) (c n : Nat) (hs : P s) : P (localBad c n s) := by
  unfold localBad
  dsimp only
  split
  · exact blind_chooseSource h c (blind_modChannel h c _ (blind_discardTiles h c _ (blind_withdrawReads h c hs)))
  · exact blind_modChannel h c _ hs

/-! ### The end of an event -/

theorem blind_pumpWindow (h : Blind P) (c : Nat) (hs : P s) : P (pumpWindow c s) := by
  unfold pumpWindow
  split
  · exact blind_buildWindow h c hs
  · split
    · exact blind_buildWindow h c (blind_modChannel h c _ hs)
    · exact hs

theorem blind_pumpLocal (h : Blind P) (c : Nat) (hs : P s) : P (pumpLocal c s) := by
  refine blind_placeReads h c ?_
  split
  · exact blind_crewClaim h c hs
  · exact hs

theorem blind_unlessOver (h : Blind P) (c : Nat) {f : State → State} (hf : P (f s)) (hs : P s) : P (unlessOver c f s) := by
  unfold unlessOver
  dsimp only
  split
  · exact hs
  · split
    · exact blind_endTransfer h c _ hs
    · exact hf

theorem blind_pumpChannel (h : Blind P) (c : Nat) (hs : P s) : P (pumpChannel s c) := by
  have hw : P (unlessOver c (pumpWindow c) s) := blind_unlessOver h c (blind_pumpWindow h c hs) hs
  unfold pumpChannel
  split
  · exact hs
  · exact blind_placeReads h c hs
  · exact blind_unlessOver h c (blind_pumpLocal h c hs) hs
  all_goals
    dsimp only
    split
    · exact blind_unlessOver h c (blind_pumpLocal h c hw) hw
    · exact hw

theorem blind_pumpChannels (h : Blind P) (hs : P s) : P (pumpChannels s) :=
  List.foldlRecOn _ pumpChannel hs fun _ ht c _ => blind_pumpChannel h c ht

theorem blind_readResult (h : Blind P) (r : TileRead) (data : Option (List Byte)) (hs : P s) : P (readResult r data s) := by
  unfold readResult
  dsimp only
  split
  · exact blind_setBuffer h _ _ hs
  · split
    · exact blind_localBad h _ _ (blind_setBuffer h _ _ hs)
    · exact blind_closeChannel h _ (blind_submitRefuse h _ _ _ (blind_setBuffer h _ _ hs))
    all_goals exact blind_setBuffer h _ _ hs

theorem PlanStore.lasts_start (now : Nat) (n : NextAccess) (p : PlanStore) : p.Lasts (p.start now n) := by
  rcases n with _ | ⟨_ | _ | _, _⟩ | _
  · exact ⟨rfl, rfl, rfl, rfl, rfl, id⟩
  all_goals exact ⟨rfl, rfl, rfl, rfl, rfl, fun ha => Bool.noConfusion ha⟩

theorem blind_serveStore (h : Blind P) (fuel : Nat) (hs : P s) : P (serveStore fuel s) := by
  induction fuel generalizing s with
  | zero => exact hs
  | succ n ih =>
    unfold serveStore
    split
    · split
      · exact hs
      · exact h.store (PlanStore.start s.clock _) s (PlanStore.lasts_start ..) hs
      · split
        · exact h.store (PlanStore.start s.clock _) s (PlanStore.lasts_start ..) hs
        · exact ih (blind_readResult h _ _ (h.store (fun p => (p.take _).oneBad) s ⟨rfl, rfl, rfl, rfl, rfl, id⟩ hs))
    · exact hs

theorem blind_settleTransfers (h : Blind P) (hs : P s) : P (settleTransfers s) :=
  blind_serveStore h _ (blind_pumpChannels h hs)

theorem blind_beginMessage (h : Blind P) (p : Port) (source : MsgSource) (kind : Nat) (body : List Byte) (hs : P s) :
    P (beginMessage p source kind body s) := by
  unfold beginMessage
  exact h.port p _ s hs

theorem blind_startPass (h : Blind P) (p : Port) (hs : P s) : P (startPass p s) := by
  unfold startPass
  exact h.port p _ s hs

theorem blind_beginSummary (h : Blind P) (p : Port) (f : Nat) (hs : P s) : P (beginSummary p f s) :=
  h.port p _ _ (blind_beginMessage h p _ _ _ hs)

theorem blind_streamTurn (h : Blind P) (p : Port) (hs : P s) : P (streamTurn p s) := by
  have he : P (endPass p s) := h.port p _ s hs
  unfold streamTurn
  dsimp only
  split
  · split
    · exact blind_beginSummary h p _ hs
    · split
      · split
        · exact blind_beginSummary h p _ (blind_startPass h p he)
        · exact blind_startPass h p he
      · exact he
  · exact hs

theorem blind_beginNotice (h : Blind P) (p : Port) (k : NoticeKey) (hs : P s) : P (beginNotice p k s) := by
  unfold beginNotice
  dsimp only
  split
  · exact h.notices p _ s hs
  · exact h.port p _ _ (h.notices p _ s hs)

theorem blind_beginChannelMessage (h : Blind P) (p : Port) (c : Nat) (o : ChannelOffer) (hs : P s) :
    P (beginChannelMessage p c o s) := by
  have hr : P (s.modPort p fun q => { q with rotation := c }) := h.port p _ s hs
  cases o with
  | restart _ => exact blind_beginMessage h p _ _ _ hr
  | finished _ => exact blind_beginMessage h p _ _ _ hr
  | tile _ _ => exact blind_setChannel h c _ (blind_beginMessage h p _ _ _ (blind_setBuffer h _ _ hr))
  | missing => exact blind_setChannel h c _ (blind_beginMessage h p _ _ _ hr)

theorem blind_arbitrate (h : Blind P) (p : Port) (hs : P s) : P (arbitrate p s) := by
  unfold arbitrate chooseMessage
  split
  · split
    · exact h.port p _ s hs
    · split
      · exact blind_beginNotice h p _ hs
      · split
        · exact blind_beginChannelMessage h p _ _ hs
        · exact blind_streamTurn h p hs
  · exact hs

/-- The end of an event. -/
theorem blind_settle (h : Blind P) (before : State) (hs : P s) : P (settle before s) :=
  blind_settleTransfers h (blind_arbitrate h .b (blind_arbitrate h .a (blind_selectBoth h before
    (blind_settleTransfers h hs))))

end

end Sys2Proof.Machine
end

section
/-! SUPPORT. What an event of the picture does (R21, R23, R42 to R44): the entries written, the boosts their signals bring,
and the floors recomputed; and what it leaves alone. -/

namespace Sys2Proof.Machine

open Sys2Proof

/-! ### What the signals leave of a Notice Controller -/

/-- A signal changes of a Notice Controller at most its queue and NOTICE_LOST. -/
structure NoticeController.Signalled (n m : NoticeController) : Prop where
  mask : m.mask = n.mask
  watch : m.watch = n.watch

theorem NoticeController.signalled_refl (n : NoticeController) : n.Signalled n := ⟨rfl, rfl⟩

theorem NoticeController.Signalled.trans {n m k : NoticeController} (h : n.Signalled m) (g : m.Signalled k) :
    n.Signalled k := ⟨g.mask.trans h.mask, g.watch.trans h.watch⟩

theorem NoticeController.signalled_post (n : NoticeController) (now level : Nat) (x : Subject) (detail : Nat)
    (o : Option TransferOutcome) : n.Signalled (n.post now level x detail o) := by
  unfold NoticeController.post
  dsimp only
  split
  · unfold NoticeController.refresh
    dsimp only
    split <;> exact ⟨rfl, rfl⟩
  · unfold NoticeController.add
    split
    · exact ⟨rfl, rfl⟩
    · split <;> exact ⟨rfl, rfl⟩

/-- A test that posts a record, or does not. -/
theorem NoticeController.Signalled.postIf {n m : NoticeController} (h : n.Signalled m) (b : Prop) [Decidable b]
    (now level : Nat) (x : Subject) (detail : Nat) (o : Option TransferOutcome) :
    n.Signalled (if b then m.post now level x detail o else m) := by
  split
  · exact h.trans (signalled_post ..)
  · exact h

theorem NoticeController.signalled_dropWaiting (n : NoticeController) (k : NoticeKey) : n.Signalled (n.dropWaiting k) := by
  unfold NoticeController.dropWaiting
  split <;> exact ⟨rfl, rfl⟩

theorem NoticeController.signalled_takeEntry (n : NoticeController) (now o l : Nat) (old new : ZoneEntry) :
    n.Signalled (n.takeEntry now o l old new) := by
  unfold NoticeController.takeEntry
  extract_lets zone wasIn isIn n1 n2 n3
  have h1 : n.Signalled n1 := n.signalled_refl.postIf ..
  have h2 : n.Signalled n2 := h1.postIf ..
  have h3 : n.Signalled n3 := h2.postIf ..
  split
  · exact h3.trans (signalled_post ..)
  · exact h3.postIf ..

theorem NoticeController.signalled_takeSummary (n : NoticeController) (now f : Nat) (old new : FloorSummary)
    (fireAt : Nat → Bool) : n.Signalled (n.takeSummary now f old new fireAt) := by
  unfold NoticeController.takeSummary
  extract_lets n1
  have h1 : n.Signalled n1 := by
    unfold n1
    split
    · split
      · exact n.signalled_refl
      · exact signalled_post ..
    · exact n.signalled_refl
  split
  · exact h1
  · split
    · exact h1.trans (signalled_dropWaiting ..)
    · exact h1.trans (signalled_post ..)

/-! ### The rest of the station -/

/-- No more has changed than an event of the picture may change. -/
def RestKept (s t : State) : Prop := t.apartPicture = s.apartPicture

namespace RestKept

variable {s t u : State}

theorem refl (s : State) : RestKept s s := rfl

theorem trans (h : RestKept s t) (g : RestKept t u) : RestKept s u := Eq.trans g h

theorem clock (h : RestKept s t) : t.clock = s.clock := congrArg (·.clock) h

theorem address (h : RestKept s t) : t.address = s.address := congrArg (·.address) h

theorem ownOrigin (h : RestKept s t) : t.ownOrigin = s.ownOrigin := by
  rw [State.ownOrigin, h.address, State.ownOrigin]

theorem starting (h : RestKept s t) : t.starting = s.starting := congrArg (·.starting) h

theorem configTaken (h : RestKept s t) : t.zones.configTaken = s.zones.configTaken := congrArg (·.zones.configTaken) h

theorem store (h : RestKept s t) : t.store = s.store := congrArg (·.store) h

theorem peers (h : RestKept s t) : t.peers = s.peers := congrArg (·.peers) h

theorem holders (h : RestKept s t) : t.holders = s.holders := congrArg (·.holders) h

/-- What an event of the picture may change, its end may change too. -/
theorem lasting (h : RestKept s t) : t.lasting.apartPicture = s.lasting.apartPicture := by
  have hs : ∀ x : State, x.apartPicture.lasting.apartPicture = x.lasting.apartPicture := by
    intro x
    simp only [State.apartPicture, State.lasting, Option.map_map]
    rfl
  rw [← hs t, ← hs s, show t.apartPicture = s.apartPicture from h]

end RestKept

theorem restKept_setLine (i : Nat) (l : LineRecord) (s : State) : RestKept s (s.setLine i l) := rfl

theorem restKept_setEntry (o l : Nat) (e : ZoneEntry) (s : State) : RestKept s (s.setEntry o l e) := rfl

theorem restKept_setFloor (f : Nat) (x : FloorSummary) (s : State) : RestKept s (s.setFloor f x) := rfl

theorem restKept_markAlarm (s : State) : RestKept s s.markAlarm := by
  have htx : ∀ x : Option Transmission,
      (x.map fun t => if t.source = .zoneState then { t with raisedSince := true } else t).map
        (fun t => { t with raisedSince := false }) = x.map fun t => { t with raisedSince := false } := by
    rintro (_ | t)
    · rfl
    · simp only [Option.map_some]
      split <;> rfl
  simp only [RestKept, State.markAlarm, State.modRlc, State.apartPicture, htx]

theorem restKept_notify (p : Port) {f : NoticeController → NoticeController} (hf : ∀ n : NoticeController, n.Signalled (f n)) (s : State) :
    RestKept s (s.notify p f) := by
  unfold State.notify
  split
  · cases p
    · simp only [RestKept, State.modNotices, State.apartPicture,
        (hf s.noticesA).mask, (hf s.noticesA).watch]
    · simp only [RestKept, State.modNotices, State.apartPicture,
        (hf s.noticesB).mask, (hf s.noticesB).watch]
  · exact RestKept.refl s

theorem restKept_notifyBoth {f : NoticeController → NoticeController} (hf : ∀ n : NoticeController, n.Signalled (f n)) (s : State) :
    RestKept s (s.notifyBoth f) := (restKept_notify .a hf s).trans (restKept_notify .b hf _)

/-! ### What a notice leaves alone -/

theorem notify_zones (p : Port) (f : NoticeController → NoticeController) (s : State) : (s.notify p f).zones = s.zones := by
  unfold State.notify
  split
  · exact State.modNotices_zones ..
  · rfl

theorem notify_picture (p : Port) (f : NoticeController → NoticeController) (s : State) :
    (s.notify p f).picture = s.picture := by
  unfold State.notify
  split
  · exact State.modNotices_picture ..
  · rfl

theorem notify_rlc (p : Port) (f : NoticeController → NoticeController) (s : State) : (s.notify p f).rlc = s.rlc := by
  unfold State.notify
  split
  · exact State.modNotices_rlc ..
  · rfl

@[simp] theorem notifyBoth_zones (f : NoticeController → NoticeController) (s : State) : (s.notifyBoth f).zones = s.zones :=
  (notify_zones ..).trans (notify_zones ..)

@[simp] theorem notifyBoth_picture (f : NoticeController → NoticeController) (s : State) :
    (s.notifyBoth f).picture = s.picture := (notify_picture ..).trans (notify_picture ..)

@[simp] theorem notifyBoth_rlc (f : NoticeController → NoticeController) (s : State) : (s.notifyBoth f).rlc = s.rlc :=
  (notify_rlc ..).trans (notify_rlc ..)

/-! ### Entries by their place -/

/-- The entry at a place of the picture. -/
def State.slot (n : Nat) (s : State) : ZoneEntry := tget ZoneEntry.empty s.picture.entries n

theorem State.entry_eq_slot (o l : Nat) (s : State) : s.entry o l = s.slot (entryIndex o l) := rfl

theorem State.slot_setEntry_same {o l : Nat} (h : entryIndex o l < 1008) (e : ZoneEntry) (s : State) :
    (s.setEntry o l e).slot (entryIndex o l) = e := tget_tset_same _ _ h e

theorem State.slot_setEntry_ne {o l n : Nat} (h : entryIndex o l ≠ n) (e : ZoneEntry) (s : State) :
    (s.setEntry o l e).slot n = s.slot n := tget_tset_ne _ _ h e

theorem State.slot_congr {s t : State} (h : t.picture = s.picture) (n : Nat) : t.slot n = s.slot n := by
  rw [State.slot, h, State.slot]

theorem State.line_congr {s t : State} (h : t.zones = s.zones) (i : Nat) : t.line i = s.line i := by
  rw [State.line, h, State.line]

theorem State.floor_congr {s t : State} (h : t.picture = s.picture) (f : Nat) : t.floor f = s.floor f := by
  rw [State.floor, h, State.floor]

theorem State.ownOrigin_le (s : State) : s.ownOrigin ≤ 62 := by
  unfold State.ownOrigin
  split
  · rename_i h
    simp only [validAddress, Bool.and_eq_true, decide_eq_true_eq] at h
    exact h.2
  · omega

/-- The own row lies inside the picture. -/
theorem State.ownIndex_lt (s : State) {i : Nat} (hi : i < 16) : entryIndex s.ownOrigin i < 1008 := by
  have := s.ownOrigin_le
  unfold entryIndex
  omega

theorem entryIndex_ne {o o' l l' : Nat} (hl : l < 16) (hl' : l' < 16) (h : o ≠ o') : entryIndex o l ≠ entryIndex o' l' := by
  unfold entryIndex
  omega

theorem entryIndex_ne_line {o l l' : Nat} (h : l ≠ l') : entryIndex o l ≠ entryIndex o l' := by
  unfold entryIndex
  omega

/-! ### The boosts a signal brings (R21) -/

/-- Line `i` may take the boost: enabled, in PENDING, of a fire type, not yet boosted. -/
structure State.CanBoost (i : Nat) (s : State) : Prop where
  enabled : s.lineEnabled i = true
  pending : (s.line i).zstate = .pending
  fire : (s.line i).ztype.isFire = true
  unboosted : (s.line i).boosted = false

/-- Line `i` and its own entry are as they were. -/
structure LineKept (i : Nat) (s t : State) : Prop where
  line : t.line i = s.line i
  entry : t.slot (entryIndex s.ownOrigin i) = s.slot (entryIndex s.ownOrigin i)

/-- Line `i` has taken the boost, and written its own entry. -/
structure LineBoosted (i : Nat) (s t : State) : Prop where
  can : s.CanBoost i
  line : t.line i = (s.line i).boost
  entry : t.slot (entryIndex s.ownOrigin i) =
    ownEntryOf s.clock (s.line i).boost true (s.slot (entryIndex s.ownOrigin i))

/-- Between `s` and `t` signals have been sent: own lines may have taken the boost, nothing else of the picture and the lines
has changed. -/
structure Boosts (s t : State) : Prop where
  rest : RestKept s t
  lines : ∀ i < 16, LineKept i s t ∨ LineBoosted i s t
  others : ∀ n, (∀ i < 16, n ≠ entryIndex s.ownOrigin i) → t.slot n = s.slot n
  floors : t.picture.floors = s.picture.floors
  alarm : s.rlc.alarmPending = true → t.rlc.alarmPending = true

/-- A state that differs in notices alone. -/
theorem Boosts.ofSame {s t : State} (hr : RestKept s t) (hz : t.zones = s.zones) (hp : t.picture = s.picture)
    (ha : t.rlc = s.rlc) : Boosts s t where
  rest := hr
  lines i _ := .inl ⟨State.line_congr hz i, State.slot_congr hp _⟩
  others n _ := State.slot_congr hp n
  floors := by rw [hp]
  alarm h := by rw [ha]; exact h

theorem Boosts.refl (s : State) : Boosts s s := Boosts.ofSame (RestKept.refl s) rfl rfl rfl

/-- A line that has taken the boost takes it no second time. -/
theorem Boosts.trans {s t u : State} (h : Boosts s t) (g : Boosts t u) : Boosts s u where
  rest := h.rest.trans g.rest
  lines i hi := by
    rcases h.lines i hi with k | b
    · rcases g.lines i hi with k' | b'
      · exact .inl ⟨k'.line.trans k.line, by rw [← h.rest.ownOrigin, k'.entry, h.rest.ownOrigin, k.entry]⟩
      · refine .inr ⟨⟨?_, ?_, ?_, ?_⟩, by rw [b'.line, k.line], ?_⟩
        · have := b'.can.enabled
          rwa [State.lineEnabled, k.line, h.rest.configTaken] at this
        · rw [← k.line]; exact b'.can.pending
        · rw [← k.line]; exact b'.can.fire
        · rw [← k.line]; exact b'.can.unboosted
        · rw [← h.rest.ownOrigin, b'.entry, k.line, h.rest.ownOrigin, k.entry, h.rest.clock]
    · rcases g.lines i hi with k' | b'
      · exact .inr ⟨b.can, k'.line.trans b.line, by rw [← h.rest.ownOrigin, k'.entry, h.rest.ownOrigin, b.entry]⟩
      · have := b'.can.unboosted
        rw [b.line] at this
        exact Bool.noConfusion this
  others n hn := (g.others n (by rw [h.rest.ownOrigin]; exact hn)).trans (h.others n hn)
  floors := g.floors.trans h.floors
  alarm ha := g.alarm (h.alarm ha)

theorem Boosts.foldl {α : Type} {f : State → α → State} (l : List α) (hf : ∀ s, ∀ x ∈ l, Boosts s (f s x)) (s : State) :
    Boosts s (l.foldl f s) :=
  List.foldlRecOn l f (motive := Boosts s) (Boosts.refl s) fun t ht x hx => ht.trans (hf t x hx)

/-- A line that takes the boost, with the write of its own entry (R21, R23). -/
def boostWrite (i : Nat) (s : State) : State :=
  (((s.setLine i (s.line i).boost).markAlarm).setEntry s.ownOrigin i
    (ownEntryOf s.clock (s.line i).boost true (s.entry s.ownOrigin i))).notifyBoth fun n =>
      n.takeEntry s.clock s.ownOrigin i (s.entry s.ownOrigin i)
        (ownEntryOf s.clock (s.line i).boost true (s.entry s.ownOrigin i))

/-- A change of an entry lets a line take the boost, when it is of another entry, now boosts the line's floor and did not
before, or it leaves the state as it is (R21). -/
theorem boostLine_cases (o l : Nat) (old new : ZoneEntry) (s : State) (i : Nat) :
    (boostLine o l old new s i = boostWrite i s ∧ s.CanBoost i ∧ entryIndex o l ≠ entryIndex s.ownOrigin i ∧
      boostsFloor (s.line i).floor new = true ∧ boostsFloor (s.line i).floor old = false) ∨
    boostLine o l old new s i = s := by
  unfold boostLine
  dsimp only
  split
  · rename_i h
    simp only [Bool.and_eq_true, Bool.not_eq_true', decide_eq_true_eq] at h
    obtain ⟨⟨⟨⟨⟨⟨hne, hnew⟩, hold⟩, hen⟩, hpend⟩, hfire⟩, hun⟩ := h
    exact .inl ⟨rfl, ⟨hen, hpend, hfire, hun⟩, hne, hnew, hold⟩
  · exact .inr rfl

theorem boosts_boostWrite {i : Nat} (hi : i < 16) {s : State} (hc : s.CanBoost i) : Boosts s (boostWrite i s) where
  rest := (((restKept_setLine ..).trans (restKept_markAlarm _)).trans (restKept_setEntry ..)).trans
    (restKept_notifyBoth (fun n => n.signalled_takeEntry ..) _)
  lines j _ := by
    by_cases hij : i = j
    · subst hij
      refine .inr ⟨hc, ?_, ?_⟩
      · rw [boostWrite, State.line_congr (notifyBoth_zones ..)]
        exact State.setLine_line_same hi _ _
      · rw [boostWrite, State.slot_congr (notifyBoth_picture ..)]
        exact State.slot_setEntry_same (s.ownIndex_lt hi) _ _
    · refine .inl ⟨?_, ?_⟩
      · rw [boostWrite, State.line_congr (notifyBoth_zones ..)]
        exact State.setLine_line_ne hij _ _
      · rw [boostWrite, State.slot_congr (notifyBoth_picture ..)]
        exact State.slot_setEntry_ne (entryIndex_ne_line hij) _ _
  others n hn := by
    rw [boostWrite, State.slot_congr (notifyBoth_picture ..)]
    exact State.slot_setEntry_ne (hn i hi).symm _ _
  floors := by rw [boostWrite, notifyBoth_picture]; rfl
  alarm _ := by rw [boostWrite, notifyBoth_rlc]; rfl

theorem boosts_boostLine (o l : Nat) (old new : ZoneEntry) {i : Nat} (hi : i < 16) (s : State) :
    Boosts s (boostLine o l old new s i) := by
  rcases boostLine_cases o l old new s i with ⟨h, hc, -⟩ | h
  · rw [h]; exact boosts_boostWrite hi hc
  · rw [h]; exact Boosts.refl s

theorem boosts_notifyEntry (o l : Nat) (old new : ZoneEntry) (s : State) :
    Boosts s (s.notifyBoth fun n => n.takeEntry s.clock o l old new) :=
  Boosts.ofSame (restKept_notifyBoth (fun n => n.signalled_takeEntry ..) s) (notifyBoth_zones ..) (notifyBoth_picture ..)
    (notifyBoth_rlc ..)

theorem boosts_boostLines (o l : Nat) (old new : ZoneEntry) (s : State) : Boosts s (boostLines o l old new s) :=
  Boosts.foldl _ (fun t _ hi => boosts_boostLine o l old new (List.mem_range.mp hi) t) s

/-- A signal is sent (R43), and own lines may take the boost. -/
theorem boosts_signalEntry (o l : Nat) (old new : ZoneEntry) (s : State) : Boosts s (signalEntry o l old new s) := by
  unfold signalEntry
  split
  · exact Boosts.refl s
  · exact (boosts_notifyEntry o l old new s).trans (boosts_boostLines ..)

/-- A line takes no boost from its own entry. -/
theorem lineKept_boostLines {i : Nat} (hi : i < 16) (old new : ZoneEntry) (s : State) :
    LineKept i s (boostLines s.ownOrigin i old new s) := by
  suffices h : Boosts s (boostLines s.ownOrigin i old new s) ∧ LineKept i s (boostLines s.ownOrigin i old new s) from h.2
  refine List.foldlRecOn (List.range 16) _ (motive := fun t => Boosts s t ∧ LineKept i s t) ⟨Boosts.refl s, rfl, rfl⟩
    fun t ⟨hb, hk⟩ j hj => ⟨hb.trans (boosts_boostLine _ _ old new (List.mem_range.mp hj) t), ?_⟩
  rcases boostLine_cases s.ownOrigin i old new t j with ⟨h, -, hne, -⟩ | h
  · have hij : j ≠ i := by
      rintro rfl
      rw [hb.rest.ownOrigin] at hne
      exact hne rfl
    rw [h, boostWrite]
    refine ⟨?_, ?_⟩
    · rw [State.line_congr (notifyBoth_zones ..)]
      exact (State.setLine_line_ne hij _ _).trans hk.line
    · rw [State.slot_congr (notifyBoth_picture ..)]
      refine (State.slot_setEntry_ne ?_ _ _).trans hk.entry
      rw [hb.rest.ownOrigin]
      exact entryIndex_ne_line hij
  · rw [h]; exact hk

/-- The signal of a line's own entry gives that line no boost. -/
theorem lineKept_signalEntry {i : Nat} (hi : i < 16) (old new : ZoneEntry) (s : State) :
    LineKept i s (signalEntry s.ownOrigin i old new s) := by
  unfold signalEntry
  split
  · exact ⟨rfl, rfl⟩
  · have hn := boosts_notifyEntry s.ownOrigin i old new s
    have hk := lineKept_boostLines hi old new (s.notifyBoth fun n => n.takeEntry s.clock s.ownOrigin i old new)
    rw [hn.rest.ownOrigin] at hk
    refine ⟨?_, ?_⟩
    · rw [hk.line, State.line_congr (notifyBoth_zones ..)]
    · have he := hk.entry
      rw [hn.rest.ownOrigin] at he
      rw [he, State.slot_congr (notifyBoth_picture ..)]

/-- A signal of an entry that boosts no floor more than before sends a notice at most. -/
theorem signalEntry_quiet {old new : ZoneEntry} (h : ∀ f, boostsFloor f new = true → boostsFloor f old = true) (o l : Nat)
    (s : State) : signalEntry o l old new s = s ∨
      signalEntry o l old new s = s.notifyBoth fun n => n.takeEntry s.clock o l old new := by
  unfold signalEntry
  split
  · exact .inl rfl
  · refine .inr (List.foldlRecOn (List.range 16) _ (motive := fun t => t = _) rfl fun t ht i _ => ?_)
    rcases boostLine_cases o l old new t i with ⟨-, -, -, hnew, hold⟩ | hb
    · rw [h _ hnew] at hold
      exact Bool.noConfusion hold
    · rw [hb]; exact ht

end Sys2Proof.Machine
end

section
/-! SUPPORT. One event of the picture, taken whole: what its three parts (the entries written, the signals sent, the floors
recomputed) leave in the entries, the lines and the floors (R42 to R44). -/

namespace Sys2Proof.Machine

open Sys2Proof

/-! ### The entries written -/

/-- The entries of an event's changes, written together. -/
def writeEntries (changes : List EntryChange) (s : State) : State :=
  changes.foldl (fun t c => t.setEntry c.origin c.line c.new) s

/-- Where a change stands in the picture. -/
def EntryChange.place (c : EntryChange) : Nat := entryIndex c.origin c.line

theorem writeEntries_cons (c : EntryChange) (rest : List EntryChange) (s : State) :
    writeEntries (c :: rest) s = writeEntries rest (s.setEntry c.origin c.line c.new) := rfl

/-- Writing entries changes the picture's entries alone. -/
theorem writeEntries_rest (changes : List EntryChange) (s : State) : ∃ entries,
    writeEntries changes s = { s with picture := { s.picture with entries := entries } } := by
  induction changes generalizing s with
  | nil => exact ⟨_, rfl⟩
  | cons c rest ih => exact ih _

theorem writeEntries_slot_other {changes : List EntryChange} {n : Nat} (h : ∀ c ∈ changes, c.place ≠ n) (s : State) :
    (writeEntries changes s).slot n = s.slot n :=
  List.foldlRecOn changes _ (motive := fun t : State => t.slot n = s.slot n) rfl fun _ ht c hc =>
    (State.slot_setEntry_ne (h c hc) _ _).trans ht

/-- After the write an entry is one of the changes, or what it was. -/
theorem writeEntries_slot_cases (changes : List EntryChange) (n : Nat) (s : State) :
    (writeEntries changes s).slot n = s.slot n ∨
    ∃ c ∈ changes, c.place = n ∧ (writeEntries changes s).slot n = c.new := by
  refine List.foldlRecOn changes _ 
    (motive := fun t : State => t.slot n = s.slot n ∨ ∃ c ∈ changes, c.place = n ∧ t.slot n = c.new) (.inl rfl) fun t ht c hc => ?_
  by_cases hn : c.place = n
  · by_cases hlt : n < 1008
    · subst hn
      exact .inr ⟨c, hc, rfl, State.slot_setEntry_same hlt _ _⟩
    · have hbeyond : t.setEntry c.origin c.line c.new = t := by
        subst hn
        rw [State.setEntry, State.modPicture, show entryIndex c.origin c.line = c.place from rfl,
          tset_beyond _ (by omega)]
      rw [hbeyond]; exact ht
  · rw [State.slot_setEntry_ne hn]; exact ht

/-- Changes of different entries are each written. -/
theorem writeEntries_slot_mem {changes : List EntryChange} (hd : changes.Pairwise fun a b => a.place ≠ b.place)
    {c : EntryChange} (hc : c ∈ changes) (hlt : c.place < 1008) (s : State) :
    (writeEntries changes s).slot c.place = c.new := by
  induction changes generalizing s with
  | nil => cases hc
  | cons d rest ih =>
    obtain ⟨hhead, htail⟩ := List.pairwise_cons.mp hd
    rw [writeEntries_cons]
    rcases List.mem_cons.mp hc with rfl | hmem
    · rw [writeEntries_slot_other fun d hd => (hhead d hd).symm]
      exact State.slot_setEntry_same hlt _ _
    · exact ih htail hmem _

/-! ### The signals sent -/

/-- The signals of an event's changes, in order; `s` is the state before the event. -/
def sendSignals (changes : List EntryChange) (s t : State) : State :=
  changes.foldl (fun t c => signalEntry c.origin c.line (s.entry c.origin c.line) c.new t) t

theorem boosts_sendSignals (changes : List EntryChange) (s t : State) : Boosts t (sendSignals changes s t) :=
  Boosts.foldl _ (fun _ _ _ => boosts_signalEntry ..) t

/-! ### The floors recomputed -/

/-- Between `s` and `t` the touched floors of the picture have been recomputed, each left with a label and a list, and
nothing but notices has followed. -/
structure Recomputed (touched : Nat → Prop) (label : Nat → Option Text) (list : Nat → List Attendance) (s t : State) :
    Prop where
  rest : RestKept s t
  zones : t.zones = s.zones
  entries : t.picture.entries = s.picture.entries
  link : t.rlc = s.rlc
  untouched : ∀ f, ¬touched f → t.floor f = s.floor f
  counts : ∀ f < 256, touched f → (t.floor f).counts = countsOf (s.picture.counted f)
  label : ∀ f < 256, touched f → (t.floor f).label = label f
  attendance : ∀ f < 256, touched f → (t.floor f).attendance = list f

theorem TowerPicture.counted_congr {p q : TowerPicture} (h : q.entries = p.entries) (f : Nat) : q.counted f = p.counted f := by
  rw [TowerPicture.counted, h, TowerPicture.counted]

/-- The recomputation of one floor (R42, R44). -/
theorem recomputed_recomputeWith (f : Nat) (label : Option Text) (list : List Attendance) (s : State) :
    Recomputed (· = f) (fun _ => label) (fun _ => list) s (recomputeWith f label list s) := by
  unfold recomputeWith
  extract_lets old new raised
  split
  · rename_i h
    have hold : s.floor f = new := h.symm
    exact ⟨RestKept.refl s, rfl, rfl, rfl, fun _ _ => rfl, fun g _ hg => by rw [hg, hold], fun g _ hg => by rw [hg, hold],
      fun g _ hg => by rw [hg, hold]⟩
  · have hfloor : ∀ g, ((s.setFloor f raised).notifyBoth fun n => n.takeSummary s.clock f old raised fun g =>
        ((s.setFloor f raised).floor g).counts.worst == .fire).floor g = (s.setFloor f raised).floor g :=
      State.floor_congr (notifyBoth_picture ..)
    have hsame : f < 256 → (s.setFloor f raised).floor f = raised := fun hf => State.setFloor_floor_same hf ..
    refine ⟨(restKept_setFloor ..).trans (restKept_notifyBoth (fun n => n.signalled_takeSummary ..) _),
      notifyBoth_zones .., by rw [notifyBoth_picture]; rfl, notifyBoth_rlc .., fun g hg => ?_, ?_, ?_, ?_⟩
    · exact (hfloor g).trans (State.setFloor_floor_ne (Ne.symm hg) ..)
    all_goals
      rintro g hg rfl
      rw [hfloor, hsame hg]

/-- The recomputation of one floor in an event that may give it a label or a list (R40, R42, R47). -/
theorem recomputed_recompute (f : Nat) (label : Option Text) (list : Option (List Attendance)) (s : State) :
    Recomputed (· = f) (fun _ => if label.isSome then label else (s.floor f).label)
      (fun _ => list.getD (s.floor f).attendance) s (recompute f label list s) := recomputed_recomputeWith ..

/-- The recomputation of some floors, in ascending order, each once (R42). -/
theorem recomputed_range (touched : List Nat) (label : Nat → Option Text) (list : Nat → Option (List Attendance))
    (s : State) (n : Nat) :
    Recomputed (fun f => f < n ∧ f ∈ touched) (fun f => if (label f).isSome then label f else (s.floor f).label)
      (fun f => (list f).getD (s.floor f).attendance) s
      ((List.range n).foldl (fun t f => if touched.contains f then recompute f (label f) (list f) t else t) s) := by
  induction n with
  | zero =>
    exact ⟨RestKept.refl s, rfl, rfl, rfl, fun _ _ => rfl, fun _ _ h => absurd h.1 (Nat.not_lt_zero _),
      fun _ _ h => absurd h.1 (Nat.not_lt_zero _), fun _ _ h => absurd h.1 (Nat.not_lt_zero _)⟩
  | succ n ih =>
    rw [List.range_succ, List.foldl_append, List.foldl_cons, List.foldl_nil]
    generalize (List.range n).foldl _ s = t at ih ⊢
    have hn : t.floor n = s.floor n := ih.untouched n fun h => Nat.lt_irrefl n h.1
    by_cases hc : n ∈ touched
    · rw [if_pos (by simpa using hc)]
      have g := recomputed_recompute n (label n) (list n) t
      have hother : ∀ f, f ≠ n → (recompute n (label n) (list n) t).floor f = t.floor f := g.untouched
      have hearlier : ∀ f, f ≠ n → f < n + 1 ∧ f ∈ touched → f < n ∧ f ∈ touched := fun f hf h => ⟨by omega, h.2⟩
      refine ⟨ih.rest.trans g.rest, g.zones.trans ih.zones, g.entries.trans ih.entries, g.link.trans ih.link, ?_, ?_, ?_, ?_⟩
      · intro f hf
        have hfn : f ≠ n := fun h => hf ⟨by omega, h ▸ hc⟩
        rw [hother f hfn]
        exact ih.untouched f fun h => hf ⟨by omega, h.2⟩
      · intro f hlt hf
        by_cases hfn : f = n
        · rw [g.counts f hlt hfn, TowerPicture.counted_congr ih.entries]
        · rw [hother f hfn, ih.counts f hlt (hearlier f hfn hf)]
      · intro f hlt hf
        by_cases hfn : f = n
        · rw [g.label f hlt hfn, hn, hfn]
        · rw [hother f hfn, ih.label f hlt (hearlier f hfn hf)]
      · intro f hlt hf
        by_cases hfn : f = n
        · rw [g.attendance f hlt hfn, hn, hfn]
        · rw [hother f hfn, ih.attendance f hlt (hearlier f hfn hf)]
    · rw [if_neg (by simpa using hc)]
      have hdrop : ∀ f, f < n + 1 ∧ f ∈ touched → f < n ∧ f ∈ touched := fun f h =>
        ⟨Nat.lt_of_le_of_ne (Nat.lt_succ_iff.mp h.1) fun hfn => hc (hfn ▸ h.2), h.2⟩
      exact { ih with
        untouched := fun f hf => ih.untouched f fun h => hf ⟨by omega, h.2⟩
        counts := fun f hlt hf => ih.counts f hlt (hdrop f hf)
        label := fun f hlt hf => ih.label f hlt (hdrop f hf)
        attendance := fun f hlt hf => ih.attendance f hlt (hdrop f hf) }

/-! ### The event -/

/-- The floors that an event recomputes. -/
def eventFloors (changes : List EntryChange) (labels : List (Nat × Text)) (lists : List (Nat × List Attendance))
    (s u : State) : List Nat := touchedFloors s u changes ++ labels.map (·.1) ++ lists.map (·.1)

/-- An event of the picture is its three parts, one after the other. -/
theorem pictureEvent_recomputed (changes : List EntryChange) (labels : List (Nat × Text))
    (lists : List (Nat × List Attendance)) (s : State) : ∃ u, u = sendSignals changes s (writeEntries changes s) ∧
      Recomputed (fun f => f < 256 ∧ f ∈ eventFloors changes labels lists s u)
        (fun f => if (givenFor labels f).isSome then givenFor labels f else (u.floor f).label)
        (fun f => (givenFor lists f).getD (u.floor f).attendance) u (pictureEvent changes labels lists s) :=
  ⟨_, rfl, recomputed_range ..⟩

/-- The state after the writes and the signals of an event, seen from its beginning. -/
theorem sendSignals_floor (changes : List EntryChange) (s : State) (f : Nat) :
    (sendSignals changes s (writeEntries changes s)).floor f = s.floor f := by
  obtain ⟨entries, hw⟩ := writeEntries_rest changes s
  rw [State.floor, (boosts_sendSignals ..).floors, hw, State.floor]

theorem restKept_writeEntries (changes : List EntryChange) (s : State) : RestKept s (writeEntries changes s) := by
  obtain ⟨entries, hw⟩ := writeEntries_rest changes s
  rw [hw]; rfl

/-- An event of the picture leaves the rest of the station alone. -/
theorem restKept_pictureEvent (changes : List EntryChange) (labels : List (Nat × Text))
    (lists : List (Nat × List Attendance)) (s : State) : RestKept s (pictureEvent changes labels lists s) := by
  obtain ⟨u, rfl, hr⟩ := pictureEvent_recomputed changes labels lists s
  exact ((restKept_writeEntries changes s).trans (boosts_sendSignals ..).rest).trans hr.rest

/-- After an event each line is as it was, or has taken the boost; with its own entry. -/
theorem pictureEvent_lines (changes : List EntryChange) (labels : List (Nat × Text))
    (lists : List (Nat × List Attendance)) (s : State) {i : Nat} (hi : i < 16) :
    LineKept i (writeEntries changes s) (pictureEvent changes labels lists s) ∨
    LineBoosted i (writeEntries changes s) (pictureEvent changes labels lists s) := by
  obtain ⟨u, rfl, hr⟩ := pictureEvent_recomputed changes labels lists s
  have hslot : ∀ n, (pictureEvent changes labels lists s).slot n =
      (sendSignals changes s (writeEntries changes s)).slot n := fun n => by rw [State.slot, hr.entries, State.slot]
  refine ((boosts_sendSignals changes s (writeEntries changes s)).lines i hi).imp (fun k => ?_) fun b => ?_
  · exact ⟨(State.line_congr hr.zones i).trans k.line, (hslot _).trans k.entry⟩
  · exact ⟨b.can, (State.line_congr hr.zones i).trans b.line, (hslot _).trans b.entry⟩

/-- After an event an entry of another row is as the event's changes left it. -/
theorem pictureEvent_slot (changes : List EntryChange) (labels : List (Nat × Text))
    (lists : List (Nat × List Attendance)) (s : State) {n : Nat} (hn : ∀ i < 16, n ≠ entryIndex s.ownOrigin i) :
    (pictureEvent changes labels lists s).slot n = (writeEntries changes s).slot n := by
  obtain ⟨u, rfl, hr⟩ := pictureEvent_recomputed changes labels lists s
  rw [State.slot, hr.entries]
  refine (boosts_sendSignals changes s (writeEntries changes s)).others n ?_
  rw [(restKept_writeEntries changes s).ownOrigin]
  exact hn

/-- An event that gives no attendance list leaves each floor its own. -/
theorem pictureEvent_attendance (changes : List EntryChange) (labels : List (Nat × Text)) (s : State) {f : Nat}
    (hf : f < 256) : ((pictureEvent changes labels [] s).floor f).attendance = (s.floor f).attendance := by
  obtain ⟨u, rfl, hr⟩ := pictureEvent_recomputed changes labels [] s
  by_cases ht : f < 256 ∧ f ∈ eventFloors changes labels [] s (sendSignals changes s (writeEntries changes s))
  · rw [hr.attendance f hf ht, sendSignals_floor]; rfl
  · rw [hr.untouched f ht, sendSignals_floor]

/-- An event leaves a floor the label it gives it, or the label it has. -/
theorem pictureEvent_label (changes : List EntryChange) (labels : List (Nat × Text))
    (lists : List (Nat × List Attendance)) (s : State) {f : Nat} (hf : f < 256) :
    ((pictureEvent changes labels lists s).floor f).label =
      if (givenFor labels f).isSome then givenFor labels f else (s.floor f).label := by
  obtain ⟨u, rfl, hr⟩ := pictureEvent_recomputed changes labels lists s
  by_cases ht : f < 256 ∧ f ∈ eventFloors changes labels lists s (sendSignals changes s (writeEntries changes s))
  · rw [hr.label f hf ht, sendSignals_floor]
  · have hnone : givenFor labels f = none := by
      simp only [eventFloors, List.mem_append, not_and, not_or] at ht
      have hl : f ∉ labels.map (·.1) := (ht hf).1.2
      simp only [List.mem_map, not_exists, not_and] at hl
      simp only [givenFor, Option.map_eq_none_iff, List.find?_eq_none, beq_iff_eq]
      exact fun x hx => hl x hx
    rw [hr.untouched f ht, sendSignals_floor, hnone]; rfl

/-- An event sets the ALARM mark, where it was set before or a line has taken the boost; it never clears it. -/
theorem pictureEvent_alarm (changes : List EntryChange) (labels : List (Nat × Text))
    (lists : List (Nat × List Attendance)) {s : State} (h : s.rlc.alarmPending = true) :
    (pictureEvent changes labels lists s).rlc.alarmPending = true := by
  obtain ⟨u, rfl, hr⟩ := pictureEvent_recomputed changes labels lists s
  obtain ⟨entries, hw⟩ := writeEntries_rest changes s
  rw [hr.link]
  exact (boosts_sendSignals ..).alarm (by rw [hw]; exact h)

end Sys2Proof.Machine
end

section
/-! SUPPORT. The laws of the summaries and of the lines under an event of the picture. -/

namespace Sys2Proof.Machine

open Sys2Proof

/-! ### What the laws do not look at -/

/-- The start-up law looks at the lines, the configuration and the store's readiness and access alone. -/
theorem startUpLaw_congr {s t : State} (hz : t.zones = s.zones) (hr : t.store.ready = s.store.ready)
    (ha : t.store.access.isStartup = true → s.store.access.isStartup = true) (h : StartUpLaw s) : StartUpLaw t := by
  obtain ⟨hstart, htaken, huntouched⟩ := h
  refine ⟨fun hs => hr.trans (hstart (ha hs)), by rw [hz, hr, htaken], fun hc i hi => ?_⟩
  rw [State.line_congr hz]
  exact huntouched (by rw [← hz]; exact hc) i hi

theorem summaryLaw_congr {s t : State} (hz : t.zones = s.zones) (hr : t.store.ready = s.store.ready)
    (ha : t.store.access.isStartup = true → s.store.access.isStartup = true) (ho : t.ownOrigin = s.ownOrigin)
    (he : t.picture.entries = s.picture.entries) (hf : ∀ f < 256, (t.floor f).counts = (s.floor f).counts)
    (h : SummaryLaw s) : SummaryLaw t := by
  obtain ⟨hstart, hown, hcounts⟩ := h
  refine ⟨startUpLaw_congr hz hr ha hstart, fun i hi hk => ?_, fun f hlt => ?_⟩
  · have hentry : t.entry t.ownOrigin i = s.entry s.ownOrigin i := by rw [ho, State.entry, he, State.entry]
    rw [hentry] at hk ⊢
    rw [State.line_congr hz, hz]
    exact hown i hi hk
  · rw [hf f hlt, hcounts f hlt, TowerPicture.counted_congr he]

theorem zoneLaw_congr {s t : State} (hz : t.zones = s.zones) (hr : t.store.ready = s.store.ready)
    (ha : t.store.access.isStartup = true → s.store.access.isStartup = true) (h : ZoneLaw s) : ZoneLaw t := by
  refine ⟨startUpLaw_congr hz hr ha h.1, fun i hi => ?_⟩
  rw [State.line_congr hz]
  exact h.2 i hi

theorem blind_summaryLaw : Blind SummaryLaw where
  ste _ _ h := h
  rlc _ _ h := h
  port p f s h := by cases p <;> exact h
  notices p f s h := by cases p <;> exact h
  store f s hl h := summaryLaw_congr (s := s) (t := s.modStore f) rfl hl.ready hl.startup rfl rfl (fun _ _ => rfl) h

theorem blind_zoneLaw : Blind ZoneLaw where
  ste _ _ h := h
  rlc _ _ h := h
  port p f s h := by cases p <;> exact h
  notices p f s h := by cases p <;> exact h
  store f s hl h := zoneLaw_congr (s := s) (t := s.modStore f) rfl hl.ready hl.startup h

/-! ### The lines under an event of the picture -/

/-- A line that takes the boost stays lawful. -/
theorem LineRecord.lawful_boost {l : LineRecord} (h : l.Lawful) (hp : l.zstate = .pending) (hf : l.ztype.isFire = true) :
    l.boost.Lawful := by
  obtain ⟨hhist, hlost, htrouble, -, hrest⟩ := h
  exact ⟨hhist, hlost, htrouble, fun _ => ⟨hp, hf⟩, hrest⟩

/-- Each line after an event of the picture. -/
theorem pictureEvent_line_cases (changes : List EntryChange) (labels : List (Nat × Text))
    (lists : List (Nat × List Attendance)) (s : State) {i : Nat} (hi : i < 16) :
    (pictureEvent changes labels lists s).line i = s.line i ∨
    (s.CanBoost i ∧ (pictureEvent changes labels lists s).line i = (s.line i).boost) := by
  obtain ⟨entries, hw⟩ := writeEntries_rest changes s
  rcases pictureEvent_lines changes labels lists s hi with k | b
  · exact .inl (k.line.trans (State.line_congr (by rw [hw]) i))
  · have hl : (writeEntries changes s).line i = s.line i := State.line_congr (by rw [hw]) i
    refine .inr ⟨⟨?_, ?_, ?_, ?_⟩, by rw [b.line, hl]⟩
    · have he := b.can.enabled
      rw [State.lineEnabled, hl, hw] at he
      exact he
    · rw [← hl]; exact b.can.pending
    · rw [← hl]; exact b.can.fire
    · rw [← hl]; exact b.can.unboosted

/-- A line that an event changes is enabled, so the start-up law is kept. -/
theorem startUpLaw_pictureEvent (changes : List EntryChange) (labels : List (Nat × Text))
    (lists : List (Nat × List Attendance)) {s : State} (h : StartUpLaw s) :
    StartUpLaw (pictureEvent changes labels lists s) := by
  obtain ⟨hstart, htaken, huntouched⟩ := h
  have hr := restKept_pictureEvent changes labels lists s
  refine ⟨?_, ?_, fun hc i hi => ?_⟩
  · rw [hr.store]; exact hstart
  · rw [hr.configTaken, hr.store, htaken]
  · rw [hr.configTaken] at hc
    rcases pictureEvent_line_cases changes labels lists s hi with hl | ⟨hcan, -⟩
    · rw [hl]; exact huntouched hc i hi
    · have he := hcan.enabled
      rw [State.lineEnabled, hc] at he
      exact Bool.noConfusion he

/-- An event of the picture keeps the laws of the lines. -/
theorem zoneLaw_pictureEvent (changes : List EntryChange) (labels : List (Nat × Text))
    (lists : List (Nat × List Attendance)) {s : State} (h : ZoneLaw s) : ZoneLaw (pictureEvent changes labels lists s) := by
  refine ⟨startUpLaw_pictureEvent changes labels lists h.1, fun i hi => ?_⟩
  rcases pictureEvent_line_cases changes labels lists s hi with hl | ⟨hcan, hl⟩
  · rw [hl]; exact h.2 i hi
  · rw [hl]; exact LineRecord.lawful_boost (h.2 i hi) hcan.pending hcan.fire

/-! ### The summaries under an event of the picture -/

/-- Two rows of entries of which each differs only where neither is counted have the same counted entries. -/
theorem filter_eq_of_forall₂ {α : Type} {p : α → Bool} {l m : List α}
    (h : List.Forall₂ (fun a b => a = b ∨ (p a = false ∧ p b = false)) l m) : l.filter p = m.filter p := by
  induction h with
  | nil => rfl
  | cons hab _ ih =>
    rcases hab with rfl | ⟨ha, hb⟩
    · simp only [List.filter_cons, ih]
    · simp only [List.filter_cons, ha, hb, ih, Bool.false_eq_true, if_false]

/-- A floor keeps its counted entries where no entry counted before or after differs. -/
theorem counted_eq_of_slots {s t : State} {f : Nat}
    (h : ∀ n, t.slot n = s.slot n ∨ ((t.slot n).countedOn f = false ∧ (s.slot n).countedOn f = false)) :
    t.picture.counted f = s.picture.counted f := by
  have hget : ∀ (u : State) {n : Nat} (hn : n < u.picture.entries.toList.length),
      u.slot n = u.picture.entries.toList[n] := fun u n hn => by
    rw [State.slot, tget, List.getD_eq_getElem _ _ hn]
  refine filter_eq_of_forall₂ (List.forall₂_iff_get.mpr ⟨by simp, fun n hn hn' => ?_⟩)
  rw [List.get_eq_getElem, List.get_eq_getElem, ← hget t hn, ← hget s hn']
  exact h n

/-- A change of an own entry leaves it EMPTY, or on its line's floor once the configuration is taken. -/
def OwnChangesFit (changes : List EntryChange) (s : State) : Prop :=
  ∀ c ∈ changes, ∀ i < 16, c.place = entryIndex s.ownOrigin i → c.new.known = true →
    s.zones.configTaken = true ∧ c.new.floor = (s.line i).floor

theorem mem_eventFloors_before {changes : List EntryChange} {labels : List (Nat × Text)}
    {lists : List (Nat × List Attendance)} {s u : State} {c : EntryChange} (hc : c ∈ changes)
    (hk : (s.slot c.place).known = true) : (s.slot c.place).floor ∈ eventFloors changes labels lists s u := by
  refine List.mem_append_left _ (List.mem_append_left _ (List.mem_append_left _ (List.mem_flatten.mpr ⟨_,
    List.mem_map_of_mem hc, List.mem_append_left _ ?_⟩)))
  rw [if_pos (show (s.entry c.origin c.line).known = true from hk)]
  exact List.mem_singleton_self _

theorem mem_eventFloors_after {changes : List EntryChange} {labels : List (Nat × Text)}
    {lists : List (Nat × List Attendance)} {s u : State} {c : EntryChange} (hc : c ∈ changes)
    (hk : c.new.known = true) : c.new.floor ∈ eventFloors changes labels lists s u := by
  refine List.mem_append_left _ (List.mem_append_left _ (List.mem_append_left _ (List.mem_flatten.mpr ⟨_,
    List.mem_map_of_mem hc, List.mem_append_right _ ?_⟩)))
  rw [if_pos hk]
  exact List.mem_singleton_self _

theorem mem_eventFloors_line {changes : List EntryChange} {labels : List (Nat × Text)}
    {lists : List (Nat × List Attendance)} {s u : State} {i : Nat} (hi : i < 16) (hl : u.line i ≠ s.line i) :
    (u.line i).floor ∈ eventFloors changes labels lists s u := by
  refine List.mem_append_left _ (List.mem_append_left _ (List.mem_append_right _ (List.mem_filterMap.mpr
    ⟨i, List.mem_range.mpr hi, ?_⟩)))
  rw [if_neg hl]

theorem wrapNext_ne (n : Nat) : wrapNext n ≠ n := by
  unfold wrapNext
  omega

theorem LineRecord.boost_ne (l : LineRecord) : l.boost ≠ l := fun h =>
  wrapNext_ne l.changeNumber (congrArg LineRecord.changeNumber h)

theorem ZoneEntry.countedOn_eq_false {e : ZoneEntry} {f : Nat} (h : e.known = true → e.floor ≠ f) : e.countedOn f = false := by
  unfold ZoneEntry.countedOn
  cases hk : e.known
  · rfl
  · simp [h hk]

/-- Where an event touches no entry of a floor, the floor keeps its counted entries. -/
theorem sendSignals_counted {changes : List EntryChange} {labels : List (Nat × Text)}
    {lists : List (Nat × List Attendance)} {s u : State} (hu : u = sendSignals changes s (writeEntries changes s))
    (hown : ∀ i < 16, (s.entry s.ownOrigin i).known = true → (s.entry s.ownOrigin i).floor = (s.line i).floor) {f : Nat}
    (hf : f ∉ eventFloors changes labels lists s u) : u.picture.counted f = s.picture.counted f := by
  obtain ⟨entries, hw⟩ := writeEntries_rest changes s
  have hwl : ∀ i, (writeEntries changes s).line i = s.line i := State.line_congr (by rw [hw])
  have hwo : (writeEntries changes s).ownOrigin = s.ownOrigin := (restKept_writeEntries changes s).ownOrigin
  have hb : Boosts (writeEntries changes s) u := hu ▸ boosts_sendSignals ..
  have hafter : ∀ c ∈ changes, c.new.countedOn f = false := fun c hc => ZoneEntry.countedOn_eq_false fun hk hfl =>
    hf (hfl ▸ mem_eventFloors_after hc hk)
  have hbefore : ∀ c ∈ changes, (s.slot c.place).countedOn f = false := fun c hc => ZoneEntry.countedOn_eq_false
    fun hk hfl => hf (hfl ▸ mem_eventFloors_before hc hk)
  have hwritten : ∀ n, (writeEntries changes s).slot n = s.slot n ∨
      (((writeEntries changes s).slot n).countedOn f = false ∧ (s.slot n).countedOn f = false) := by
    intro n
    rcases writeEntries_slot_cases changes n s with h | ⟨c, hc, rfl, h⟩
    · exact .inl h
    · exact .inr ⟨by rw [h]; exact hafter c hc, hbefore c hc⟩
  refine counted_eq_of_slots fun n => ?_
  by_cases hn : ∃ i < 16, n = entryIndex s.ownOrigin i
  · obtain ⟨i, hi, rfl⟩ := hn
    rcases hb.lines i hi with k | b
    · have he := k.entry
      rw [hwo] at he
      rw [he]
      exact hwritten _
    · have he := b.entry
      have hline : (u.line i).floor = (s.line i).floor := by rw [b.line, hwl]; rfl
      have hne : (s.line i).floor ≠ f := fun hfl => hf (by
        rw [← hfl, ← hline]
        exact mem_eventFloors_line hi (by rw [b.line, hwl]; exact LineRecord.boost_ne _))
      rw [hwo] at he
      refine .inr ⟨?_, ZoneEntry.countedOn_eq_false fun hk => ?_⟩
      · rw [he, hwl]
        exact ZoneEntry.countedOn_eq_false fun _ => hne
      · exact (hown i hi hk).trans_ne hne
  · rw [hb.others n (by rw [hwo]; exact fun i hi h => hn ⟨i, hi, h⟩)]
    exact hwritten n

/-- An event of the picture whose changes fit the own lines keeps the summaries equal to what the counted entries give. -/
theorem summaryLaw_pictureEvent {changes : List EntryChange} (labels : List (Nat × Text))
    (lists : List (Nat × List Attendance)) {s : State} (hfit : OwnChangesFit changes s) (h : SummaryLaw s) :
    SummaryLaw (pictureEvent changes labels lists s) := by
  obtain ⟨hstart, hown, hcounts⟩ := h
  obtain ⟨entries, hw⟩ := writeEntries_rest changes s
  have hrest := restKept_pictureEvent changes labels lists s
  refine ⟨startUpLaw_pictureEvent changes labels lists hstart, fun i hi hk => ?_, fun f hlt => ?_⟩
  · have hwo := (restKept_writeEntries changes s).ownOrigin
    have hwl : (writeEntries changes s).line i = s.line i := State.line_congr (by rw [hw]) i
    rw [hrest.ownOrigin, State.entry_eq_slot] at hk ⊢
    rw [hrest.configTaken]
    rcases pictureEvent_lines changes labels lists s hi with k | b
    · have he := k.entry
      rw [hwo] at he
      rw [he] at hk ⊢
      rw [k.line, hwl]
      rcases writeEntries_slot_cases changes (entryIndex s.ownOrigin i) s with hsame | ⟨c, hc, hplace, hnew⟩
      · rw [hsame] at hk ⊢
        exact hown i hi hk
      · rw [hnew] at hk ⊢
        exact hfit c hc i hi hplace hk
    · have he := b.entry
      rw [hwo] at he
      have hen := b.can.enabled
      rw [State.lineEnabled, hw, Bool.and_eq_true] at hen
      exact ⟨hen.1, by rw [he, b.line]; rfl⟩
  · obtain ⟨u, hu, hr⟩ := pictureEvent_recomputed changes labels lists s
    rw [TowerPicture.counted_congr hr.entries]
    by_cases ht : f ∈ eventFloors changes labels lists s u
    · exact hr.counts f hlt ⟨hlt, ht⟩
    · rw [hr.untouched f fun hf => ht hf.2, hu, sendSignals_floor, hcounts f hlt, ← hu,
        sendSignals_counted hu (fun i hi hk => (hown i hi hk).2) ht]

/-- A change of a floor's attendance list keeps the summaries (R47). -/
theorem summaryLaw_setAttendance (f : Nat) (l : List Attendance) {s : State} (h : SummaryLaw s) :
    SummaryLaw (setAttendance f l s) := by
  have hr : Recomputed _ _ _ s (setAttendance f l s) := recomputed_recomputeWith ..
  refine summaryLaw_congr hr.zones (by rw [hr.rest.store]) (by rw [hr.rest.store]; exact id) hr.rest.ownOrigin hr.entries
    (fun g hg => ?_) h
  by_cases hgf : g = f
  · rw [hr.counts g hg hgf, h.2.2 g hg]
  · rw [hr.untouched g hgf]

theorem zoneLaw_setAttendance (f : Nat) (l : List Attendance) {s : State} (h : ZoneLaw s) :
    ZoneLaw (setAttendance f l s) := by
  have hr : Recomputed _ _ _ s (setAttendance f l s) := recomputed_recomputeWith ..
  exact zoneLaw_congr hr.zones (by rw [hr.rest.store]) (by rw [hr.rest.store]; exact id) h

end Sys2Proof.Machine
end

section
/-! SUPPORT. What each command asks of a property for it to be kept by every step: beyond being blind to the blocks that a
transfer changes, that it stands the changes of the picture, the samples, the start-up reads and the resets. -/

namespace Sys2Proof.Machine

open Sys2Proof

/-- The property looks at none of the counts, tables and bytes that a command changes beside the transfers. -/
structure CommandBlind (P : State → Prop) : Prop extends Blind P where
  marks : ∀ f s, P s → P (s.modMarks f)
  peers : ∀ f s, P s → P (s.modPeers f)
  holders : ∀ f s, P s → P (s.modHolders f)
  reports : ∀ n s, P s → P (s.modPicture fun p => { p with rejectedReports := n })
  flash : ∀ m s, P s → P (s.modStore (PlanStore.operationOver m))
  draws : ∀ n s, P s → P { s with draws := n }

/-- The property is kept by the commands' own effects on what it looks at. -/
structure StepKept (P : State → Prop) : Prop extends CommandBlind P where
  attendance : ∀ f l s, P s → P (setAttendance f l s)
  ack : ∀ o l a s, P s → P (placeAck o l a s)
  heard : ∀ x content s, s.isPeer x = true → P s → P (frameHeard x content s)
  lost : ∀ x s, s.isPeer x = true → P s → P (peerLost x s)
  sampled : ∀ i < 16, ∀ v s, P s → P (samplingReady (sampleLine i v s))
  startup : ∀ slot scan begun bytes s, s.store.access = .startup slot scan begun → P s →
    P (startupReadEnds slot scan bytes s)
  reset : ∀ a m s t, execReset a m s = .next t → P t
  asserted : ∀ s t, execResetAsserted s = .next t → P t
  clock : ∀ n s, P s → P { s with clock := n }
  pending : ∀ l s, P s → P { s with pending := l }

section

variable {P : State → Prop} {s : State}

theorem kept_ite {α : Type} {Q : α → Prop} {c : Prop} [Decidable c] {x y : α} (hx : Q x) (hy : Q y) :
    Q (if c then x else y) := by
  split
  · exact hx
  · exact hy

/-! ### The riser link -/

theorem kept_beginTransmission (h : StepKept P) (source : TxSource) (frame : Option Frame) (more : Bool) (hs : P s) :
    P (beginTransmission source frame more s) := by
  unfold beginTransmission
  exact h.rlc _ s hs

theorem kept_beginTile (h : StepKept P) (c : Nat) (hs : P s) : P (beginTile c s) := by
  unfold beginTile
  split
  · exact hs
  · exact kept_beginTransmission h _ _ _ hs

theorem kept_beginClass (h : StepKept P) (k : AccessClass) (hs : P s) : P (beginClass k s) := by
  unfold beginClass
  split
  · exact kept_beginTransmission h _ _ _ hs
  · unfold beginControl
    split
    · exact hs
    · exact kept_beginTransmission h _ _ _ hs
  · split
    · exact hs
    · exact kept_beginTile h _ hs
  · split <;> exact kept_beginTransmission h _ _ _ hs

theorem kept_cutTransmission (h : StepKept P) (hs : P s) : P (cutTransmission s) := by
  unfold cutTransmission
  split
  · exact h.rlc _ s hs
  · dsimp only
    split
    · split
      · exact h.rlc _ s hs
      · exact blind_bufferOver h.toBlind _ (h.rlc _ s hs)
    · exact h.rlc _ s hs

theorem kept_tellNoPath (h : StepKept P) (e : ControlEntry) (hs : P s) : P (tellNoPath s e) := by
  have hc : P (s.countTransfers TransferCounters.notSent) := blind_countTransfers h.toBlind _ hs
  unfold tellNoPath
  split
  · exact h.marks _ s hs
  · dsimp only
    split
    · exact blind_channelNoPath h.toBlind _ hc
    · exact hc
  · exact hc
  · exact hc

theorem kept_abandonServices (h : StepKept P) (hs : P s) : P (abandonServices s) := by
  refine List.foldlRecOn _ abandonService hs fun t ht c _ => ?_
  unfold abandonService
  split
  · exact blind_closeChannel h.toBlind c ht
  · exact ht

theorem kept_onset (h : StepKept P) (b : Block) (hs : P s) : P (onset b s) := by
  refine blind_notifyBoth h.toBlind _ (kept_abandonServices h ?_)
  unfold discardControl
  refine List.foldlRecOn _ tellNoPath ?_ fun t ht e _ => kept_tellNoPath h e ht
  exact h.rlc _ _ (kept_cutTransmission h (h.rlc _ s hs))

theorem kept_silenceAt (h : StepKept P) (n : Nat) (hs : P s) : P (silenceAt n s) := by
  unfold silenceAt
  split
  · exact kept_onset h _ hs
  · exact hs

theorem kept_duplicateOnset (h : StepKept P) (hs : P s) : P (duplicateOnset s) :=
  kept_silenceAt h _ (kept_onset h _ (h.rlc _ s hs))

theorem kept_babbleOnset (h : StepKept P) (hs : P s) : P (babbleOnset s) :=
  kept_silenceAt h _ (kept_onset h _ (h.rlc _ s hs))

theorem kept_duplicateEvent (h : StepKept P) (hs : P s) : P (duplicateEvent s) := by
  have hc : P (s.countLink fun k => { k with duplicateEvents := countUp k.duplicateEvents }) :=
    blind_countLink h.toBlind _ hs
  unfold duplicateEvent
  dsimp only
  split
  · exact h.rlc _ _ hc
  · exact kept_duplicateOnset h hc

theorem kept_controlSent (h : StepKept P) (hs : P s) : P (controlSent s) := by
  unfold controlSent
  split
  · exact hs
  · dsimp only
    split
    · split
      · exact h.rlc _ s hs
      · exact blind_modChannel h.toBlind _ _ (h.rlc _ s hs)
    all_goals exact h.rlc _ s hs

theorem kept_serviceAdvance (h : StepKept P) (c b : Nat) (hs : P s) : P (serviceAdvance c b s) := by
  have hc : P ((s.setBuffer b { holder := some c, state := .empty }).setChannel c
      { s.channel c with nextTile := (s.channel c).nextTile + 1 }) :=
    blind_setChannel h.toBlind _ _ (blind_setBuffer h.toBlind _ _ hs)
  unfold serviceAdvance
  dsimp only
  split
  · exact blind_closeChannel h.toBlind c (blind_countTransfers h.toBlind _ hc)
  · exact hc

theorem kept_holdingSent (h : StepKept P) (t : Transmission) (hs : P s) : P (holdingSent t s) := by
  unfold holdingSent
  split
  · exact h.rlc _ s hs
  · exact h.rlc _ s hs
  · exact kept_controlSent h hs
  · unfold tileSent
    dsimp only
    split
    · exact kept_serviceAdvance h _ _ (h.rlc _ s hs)
    · exact blind_bufferOver h.toBlind _ (h.rlc _ s hs)
  · exact hs

theorem kept_completeTransmission (h : StepKept P) (hs : P s) : P (completeTransmission s) := by
  unfold completeTransmission
  split
  · exact hs
  · split
    · exact h.rlc _ s hs
    · exact kept_holdingSent h _ (h.rlc _ s hs)

theorem kept_holdingAbandoned (h : StepKept P) (t : Transmission) (hs : P s) : P (holdingAbandoned t s) := by
  unfold holdingAbandoned
  split
  · exact h.rlc _ s hs
  · split
    · exact hs
    · exact blind_bufferOver h.toBlind _ hs
  all_goals exact hs

theorem kept_abandonAttempt (h : StepKept P) (hs : P s) : P (abandonAttempt s) := by
  unfold abandonAttempt
  split
  · exact hs
  · split
    · exact hs
    · have ha : ∀ t, P (holdingAbandoned t (s.modRlc RiserLink.attemptAbandoned)) := fun t =>
        kept_holdingAbandoned h t (h.rlc _ s hs)
      unfold lineFault
      split
      · exact kept_onset h _ (h.rlc _ _ (h.rlc _ _ (ha _)))
      · exact ha _

/-! ### Frames -/

/-- A frame is handed on only when its origin is a peer (R94). -/
theorem kept_receiveFrame (h : StepKept P) (f : Frame) {act : State → State}
    (hact : ∀ u : State, u.isPeer f.origin = true → P u → P (act u)) (hs : P s) : P (receiveFrame f act s) := by
  have hf : P (s.modRlc (RiserLink.frameEnds f)) := h.rlc _ s hs
  unfold receiveFrame
  split
  · dsimp only
    split
    · exact kept_duplicateEvent h hf
    · rename_i hne
      split
      · exact blind_countLink h.toBlind _ hf
      · split
        · exact blind_countLink h.toBlind _ hf
        · split
          · rename_i hv
            refine hact _ ?_ (blind_countLink h.toBlind _ hf)
            rw [State.isPeer, hv, Bool.true_and, decide_eq_true_eq]
            exact hne
          · exact h.peers _ _ (blind_countLink h.toBlind _ hf)
  · exact hs

theorem kept_takeZoneState (h : StepKept P) (x : Nat) (payload : List Byte) (hx : s.isPeer x = true) (hs : P s) :
    P (takeZoneState x payload s) := by
  unfold takeZoneState
  split
  · exact h.heard x _ s hx hs
  · exact h.reports (countUp (frameHeard x .other s).picture.rejectedReports) _ (h.heard x .other s hx hs)

theorem kept_takeDirectory (h : StepKept P) (x : Nat) (payload : List Byte) (hx : s.isPeer x = true) (hs : P s) :
    P (takeDirectory x payload s) := by
  unfold takeDirectory
  split
  · exact h.heard x _ s hx hs
  · exact h.peers _ _ (h.heard x .other s hx hs)

theorem kept_takeMark (h : StepKept P) (x : Nat) (p : List Byte) (hx : s.isPeer x = true) (hs : P s) :
    P (takeMark x p s) := by
  have hcounted : ∀ f, P (countedMark x f s) := fun f => h.marks f _ (h.heard x .other s hx hs)
  unfold takeMark
  split
  · exact hcounted _
  · split
    · unfold takeMarkAck
      split
      · exact h.heard x _ s hx hs
      · exact hcounted _
    · split
      · exact h.heard x _ s hx hs
      · unfold takeMarkOff
        dsimp only
        split <;> exact h.heard x _ s hx hs

theorem kept_takeSheetRequest (h : StepKept P) (x : Nat) (p : List Byte) (hs : P s) : P (takeSheetRequest x p s) := by
  unfold takeSheetRequest
  split
  · exact blind_countTransfers h.toBlind _ hs
  · split
    · exact blind_submitRefuse h.toBlind _ _ _ hs
    · unfold newService
      split
      · exact blind_submitRefuse h.toBlind _ _ _ hs
      · split
        · exact blind_submitRefuse h.toBlind _ _ _ hs
        · exact blind_claimBuffers h.toBlind _ _ (blind_setChannel h.toBlind _ _ hs)
    · exact blind_submitRefuse h.toBlind _ _ _ (blind_closeChannel h.toBlind _ hs)
    · rename_i c r _ _
      have hd : P ((discardTiles c (fun _ => true) (withdrawReads c s)).modRlc (RiserLink.orphan c)) :=
        h.rlc _ _ (blind_discardTiles h.toBlind c _ (blind_withdrawReads h.toBlind c hs))
      unfold replaceService
      dsimp only
      split
      · exact blind_claimBuffers h.toBlind _ _ (blind_setChannel h.toBlind _ _ hd)
      · unfold keepOneBuffer
        split
        · split
          · exact blind_setChannel h.toBlind _ _ hd
          · exact blind_setBuffer h.toBlind _ _ (blind_setChannel h.toBlind _ _ hd)
        · exact blind_setChannel h.toBlind _ _ hd

theorem kept_takeSheetCancel (h : StepKept P) (x : Nat) (p : List Byte) (hs : P s) : P (takeSheetCancel x p s) := by
  unfold takeSheetCancel
  split
  · exact blind_closeChannel h.toBlind _ hs
  · exact blind_countTransfers h.toBlind _ hs

theorem kept_takeSheetTile (h : StepKept P) (x : Nat) (p : List Byte) (hs : P s) : P (takeSheetTile x p s) := by
  have hstray : P (strayTile s) := blind_countTransfers h.toBlind _ hs
  unfold takeSheetTile
  split
  · exact hstray
  · split
    · exact hstray
    · split
      · unfold acceptTile
        split
        · exact hs
        · exact blind_modChannel h.toBlind _ _ (blind_setBuffer h.toBlind _ _ hs)
      · split
        · exact blind_gapEvent h.toBlind _ hstray
        · exact hstray

theorem kept_takeSheetRefuse (h : StepKept P) (x : Nat) (p : List Byte) (hs : P s) : P (takeSheetRefuse x p s) := by
  have hstray : P (s.countTransfers fun n => { n with strayRefuses := countUp n.strayRefuses }) :=
    blind_countTransfers h.toBlind _ hs
  unfold takeSheetRefuse
  dsimp only
  split
  · split
    · unfold channelRefused
      dsimp only
      split
      · split
        · exact blind_modChannel h.toBlind _ _ hs
        · exact blind_moveNext h.toBlind _ _ hs
      · exact blind_moveNext h.toBlind _ _ (blind_modChannel h.toBlind _ _ hs)
    · exact hstray
  · exact hstray

theorem kept_holderLoss (h : StepKept P) (x : Nat) (hs : P s) : P (holderLoss x s) := by
  refine List.foldlRecOn _ (loseRequester x) (List.foldlRecOn _ (loseHolder x) hs fun t ht c _ => ?_) fun t ht c _ => ?_
  · unfold loseHolder
    split
    · exact blind_moveNext h.toBlind c false ht
    · exact ht
  · unfold loseRequester
    split
    · exact blind_closeChannel h.toBlind c ht
    · exact ht

theorem kept_silenceExpiry (h : StepKept P) (x : Nat) (hs : P s) : P (silenceExpiry x s) := by
  unfold silenceExpiry
  split
  · rename_i hx
    simp only [State.present, Bool.and_eq_true] at hx
    exact kept_holderLoss h x (h.lost x s hx.1.1 hs)
  · exact hs

/-! ### Crew requests -/

theorem kept_submitMark (h : StepKept P) (payload : List Byte) (hs : P s) : P (submitMark payload s) := by
  have hc : P (if s.rlc.answer = .queued then s else s.modMarks MarkCounts.oneNotSent) := by
    split
    · exact hs
    · exact h.marks _ s hs
  exact h.rlc (RiserLink.submit .mark 63 payload .mark) _ hc

theorem kept_acceptAttendOff (h : StepKept P) (p : Port) (label : Text) (f : Nat) (hs : P s) :
    P (acceptAttendOff p label f s) := by
  refine kept_submitMark h _ ?_
  unfold attendOffFloor
  split
  · exact h.attendance _ _ s hs
  · exact hs

theorem kept_withdrawAttendance (h : StepKept P) (p : Port) (hs : P s) : P (withdrawAttendance p s) := by
  unfold withdrawAttendance
  split
  · exact hs
  · refine List.foldlRecOn _ _ hs fun t ht f _ => ?_
    unfold withdrawFloor
    split
    · exact kept_acceptAttendOff h p _ f ht
    · exact ht

theorem kept_cancelChannel (h : StepKept P) (p : Port) (c : Nat) (hs : P s) : P (cancelChannel p c s) := by
  have hc : P (if (s.channel c).isRemote then submitCancel c s else s) := by
    split
    · exact blind_submitCancel h.toBlind c hs
    · exact hs
  exact h.port p _ _ (blind_closeChannel h.toBlind c (blind_withdrawRequest h.toBlind c hc))

theorem kept_leavePort (h : StepKept P) (p : Port) (hs : P s) : P (leavePort p s) := by
  refine h.notices p _ _ (List.foldlRecOn _ (cancelOwned p) (kept_withdrawAttendance h p hs) fun t ht c _ => ?_)
  unfold cancelOwned
  split
  · exact kept_cancelChannel h p c ht
  · exact ht

theorem PlanStore.lasts_discardResponses (p : PlanStore) : p.Lasts p.discardResponses := by
  refine ⟨rfl, rfl, rfl, rfl, rfl, fun ha => ?_⟩
  unfold PlanStore.discardResponses at ha
  revert ha
  cases p.access <;> exact id

theorem kept_portReset (h : StepKept P) (p : Port) (hs : P s) : P (portReset p s) := by
  have hp : P ((leavePort p s).modPort p CrewPort.afterReset) := h.port p _ _ (kept_leavePort h p hs)
  unfold portReset
  dsimp only
  split
  · exact h.store _ _ (PlanStore.lasts_discardResponses _) hp
  · exact hp

theorem kept_respondParts (h : StepKept P) (p : Port) (kind : Nat) (result : Result) (parts : List (List Byte)) (hs : P s) :
    P (respondParts p kind result parts s) := by
  unfold respondParts
  exact h.port p _ s hs

theorem kept_respond (h : StepKept P) (p : Port) (kind : Nat) (result : Result) (fields : List Byte) (hs : P s) :
    P (respond p kind result fields s) := kept_respondParts h p kind result [fields] hs

theorem kept_takeSheet (h : StepKept P) (p : Port) (floor kind first last revision : Nat) (hs : P s) :
    P (takeSheet p floor kind first last revision s).1 := by
  have htag : P (s.modSte fun e => { e with tagCounter := s.nextTag }) := h.ste _ s hs
  unfold takeSheet
  dsimp only
  split
  · exact hs
  · split
    · exact hs
    · split
      · exact hs
      · split
        · exact hs
        · split
          · exact hs
          · split
            · exact hs
            · split
              · exact htag
              · exact kept_ite (Q := fun r : State × Result × List Byte => P r.1) htag
                  (blind_enterSource h.toBlind _ _ (blind_setChannel h.toBlind _ _ htag))

theorem kept_takeCancel (h : StepKept P) (p : Port) (c : Nat) (hs : P s) : P (takeCancel p c s).1 := by
  unfold takeCancel
  split
  · exact kept_cancelChannel h p c hs
  · exact hs

theorem kept_takeAck (h : StepKept P) (p : Port) (station line change : Nat) (hs : P s) :
    P (takeAck p station line change s).1 := by
  have hack : ∀ label, P (acceptAck p label station line change s) := fun label =>
    kept_submitMark h _ (h.ack _ _ _ s hs)
  unfold takeAck
  dsimp only
  split
  · exact hs
  · split
    · exact hs
    · split
      · exact hs
      · split
        · exact hs
        · split
          · exact hs
          · split
            · exact hs
            · exact hack _

theorem kept_takeAttendOn (h : StepKept P) (p : Port) (f : Nat) (hs : P s) : P (takeAttendOn p f s).1 := by
  unfold takeAttendOn
  dsimp only
  split
  · exact hs
  · split
    · exact hs
    · exact kept_submitMark h _ (h.attendance _ _ s hs)

theorem kept_takeAttendOff (h : StepKept P) (p : Port) (f : Nat) (hs : P s) : P (takeAttendOff p f s).1 := by
  unfold takeAttendOff
  dsimp only
  split
  · exact hs
  · split
    · exact hs
    · exact kept_acceptAttendOff h p _ f hs

theorem kept_acceptOperation (h : StepKept P) (kind : Nat) (op : MaintOp) (p : Port) (hs : P s) :
    P (acceptOperation kind op p s) := by
  unfold acceptOperation
  split
  · exact kept_respond h p kind _ _ hs
  · exact h.store _ s ⟨rfl, rfl, rfl, rfl, rfl, id⟩ hs

theorem kept_serveAttach (h : StepKept P) (p : Port) (body : List Byte) (hs : P s) : P (serveAttach p body s) := by
  have ha : ∀ label, P (attachPort p label s) := fun label => by
    unfold attachPort
    dsimp only
    split
    · exact h.port p _ s hs
    · exact h.notices p _ _ (h.port p _ s hs)
  unfold serveAttach
  split
  · exact kept_respond h p _ _ _ (ha _)
  · exact kept_respond h p _ _ _ hs

theorem kept_serveFinish (h : StepKept P) (p : Port) (level : Nat) (hs : P s) : P (serveFinish p level s) := by
  unfold serveFinish
  split
  · exact kept_respond h p _ _ _ hs
  · unfold finishRecord
    exact h.notices p _ _ (kept_respond h p _ _ _ (h.notices p _ s hs))

theorem kept_serveStreamOn (h : StepKept P) (p : Port) (period : Nat) (hs : P s) : P (serveStreamOn p period s) := by
  have ho : P (s.modPort p fun q => { q with stream := { q.stream with isOn := true, period := clampPeriod period } }) :=
    h.port p _ s hs
  refine kept_respond h p _ _ _ ?_
  split
  · exact ho
  · exact blind_startPass h.toBlind p ho

theorem kept_serveStatus (h : StepKept P) (p : Port) (clear : Nat) (hs : P s) : P (serveStatus p clear s) := by
  unfold serveStatus
  dsimp only
  split
  · exact h.notices p _ _ (h.port p _ _ (kept_respondParts h p _ _ _ hs))
  · exact kept_respondParts h p _ _ _ hs

/-- A request handed to the block that serves it (R151). -/
theorem kept_serveKind (h : StepKept P) (p : Port) (body : List Byte) (k : RequestKind) (hs : P s) :
    P (serveKind p body s k) := by
  cases k with
  | attach => exact kept_serveAttach h p body hs
  | detach => exact kept_respond h p _ _ _ (h.port p _ _ (kept_leavePort h p hs))
  | picture =>
    simp only [serveKind, servePicture]
    split <;> exact kept_respond h p _ _ _ hs
  | floor =>
    simp only [serveKind, serveFloor]
    exact h.notices p _ _ (kept_respondParts h p _ _ _ hs)
  | watch => exact kept_respond h p _ _ _ (h.notices p _ s hs)
  | sheet => exact kept_respond h p _ _ _ (kept_takeSheet h p _ _ _ _ _ hs)
  | cancel => exact kept_respond h p _ _ _ (kept_takeCancel h p _ hs)
  | ack => exact kept_respond h p _ _ _ (kept_takeAck h p _ _ _ hs)
  | attend =>
    refine kept_respond h p _ _ _ ?_
    split
    · exact kept_takeAttendOn h p _ hs
    · exact kept_takeAttendOff h p _ hs
  | peek =>
    simp only [serveKind, servePeek]
    split <;> exact kept_respond h p _ _ _ hs
  | finish => exact kept_serveFinish h p _ hs
  | mask => exact kept_respond h p _ _ _ (h.notices p _ s hs)
  | stream =>
    simp only [serveKind]
    split
    · exact kept_serveStreamOn h p _ hs
    · exact kept_respond h p _ _ _ (h.port p _ s hs)
  | status => exact kept_serveStatus h p _ hs
  | storeWrite =>
    simp only [serveKind, serveStoreWrite]
    split
    · exact kept_respond h p _ _ _ hs
    · exact kept_acceptOperation h _ _ p hs
  | storeErase =>
    simp only [serveKind, serveStoreErase]
    split
    · exact kept_respond h p _ _ _ hs
    · exact kept_acceptOperation h _ _ p hs
  | storeCheck => exact kept_acceptOperation h _ _ p hs

theorem kept_dispatch (h : StepKept P) (p : Port) (r : Request) (hs : P s) : P (dispatch p r s) := by
  unfold dispatch
  split
  · exact kept_respond h p _ _ _ hs
  · split
    · exact kept_respond h p _ _ _ hs
    · split
      · exact kept_respond h p _ _ _ hs
      · exact kept_serveKind h p _ _ hs

theorem kept_takeRequests (h : StepKept P) (p : Port) (n : Nat) (hs : P s) : P (takeRequests p n s) := by
  induction n generalizing s with
  | zero => exact hs
  | succ n ih =>
    unfold takeRequests
    split
    · exact ih (kept_dispatch h p _ (h.port p _ s hs))
    · exact hs

theorem kept_crewRequest (h : StepKept P) (p : Port) (kind : Byte) (body : List Byte) (hs : P s) :
    P (crewRequest p kind body s) := by
  have hr : P (s.modPort p fun q => { q with receiving := false }) := h.port p _ s hs
  unfold crewRequest
  split
  · dsimp only
    split
    · exact h.port p _ _ hr
    · exact kept_takeRequests h p _ (h.port p _ _ hr)
  · exact hs

theorem kept_messageReceived (h : StepKept P) (p : Port) (kind : Byte) (body : List Byte) (check : Half) (hs : P s) :
    P (messageReceived p kind body check s) := by
  unfold messageReceived
  split
  · split
    · exact h.port p _ s hs
    · exact kept_crewRequest h p _ _ hs
  · exact hs

theorem kept_framingFailure (h : StepKept P) (p : Port) (hs : P s) : P (framingFailure p s) := by
  unfold framingFailure
  split
  · exact h.port p _ s hs
  · exact hs

theorem kept_lengthFault (h : StepKept P) (p : Port) (n : Nat) (hs : P s) : P (lengthFault p n s) := by
  unfold lengthFault
  split
  · exact kept_framingFailure h p hs
  · split
    · exact h.port p _ s hs
    · exact hs

theorem kept_sourceSent (h : StepKept P) (p : Port) (m : OutMessage) (hs : P s) : P (sourceSent p m s) := by
  unfold sourceSent
  split
  · exact h.port p _ s hs
  · exact h.port p _ s hs
  · exact hs
  · exact hs
  · split
    · exact blind_modChannel h.toBlind _ _ hs
    · exact hs
  · split
    · unfold sheetEndSent
      split
      · exact hs
      · exact blind_closeChannel h.toBlind _ (blind_transferEvent h.toBlind _ _ hs)
    · exact hs
  · exact hs

theorem kept_endMessage (h : StepKept P) (p : Port) (hs : P s) : P (endMessage p s) := by
  unfold endMessage
  split
  · exact hs
  · exact kept_takeRequests h p _ (kept_sourceSent h p _ (h.port p _ s hs))

/-! ### The plan store -/

theorem kept_storeResult (h : StepKept P) (discard : Bool) (kind : Nat) (result : Result) (fields : List Byte) (hs : P s) :
    P (storeResult discard kind result fields s) := by
  unfold storeResult
  split
  · exact hs
  · exact h.port .a _ s hs

theorem kept_beginAccess (h : StepKept P) (hs : P s) : P (beginAccess s) := by
  unfold beginAccess
  split
  · split
    · split
      · exact h.store _ s (PlanStore.lasts_start ..) hs
      · exact hs
    · exact h.store _ s (PlanStore.lasts_start ..) hs
  · exact hs

theorem kept_tileReadEnds (h : StepKept P) (r : TileRead) (withdrawn : Bool) (data : Option (List Byte)) (hs : P s) :
    P (tileReadEnds r withdrawn data s) := by
  have hb : P (beginAccess (s.modStore fun p => { p with access := .free })) :=
    kept_beginAccess h (h.store _ s ⟨rfl, rfl, rfl, rfl, rfl, fun ha => Bool.noConfusion ha⟩ hs)
  unfold tileReadEnds
  dsimp only
  split
  · exact blind_bufferOver h.toBlind _ hb
  · exact blind_readResult h.toBlind _ _ hb

theorem kept_tileTooLate (h : StepKept P) (r : TileRead) (withdrawn : Bool) (hs : P s) : P (tileTooLate r withdrawn s) :=
  kept_tileReadEnds h _ _ _ (h.store (fun p => { p with timeouts := countUp p.timeouts }) s
    ⟨rfl, rfl, rfl, rfl, rfl, id⟩ hs)

theorem kept_tileDelivered (h : StepKept P) (r : TileRead) (withdrawn : Bool) (hs : P s) :
    P (tileDelivered r withdrawn s) := by
  refine kept_tileReadEnds h _ _ _ (h.store _ s ?_ hs)
  unfold PlanStore.countRead
  split <;> exact ⟨rfl, rfl, rfl, rfl, rfl, id⟩

theorem kept_writeFaulted (h : StepKept P) (offset : Nat) (data : List Byte) (discard : Bool) (hs : P s) :
    P (writeFaulted offset data discard s) :=
  kept_storeResult h _ _ _ _ (h.draws _ _ (h.flash _ s hs))

theorem kept_eraseFaulted (h : StepKept P) (block : Nat) (discard : Bool) (hs : P s) : P (eraseFaulted block discard s) :=
  kept_storeResult h _ _ _ _ (h.draws _ _ (h.flash _ s hs))

theorem kept_storeWriteDone (h : StepKept P) (hs : P s) : P (storeWriteDone s) := by
  unfold storeWriteDone
  split
  · split
    · unfold writeCompleted
      dsimp only
      split <;> exact kept_storeResult h _ _ _ _ (h.flash _ s hs)
    · exact kept_writeFaulted h _ _ _ hs
  · exact hs

theorem kept_storeWriteTimeout (h : StepKept P) (hs : P s) : P (storeWriteTimeout s) := by
  unfold storeWriteTimeout
  split
  · split
    · exact kept_writeFaulted h _ _ _ hs
    · exact hs
  · exact hs

theorem kept_storeEraseDone (h : StepKept P) (hs : P s) : P (storeEraseDone s) := by
  unfold storeEraseDone
  split
  · split
    · exact kept_storeResult h _ _ _ _ (h.flash _ s hs)
    · exact kept_eraseFaulted h _ _ hs
  · exact hs

theorem kept_storeEraseTimeout (h : StepKept P) (hs : P s) : P (storeEraseTimeout s) := by
  unfold storeEraseTimeout
  split
  · split
    · exact kept_eraseFaulted h _ _ hs
    · exact hs
  · exact hs

theorem kept_checkReadEnds (h : StepKept P) (slot : Option Nat) (x : StoreScan) (discard : Bool)
    (bytes : Option (List Byte)) (hs : P s) : P (checkReadEnds slot x discard bytes s) := by
  unfold checkReadEnds
  dsimp only
  split
  · exact h.store _ s ⟨rfl, rfl, rfl, rfl, rfl, fun ha => Bool.noConfusion ha⟩ hs
  · exact kept_storeResult h _ _ _ _
      (h.store _ s ⟨rfl, rfl, rfl, rfl, rfl, fun ha => Bool.noConfusion ha⟩ hs)

/-! ### Start-up and samples -/

theorem kept_headerReadDone (h : StepKept P) (hs : P s) : P (headerReadDone s) := by
  unfold headerReadDone
  split
  · rename_i ha
    exact h.startup _ _ _ _ s ha hs
  · exact hs

theorem kept_slotReadDone (h : StepKept P) (hs : P s) : P (slotReadDone s) := by
  unfold slotReadDone
  split
  · rename_i ha
    exact h.startup _ _ _ _ s ha hs
  · exact hs

theorem kept_startupReadTimeout (h : StepKept P) (hs : P s) : P (startupReadTimeout s) := by
  unfold startupReadTimeout
  split
  · rename_i ha
    split
    · exact h.startup _ _ _ _ s ha hs
    · exact hs
  · exact hs

theorem kept_sampleMark (h : StepKept P) (values : Vector (BitVec 10) 16) (hs : P s) : P (sampleMark values s) := by
  refine List.foldlRecOn _ (sampleEvent values) hs fun t ht i hi => ?_
  unfold sampleEvent
  split
  · exact blind_settle h.toBlind t (h.sampled i (List.mem_range.mp hi) _ t ht)
  · exact ht

theorem kept_sampleWhen (h : StepKept P) (i : Fin 16) (v : Nat) (test : LineRecord → LineClass → Bool) (hs : P s) :
    P (sampleWhen i.val v test s) := by
  unfold sampleWhen
  split
  · exact hs
  · split
    · exact h.sampled i.val i.isLt v s hs
    · exact hs

/-! ### Events -/

theorem kept_event (h : StepKept P) {f : State → State} {t : State} (hs : P s) (hf : P (f s)) (he : event f s = .next t) :
    P t := by
  cases he
  split
  · exact hs
  · exact blind_settle h.toBlind s hf

theorem kept_quietEvent {f : State → State} {t : State} (hs : P s) (hf : P (f s)) (he : quietEvent f s = .next t) :
    P t := by
  cases he
  split
  · exact hs
  · exact hf

/-- The commands that move the receiver between idle and activity, or drive the yield mark. -/
theorem kept_idleLine (h : StepKept P) (hs : P s) : P (idleDetected s) ∧ P (idleRoundBegins s) ∧ P (lineActive s) ∧
    P (dominantSensed s) ∧ P (yieldMarkDriven s) := by
  refine ⟨kept_ite (h.rlc _ s hs) hs, ?_, ?_, ?_,
    kept_ite (h.rlc _ _ (kept_beginTransmission h _ _ _ hs)) hs⟩
  · unfold idleRoundBegins
    split
    · exact h.rlc _ s hs
    all_goals exact hs
  · unfold lineActive
    split
    · exact h.rlc _ s hs
    all_goals exact hs
  · unfold dominantSensed
    split
    · exact hs
    · exact h.rlc _ s hs

theorem kept_startMoment (h : StepKept P) (offset : Nat) (hs : P s) : P (startMoment offset s) := by
  unfold startMoment
  split
  · split
    · split
      · exact kept_beginClass h _ hs
      · exact h.rlc _ s hs
    · exact hs
  · exact hs

theorem kept_burstContinues (h : StepKept P) (hs : P s) : P (burstContinues s) := by
  unfold burstContinues
  split
  · exact kept_ite (kept_beginTile h _ (h.rlc _ s hs)) (h.rlc _ s hs)
  · exact hs

theorem kept_guardCut (h : StepKept P) (hs : P s) : P (guardCut s) := by
  unfold guardCut
  split
  · exact hs
  · exact kept_ite (kept_babbleOnset h (blind_countLink h.toBlind _ hs)) hs

theorem kept_receiveFailure (h : StepKept P) (bytes : List LineByte) (hs : P s) : P (receiveFailure bytes s) := by
  unfold receiveFailure
  split
  · exact hs
  · exact kept_ite (h.rlc _ s hs) hs

theorem kept_gapExpiry (h : StepKept P) (c : Nat) (hs : P s) : P (gapExpiry c s) :=
  kept_ite (blind_gapEvent h.toBlind c (blind_modChannel h.toBlind c _ hs)) hs

theorem kept_tileReadTimeout (h : StepKept P) (hs : P s) : P (tileReadTimeout s) := by
  unfold tileReadTimeout
  split
  · exact kept_ite (kept_tileTooLate h _ _ hs) hs
  · exact hs

theorem kept_execTileReadEnd (h : StepKept P) {t : State} (hs : P s) (he : execTileReadEnd s = .next t) : P t := by
  unfold execTileReadEnd at he
  split at he
  · split at he
    · split at he
      · cases he
      · exact kept_event h hs (kept_tileDelivered h _ _ hs) he
    · exact kept_event h hs (kept_tileTooLate h _ _ hs) he
  · cases he
    exact hs

theorem kept_storeCheckReadDone (h : StepKept P) (hs : P s) : P (storeCheckReadDone s) := by
  unfold storeCheckReadDone
  split
  · exact kept_checkReadEnds h _ _ _ _ hs
  · exact hs

theorem kept_storeCheckReadTimeout (h : StepKept P) (hs : P s) : P (storeCheckReadTimeout s) := by
  unfold storeCheckReadTimeout
  split
  · exact kept_ite (kept_checkReadEnds h _ _ _ _ hs) hs
  · exact hs

/-- Every command keeps the property. -/
theorem StepKept.exec (h : StepKept P) {c : Instr} {t : State} (hs : P s) (he : exec c s = .next t) : P t := by
  have frame : ∀ {kind origin dest payload} {act : State → State},
      (∀ u : State, u.isPeer origin.toNat = true → P u → P (act u)) →
      event (receiveFrame (frameOf kind origin dest payload) act) s = .next t → P t :=
    fun hact => kept_event h hs (kept_receiveFrame h _ hact hs)
  have request : ∀ {p kind body}, event (crewRequest p kind body) s = .next t → P t :=
    kept_event h hs (kept_crewRequest h _ _ _ hs)
  obtain ⟨hidle, hround, hactive, hsensed, hyield⟩ := kept_idleLine h hs
  cases c with
  | reset a m => exact h.reset a m s t he
  | resetAsserted => exact h.asserted s t he
  | headerReadDone => exact kept_event h hs (kept_headerReadDone h hs) he
  | slotReadDone => exact kept_event h hs (kept_slotReadDone h hs) he
  | startupReadTimeout => exact kept_event h hs (kept_startupReadTimeout h hs) he
  | sample values => exact kept_quietEvent hs (kept_sampleMark h values hs) he
  | confirmTimerExpiry i v => exact kept_event h hs (kept_sampleWhen h i _ _ hs) he
  | troubleTimerExpiry i v => exact kept_event h hs (kept_sampleWhen h i _ _ hs) he
  | restoreTimerExpiry i v => exact kept_event h hs (kept_sampleWhen h i _ _ hs) he
  | normalHoldTimerExpiry i v => exact kept_event h hs (kept_sampleWhen h i _ _ hs) he
  | decayTimerExpiry i v => exact kept_event h hs (kept_sampleWhen h i _ _ hs) he
  | joinListenEnd => exact kept_quietEvent hs (kept_ite (h.rlc _ _ (h.rlc _ s hs)) hs) he
  | idleDetection => exact kept_quietEvent hs hidle he
  | idleRound => exact kept_quietEvent hs hround he
  | startMoment offset => exact kept_quietEvent hs (kept_startMoment h offset hs) he
  | transmissionComplete => exact kept_event h hs (kept_completeTransmission h hs) he
  | attemptAbandoned => exact kept_event h hs (kept_abandonAttempt h hs) he
  | burstContinuation => exact kept_quietEvent hs (kept_burstContinues h hs) he
  | dominantSensed => exact kept_quietEvent hs hsensed he
  | yieldMark => exact kept_quietEvent hs hyield he
  | transmitGuardCut => exact kept_event h hs (kept_guardCut h hs) he
  | duplicateHoldExpiry => exact kept_quietEvent hs (kept_ite (h.rlc _ _ (h.rlc _ s hs)) hs) he
  | babbleClear => exact kept_quietEvent hs (kept_ite (h.rlc _ _ (h.rlc _ s hs)) hs) he
  | lineClear => exact kept_quietEvent hs (kept_ite (h.rlc _ _ (h.rlc _ s hs)) hs) he
  | duplicateCountDecay => exact kept_quietEvent hs (kept_ite (h.rlc _ s hs) hs) he
  | babbleCountDecay => exact kept_quietEvent hs (kept_ite (h.rlc _ s hs) hs) he
  | refreshTimerExpiry => exact kept_quietEvent hs (kept_ite (h.rlc _ s hs) hs) he
  | directoryTimerExpiry => exact kept_quietEvent hs (kept_ite (h.rlc _ s hs) hs) he
  | receiveFailure bytes => exact kept_quietEvent hs (kept_receiveFailure h bytes hs) he
  | lineActivity => exact kept_quietEvent hs hactive he
  | zoneState cls origin dest payload => exact frame (fun _ hx hu => kept_takeZoneState h _ _ hx hu) he
  | directory origin dest payload => exact frame (fun _ hx hu => kept_takeDirectory h _ _ hx hu) he
  | sheetRequest origin dest payload =>
    exact frame (fun u hx hu => kept_takeSheetRequest h _ _ (h.heard _ _ u hx hu)) he
  | sheetRefuse origin dest payload =>
    exact frame (fun u hx hu => kept_takeSheetRefuse h _ _ (h.heard _ _ u hx hu)) he
  | sheetCancel origin dest payload =>
    exact frame (fun u hx hu => kept_takeSheetCancel h _ _ (h.heard _ _ u hx hu)) he
  | sheetTile origin dest payload =>
    exact frame (fun u hx hu => kept_takeSheetTile h _ _ (h.heard _ _ u hx hu)) he
  | markAck origin dest payload => exact frame (fun _ hx hu => kept_takeMark h _ _ hx hu) he
  | markAttendOn origin dest payload => exact frame (fun _ hx hu => kept_takeMark h _ _ hx hu) he
  | markAttendOff origin dest payload => exact frame (fun _ hx hu => kept_takeMark h _ _ hx hu) he
  | silenceTimerExpiry peer => exact kept_event h hs (kept_silenceExpiry h _ hs) he
  | tileReadEnd => exact kept_execTileReadEnd h hs he
  | tileReadTimeout => exact kept_event h hs (kept_tileReadTimeout h hs) he
  | storeWriteDone => exact kept_event h hs (kept_storeWriteDone h hs) he
  | storeWriteTimeout => exact kept_event h hs (kept_storeWriteTimeout h hs) he
  | storeEraseDone => exact kept_event h hs (kept_storeEraseDone h hs) he
  | storeEraseTimeout => exact kept_event h hs (kept_storeEraseTimeout h hs) he
  | storeCheckReadDone => exact kept_event h hs (kept_storeCheckReadDone h hs) he
  | storeCheckReadTimeout => exact kept_event h hs (kept_storeCheckReadTimeout h hs) he
  | queueFullRetry channel => exact kept_event h hs (kept_ite (blind_submitRequest h.toBlind _ hs) hs) he
  | responseTimerExpiry channel => exact kept_event h hs (kept_ite (blind_moveNext h.toBlind _ _ hs) hs) he
  | busyRetry channel =>
    exact kept_event h hs (kept_ite (blind_buildWindow h.toBlind _ (blind_modChannel h.toBlind _ _ hs)) hs) he
  | gapTimerExpiry channel => exact kept_event h hs (kept_gapExpiry h _ hs) he
  | breakDetected port => exact kept_event h hs (kept_ite (kept_portReset h port hs) hs) he
  | crewMessageReceived port kind body check => exact kept_event h hs (kept_messageReceived h port kind body check hs) he
  | receiveStall port => exact kept_quietEvent hs (kept_framingFailure h port hs) he
  | crewByteFramingError port => exact kept_quietEvent hs (kept_framingFailure h port hs) he
  | crewLengthFieldFault port length => exact kept_quietEvent hs (kept_lengthFault h port _ hs) he
  | lineReturnedHigh port => exact kept_quietEvent hs (kept_ite (h.port port _ s hs) hs) he
  | streamPassStart port => exact kept_event h hs (kept_ite (blind_startPass h.toBlind port hs) hs) he
  | messageEnd port => exact kept_event h hs (kept_endMessage h port hs) he
  | storeWrite | storeErase | storeCheck | sheet | cancel | unknown | attach | detach | picture | floor | watch | ack
  | attendOn | attendOff | peek | finish | mask | streamOn | streamOff | status => exact request he

/-- Every step keeps the property. -/
theorem StepKept.step (h : StepKept P) {t : State} (hs : P s) (he : step s = .next t) : P t := by
  unfold Machine.step at he
  split at he
  · cases he
    unfold tick
    exact kept_ite hs (h.clock _ s hs)
  · exact h.exec (h.pending _ s hs) he

end

end Sys2Proof.Machine
end

section
/-! SUPPORT. One evaluation of a line keeps the laws of its record: the rule of each zone state, then the decay of the repeat
count (R8 to R19). -/

namespace Sys2Proof.Machine

open Sys2Proof

/-- The laws of a record but for its decay timer, which an evaluation sets last. -/
abbrev LineRecord.LawfulButDecay (l : LineRecord) : Prop := { l with decayTimer := none }.Lawful

theorem LineRecord.Lawful.butDecay {l : LineRecord} (h : l.Lawful) : l.LawfulButDecay := by
  obtain ⟨hhist, hlost, htrouble, hboost, hrec, hcount, htrans, hepisode, hconfirm, hrestore, hdelay, hhold, -⟩ := h
  exact ⟨hhist, hlost, htrouble, hboost, hrec, hcount, htrans, hepisode, hconfirm, hrestore, hdelay, hhold,
    fun h => Bool.noConfusion h⟩

/-- What the rules of an evaluation leave alone: the configuration, the samples, and what was formed from them. -/
structure LineRecord.SameReading (l e : LineRecord) : Prop where
  ztype : e.ztype = l.ztype
  floor : e.floor = l.floor
  label : e.label = l.label
  history : e.history = l.history
  reading : e.reading = l.reading
  resistance : e.resistance = l.resistance
  lclass : e.lclass = l.lclass
  lastMark : e.lastMark = l.lastMark
  changeNumber : e.changeNumber = l.changeNumber

theorem LineRecord.SameReading.refl (l : LineRecord) : l.SameReading l := ⟨rfl, rfl, rfl, rfl, rfl, rfl, rfl, rfl, rfl⟩

theorem LineRecord.SameReading.trans {l e k : LineRecord} (h : l.SameReading e) (g : e.SameReading k) :
    l.SameReading k :=
  ⟨g.ztype.trans h.ztype, g.floor.trans h.floor, g.label.trans h.label, g.history.trans h.history,
    g.reading.trans h.reading, g.resistance.trans h.resistance, g.lclass.trans h.lclass, g.lastMark.trans h.lastMark,
    g.changeNumber.trans h.changeNumber⟩

variable {now : Nat} {boost : Bool} {c : LineClass} {l : LineRecord}

theorem LineRecord.sameReading_lineBack (l : LineRecord) : l.SameReading l.lineBack := by
  unfold LineRecord.lineBack
  split <;> exact ⟨rfl, rfl, rfl, rfl, rfl, rfl, rfl, rfl, rfl⟩

/-- The rules change the zone state, its flags and its timers alone. -/
theorem LineRecord.sameReading_stateRule (now : Nat) (boost : Bool) (c : LineClass) (l : LineRecord) :
    l.SameReading (stateRule now boost c l) := by
  unfold stateRule
  split
  · unfold ruleNormal
    split
    · exact ⟨rfl, rfl, rfl, rfl, rfl, rfl, rfl, rfl, rfl⟩
    · exact ⟨rfl, rfl, rfl, rfl, rfl, rfl, rfl, rfl, rfl⟩
    all_goals
      split
      · exact ⟨rfl, rfl, rfl, rfl, rfl, rfl, rfl, rfl, rfl⟩
      · split <;> exact ⟨rfl, rfl, rfl, rfl, rfl, rfl, rfl, rfl, rfl⟩
  · unfold rulePending
    split
    · split <;> exact ⟨rfl, rfl, rfl, rfl, rfl, rfl, rfl, rfl, rfl⟩
    all_goals exact ⟨rfl, rfl, rfl, rfl, rfl, rfl, rfl, rfl, rfl⟩
  · unfold ruleAlarm
    split
    · exact (sameReading_lineBack l).trans ⟨rfl, rfl, rfl, rfl, rfl, rfl, rfl, rfl, rfl⟩
    · exact sameReading_lineBack l
    all_goals exact ⟨rfl, rfl, rfl, rfl, rfl, rfl, rfl, rfl, rfl⟩
  · unfold ruleClearing
    split
    · split <;> exact ⟨rfl, rfl, rfl, rfl, rfl, rfl, rfl, rfl, rfl⟩
    all_goals exact ⟨rfl, rfl, rfl, rfl, rfl, rfl, rfl, rfl, rfl⟩
  · unfold ruleTrouble
    split
    · exact ⟨rfl, rfl, rfl, rfl, rfl, rfl, rfl, rfl, rfl⟩
    · split
      · exact ⟨rfl, rfl, rfl, rfl, rfl, rfl, rfl, rfl, rfl⟩
      · split <;> exact ⟨rfl, rfl, rfl, rfl, rfl, rfl, rfl, rfl, rfl⟩
    all_goals exact ⟨rfl, rfl, rfl, rfl, rfl, rfl, rfl, rfl, rfl⟩
  · exact SameReading.refl l

theorem LineRecord.sameReading_decayRule (now : Nat) (l : LineRecord) : l.SameReading (decayRule now l) := by
  unfold decayRule
  split
  · split
    · split <;> exact ⟨rfl, rfl, rfl, rfl, rfl, rfl, rfl, rfl, rfl⟩
    · split <;> exact ⟨rfl, rfl, rfl, rfl, rfl, rfl, rfl, rfl, rfl⟩
  · exact ⟨rfl, rfl, rfl, rfl, rfl, rfl, rfl, rfl, rfl⟩

/-- The record with the reading, resistance and class its history gives, from which the rules go on (R3 to R5). -/
def LineRecord.formed (l : LineRecord) : LineRecord :=
  { l with
    reading := readingOf l.history
    resistance := resistanceOf (readingOf l.history)
    lclass := classify l.lclass (resistanceOf (readingOf l.history)) }

/-- The record after the rules of an evaluation, its change number not yet raised. -/
def LineRecord.ruled (now : Nat) (boost : Bool) (l : LineRecord) : LineRecord :=
  decayRule now (stateRule now boost l.formed.lclass l.formed)

theorem LineRecord.evaluated_eq (now : Nat) (boost : Bool) (l : LineRecord) :
    l.evaluated now boost = if reportableDiffers l (l.ruled now boost) then
      { l.ruled now boost with changeNumber := wrapNext l.changeNumber } else l.ruled now boost := rfl

theorem LineRecord.sameReading_ruled (now : Nat) (boost : Bool) (l : LineRecord) : l.formed.SameReading (l.ruled now boost) :=
  (sameReading_stateRule ..).trans (sameReading_decayRule ..)

/-- After its rules an evaluation changes the change number alone (R22). -/
theorem LineRecord.evaluated_field {β : Type} (f : LineRecord → β) (hf : ∀ x n, f { x with changeNumber := n } = f x)
    (now : Nat) (boost : Bool) (l : LineRecord) : f (l.evaluated now boost) = f (l.ruled now boost) := by
  rw [LineRecord.evaluated_eq]
  split
  · exact hf _ _
  · rfl

/-! ### The laws of the record -/

theorem lawful_ruleNormal (h : l.LawfulButDecay) (hz : l.zstate = .normal) (hb : boost = true → l.ztype.isFire = true) :
    (ruleNormal now boost c l).LawfulButDecay := by
  unfold ruleNormal LineRecord.enterPending
  cases c with
  | alarm => simp_all [LineRecord.LawfulButDecay, LineRecord.Lawful]
  | normal => simp_all [LineRecord.LawfulButDecay, LineRecord.Lawful]
  | openLoop | short =>
    dsimp only
    split
    · simp_all [LineRecord.LawfulButDecay, LineRecord.Lawful]
    · split
      · simp_all [LineRecord.LawfulButDecay, LineRecord.Lawful, faultKind]
      · exact h

theorem lawful_rulePending (h : l.LawfulButDecay) (hz : l.zstate = .pending) : (rulePending now c l).LawfulButDecay := by
  unfold rulePending LineRecord.leavePending LineRecord.raiseRepeat satNext
  cases c with
  | alarm =>
    dsimp only
    split
    · simp_all [LineRecord.LawfulButDecay, LineRecord.Lawful]
    · exact h
  | normal | openLoop | short => simp_all [LineRecord.LawfulButDecay, LineRecord.Lawful]

theorem lawful_ruleAlarm (h : l.LawfulButDecay) (hz : l.zstate = .alarm) : (ruleAlarm now c l).LawfulButDecay := by
  unfold ruleAlarm LineRecord.lineBack
  cases c with
  | alarm | normal =>
    dsimp only
    split <;> simp_all [LineRecord.LawfulButDecay, LineRecord.Lawful]
  | openLoop | short => simp_all [LineRecord.LawfulButDecay, LineRecord.Lawful, faultKind]

theorem lawful_ruleClearing (h : l.LawfulButDecay) (hz : l.zstate = .clearing) :
    (ruleClearing now c l).LawfulButDecay := by
  unfold ruleClearing
  cases c with
  | normal =>
    dsimp only
    split
    · simp_all [LineRecord.LawfulButDecay, LineRecord.Lawful]
    · exact h
  | alarm => simp_all [LineRecord.LawfulButDecay, LineRecord.Lawful]
  | openLoop | short => simp_all [LineRecord.LawfulButDecay, LineRecord.Lawful, faultKind]

theorem lawful_ruleTrouble (h : l.LawfulButDecay) (hz : l.zstate = .trouble) (hb : boost = true → l.ztype.isFire = true) :
    (ruleTrouble now boost c l).LawfulButDecay := by
  unfold ruleTrouble LineRecord.enterPending
  cases c with
  | alarm => simp_all [LineRecord.LawfulButDecay, LineRecord.Lawful]
  | normal =>
    dsimp only
    split
    · simp_all [LineRecord.LawfulButDecay, LineRecord.Lawful]
    · split
      · simp_all [LineRecord.LawfulButDecay, LineRecord.Lawful]
      · exact h
  | openLoop | short => simp_all [LineRecord.LawfulButDecay, LineRecord.Lawful, faultKind]

/-- The rule of the line's zone state keeps its laws (R9 to R13, R15, R16, R19). -/
theorem lawful_stateRule (h : l.LawfulButDecay) (hb : boost = true → l.ztype.isFire = true) :
    (stateRule now boost c l).LawfulButDecay := by
  unfold stateRule
  split
  · exact lawful_ruleNormal h ‹_› hb
  · exact lawful_rulePending h ‹_›
  · exact lawful_ruleAlarm h ‹_›
  · exact lawful_ruleClearing h ‹_›
  · exact lawful_ruleTrouble h ‹_› hb
  · exact h

/-- The decay timer runs only with a repeat count in NORMAL or TROUBLE; a repeat count of 0 ends RECURRING (R17). -/
theorem lawful_decayRule (h : l.LawfulButDecay) : (decayRule now l).Lawful := by
  unfold decayRule
  split
  · split
    · split
      · simp_all [LineRecord.LawfulButDecay, LineRecord.Lawful]
      · simp_all [LineRecord.LawfulButDecay, LineRecord.Lawful]
        omega
    · split
      · simp_all [LineRecord.LawfulButDecay, LineRecord.Lawful]
      · simp_all [LineRecord.LawfulButDecay, LineRecord.Lawful]
  · exact h

/-- One evaluation keeps the laws of a line's record. -/
theorem lawful_evaluated (h : l.Lawful) (hb : boost = true → l.ztype.isFire = true) : (l.evaluated now boost).Lawful := by
  have hn : (l.ruled now boost).Lawful := lawful_decayRule (lawful_stateRule (l := l.formed) h.butDecay hb)
  rw [LineRecord.evaluated_eq]
  split
  · exact hn
  · exact hn

end Sys2Proof.Machine
end

section
/-! SUPPORT. The sample of a line, the store-ready event and a frame heard, as the laws of summaries and lines take them;
then the two laws themselves. -/

namespace Sys2Proof.Machine

open Sys2Proof

/-! ### Lines written -/

theorem State.line_setLine_cases (i j : Nat) (l : LineRecord) (s : State) (hi : i < 16) :
    (j = i ∧ (s.setLine i l).line j = l) ∨ (j ≠ i ∧ (s.setLine i l).line j = s.line j) := by
  by_cases h : j = i
  · exact .inl ⟨h, by rw [h]; exact State.setLine_line_same hi l s⟩
  · exact .inr ⟨h, State.setLine_line_ne (Ne.symm h) l s⟩

theorem startUpLaw_setLine {i : Nat} (hi : i < 16) {l : LineRecord} {s : State}
    (hu : s.zones.configTaken = false → l.Untouched) (h : StartUpLaw s) : StartUpLaw (s.setLine i l) := by
  obtain ⟨hstart, htaken, huntouched⟩ := h
  refine ⟨hstart, htaken, fun hc j hj => ?_⟩
  rcases State.line_setLine_cases i j l s hi with ⟨-, hl⟩ | ⟨-, hl⟩
  · rw [hl]; exact hu hc
  · rw [hl]; exact huntouched hc j hj

theorem summaryLaw_setLine {i : Nat} (hi : i < 16) {l : LineRecord} {s : State}
    (hu : s.zones.configTaken = false → l.Untouched) (hfloor : l.floor = (s.line i).floor) (h : SummaryLaw s) :
    SummaryLaw (s.setLine i l) := by
  obtain ⟨hstart, hown, hcounts⟩ := h
  refine ⟨startUpLaw_setLine hi hu hstart, fun j hj hk => ?_, hcounts⟩
  obtain ⟨htaken, hfl⟩ := hown j hj hk
  refine ⟨htaken, ?_⟩
  rcases State.line_setLine_cases i j l s hi with ⟨rfl, hl⟩ | ⟨-, hl⟩
  · rw [hl, hfloor]; exact hfl
  · rw [hl]; exact hfl

theorem zoneLaw_setLine {i : Nat} (hi : i < 16) {l : LineRecord} {s : State}
    (hu : s.zones.configTaken = false → l.Untouched) (hl : l.Lawful) (h : ZoneLaw s) : ZoneLaw (s.setLine i l) := by
  refine ⟨startUpLaw_setLine hi hu h.1, fun j hj => ?_⟩
  rcases State.line_setLine_cases i j l s hi with ⟨-, h'⟩ | ⟨-, h'⟩
  · rw [h']; exact hl
  · rw [h']; exact h.2 j hj

/-! ### Samples (R2, R8) -/

theorem LineRecord.lawful_push {l : LineRecord} (h : l.Lawful) (mark v : Nat) : (l.push mark v).Lawful := by
  obtain ⟨hhist, hrest⟩ := h
  refine ⟨?_, hrest⟩
  simp only [LineRecord.push]
  split
  · simp only [List.length_append, List.length_singleton]
    omega
  · simp only [List.length_append, List.length_drop, List.length_singleton]
    omega

/-- The boost at entry to PENDING is a fire type's (R20). -/
theorem isFire_of_boostApplies {i : Nat} {s : State} (h : s.boostApplies i = true) : (s.line i).ztype.isFire = true := by
  rw [State.boostApplies, Bool.and_eq_true] at h
  exact h.1

/-- What a property asks of the lines and the own entries for a line's sample to keep it. -/
theorem sampleLine_induction {P : State → Prop} {i : Nat} (v : Nat) {s : State} (hs : P s)
    (hpush : P (s.setLine i ((s.line i).push s.clock v)))
    (heval : ∀ u : State, P u → u.lineEnabled i = true → P (evaluateLine i u)) : P (sampleLine i v s) := by
  unfold sampleLine
  split
  · dsimp only
    split
    · rename_i h
      rw [Bool.and_eq_true] at h
      exact heval _ hpush h.1
    · exact hpush
  · exact hs

theorem LineRecord.Untouched.push {l : LineRecord} (h : l.Untouched) (mark v : Nat) : (l.push mark v).Untouched := h

/-- The state in which a line's own entry is written: the ALARM mark set at a raise (R23). -/
def State.raisedIf (raised : Bool) (s : State) : State := if raised then s.markAlarm else s

theorem writeOwn_eq (i : Nat) (raised : Bool) (s : State) : writeOwn i raised s =
    pictureEvent [{ origin := s.ownOrigin, line := i,
                    new := ownEntryOf s.clock (s.line i) raised (s.entry s.ownOrigin i) }] [] [] (s.raisedIf raised) := rfl

theorem blind_raisedIf {P : State → Prop} (h : Blind P) (raised : Bool) {s : State} (hs : P s) : P (s.raisedIf raised) :=
  kept_ite (h.rlc _ s hs) hs

theorem raisedIf_ownOrigin (raised : Bool) (s : State) : (s.raisedIf raised).ownOrigin = s.ownOrigin := by
  cases raised <;> rfl

theorem raisedIf_zones (raised : Bool) (s : State) : (s.raisedIf raised).zones = s.zones := by
  cases raised <;> rfl

theorem lineEnabled_configTaken {i : Nat} {s : State} (he : s.lineEnabled i = true) : s.zones.configTaken = true := by
  rw [State.lineEnabled, Bool.and_eq_true] at he
  exact he.1

theorem summaryLaw_evaluateLine {i : Nat} (hi : i < 16) {s : State} (he : s.lineEnabled i = true) (h : SummaryLaw s) :
    SummaryLaw (evaluateLine i s) := by
  have htaken := lineEnabled_configTaken he
  unfold evaluateLine
  extract_lets old new
  have hnew : SummaryLaw (s.setLine i new) := summaryLaw_setLine hi
    (fun hc => by rw [htaken] at hc; exact Bool.noConfusion hc) ((LineRecord.evaluated_field (·.floor) (fun _ _ => rfl) ..).trans
      (LineRecord.sameReading_ruled ..).floor) h
  rw [writeOwn_eq]
  refine summaryLaw_pictureEvent _ _ ?_ (blind_raisedIf blind_summaryLaw _ hnew)
  intro c hc j hj hplace _
  obtain rfl := List.mem_singleton.mp hc
  rw [raisedIf_ownOrigin] at hplace
  have hij : i = j := by
    by_contra hne
    exact entryIndex_ne_line hne hplace
  subst hij
  rw [raisedIf_zones, State.line_congr (raisedIf_zones ..)]
  exact ⟨htaken, rfl⟩

theorem zoneLaw_evaluateLine {i : Nat} (hi : i < 16) {s : State} (he : s.lineEnabled i = true) (h : ZoneLaw s) :
    ZoneLaw (evaluateLine i s) := by
  have htaken := lineEnabled_configTaken he
  unfold evaluateLine
  extract_lets old new
  have hnew : new.Lawful := lawful_evaluated (h.2 i hi) isFire_of_boostApplies
  rw [writeOwn_eq]
  exact zoneLaw_pictureEvent _ _ _ (blind_raisedIf blind_zoneLaw _
    (zoneLaw_setLine hi (fun hc => by rw [htaken] at hc; exact Bool.noConfusion hc) hnew h))

theorem summaryLaw_samplingReady {s : State} (h : SummaryLaw s) : SummaryLaw (samplingReady s) := kept_ite h h

theorem zoneLaw_samplingReady {s : State} (h : ZoneLaw s) : ZoneLaw (samplingReady s) := kept_ite h h

theorem summaryLaw_sampleLine {i : Nat} (hi : i < 16) (v : Nat) {s : State} (h : SummaryLaw s) :
    SummaryLaw (sampleLine i v s) :=
  sampleLine_induction v h (summaryLaw_setLine hi (fun hc => (h.1.2.2 hc i hi).push ..) rfl h)
    fun _ hu he => summaryLaw_evaluateLine hi he hu

theorem zoneLaw_sampleLine {i : Nat} (hi : i < 16) (v : Nat) {s : State} (h : ZoneLaw s) : ZoneLaw (sampleLine i v s) :=
  sampleLine_induction v h (zoneLaw_setLine hi (fun hc => (h.1.2.2 hc i hi).push ..) (LineRecord.lawful_push (h.2 i hi) ..) h)
    fun _ hu he => zoneLaw_evaluateLine hi he hu

/-! ### The store-ready event (R1, R14, R23) -/

/-- The state of the store-ready event before the own entries are written: the images fixed, the configuration and the
holdings taken, the Holder Table formed anew. -/
def State.configured (x : StoreScan) (s : State) : State :=
  recomputeHolders (takeHoldings (takeConfiguration (fixImages x s)))

theorem storeReady_eq (x : StoreScan) (s : State) : storeReady x s = samplingReady
    (pictureEvent (configuredEntries (s.configured x))
      (changedOwnerLabels (takeHoldings (takeConfiguration (fixImages x s))) (s.configured x)) [] (s.configured x)) := rfl

theorem configured_line (x : StoreScan) (s : State) {i : Nat} (hi : i < 16) :
    (s.configured x).line i = configureLine x.header i (s.line i) := tget_tbuild _ hi _

/-- A line that a configuration finds untouched takes it lawfully (R1, R14). -/
theorem LineRecord.lawful_configureLine {l : LineRecord} (image : Option HeaderImage) (i : Nat) (h : l.Untouched)
    (hhist : l.history.length ≤ 4) : (configureLine image i l).Lawful := by
  obtain ⟨history, mark, rfl⟩ : ∃ history mark, l = { LineRecord.atReset with history := history, lastMark := mark } :=
    ⟨l.history, l.lastMark, by rw [← h]⟩
  unfold configureLine
  split
  · simp [LineRecord.Lawful, LineRecord.atReset]
  · dsimp only
    split
    · simpa [LineRecord.Lawful, LineRecord.atReset] using hhist
    · simp [LineRecord.Lawful, LineRecord.atReset]

theorem startUpLaw_configured (x : StoreScan) (s : State) : StartUpLaw (s.configured x) :=
  ⟨fun h => Bool.noConfusion h, rfl, fun h => Bool.noConfusion h⟩

theorem configuredEntry_mem {s : State} {c : EntryChange} (hc : c ∈ configuredEntries s) : ∃ i < 16, c.origin = s.ownOrigin ∧
    c.line = i ∧ c.new = (if (s.line i).ztype = .unused then
      ownEntryOf s.clock (s.line i) false (s.entry s.ownOrigin i) else s.entry s.ownOrigin i).relabel (s.line i).label := by
  obtain ⟨i, hi, rfl⟩ := List.mem_map.mp hc
  exact ⟨i, List.mem_range.mp hi, rfl, rfl, rfl⟩

/-- Before the configuration the own entries are EMPTY, and the store-ready event writes only those of disabled lines. -/
theorem summaryLaw_storeReady (x : StoreScan) {s : State} (hc : s.zones.configTaken = false) (h : SummaryLaw s) :
    SummaryLaw (storeReady x s) := by
  obtain ⟨-, hown, hcounts⟩ := h
  have hempty : ∀ i < 16, ((s.configured x).entry (s.configured x).ownOrigin i).known = false := by
    intro i hi
    by_contra hk
    rw [Bool.not_eq_false] at hk
    rw [(hown i hi hk).1] at hc
    exact Bool.noConfusion hc
  rw [storeReady_eq]
  refine summaryLaw_samplingReady (summaryLaw_pictureEvent _ _ ?_ ⟨startUpLaw_configured x s, ?_, hcounts⟩)
  · intro c hmem j hj hplace hk
    obtain ⟨i, hi, horigin, hline, hnew⟩ := configuredEntry_mem hmem
    have hij : i = j := by
      by_contra hne
      rw [EntryChange.place, horigin, hline] at hplace
      exact entryIndex_ne_line hne hplace
    subst hij
    refine ⟨rfl, ?_⟩
    rw [hnew] at hk ⊢
    split at hk
    · rename_i hz
      rw [if_pos hz]; rfl
    · rw [ZoneEntry.relabel, hempty i hi] at hk
      exact Bool.noConfusion hk
  · intro i hi hk
    rw [hempty i hi] at hk
    exact Bool.noConfusion hk

theorem zoneLaw_storeReady (x : StoreScan) {s : State} (hc : s.zones.configTaken = false) (h : ZoneLaw s) :
    ZoneLaw (storeReady x s) := by
  rw [storeReady_eq]
  refine zoneLaw_samplingReady (zoneLaw_pictureEvent _ _ _ ⟨startUpLaw_configured x s, fun i hi => ?_⟩)
  rw [configured_line x s hi]
  exact LineRecord.lawful_configureLine _ _ (h.1.2.2 hc i hi) (h.2 i hi).1

/-- While a start-up read is in progress the configuration is not taken (R103, R106). -/
theorem configTaken_of_startup {s : State} {slot : Option Nat} {scan : StoreScan} {begun : Nat}
    (ha : s.store.access = .startup slot scan begun) (h : StartUpLaw s) : s.zones.configTaken = false := by
  obtain ⟨hstart, htaken, -⟩ := h
  rw [htaken]
  exact hstart (by rw [ha]; rfl)

/-- A start-up read that ends begins the next, or makes the store ready (R103). -/
theorem startupReadEnds_induction {P : State → Prop} (hb : Blind P) {s : State} (slot : Option Nat) {scan : StoreScan}
    (begun : Nat) (bytes : Option (List Byte)) (ha : s.store.access = .startup slot scan begun) (hs : P s)
    (hready : ∀ x, P (storeReady x s)) : P (startupReadEnds slot scan bytes s) := by
  unfold startupReadEnds
  dsimp only
  split
  · exact hb.store _ s ⟨rfl, rfl, rfl, rfl, rfl, fun _ => by rw [ha]; rfl⟩ hs
  · exact hready _

end Sys2Proof.Machine
end

section
/-! SUPPORT. The laws of summaries and lines under the frames of peers and the resets; and the two laws, kept by every
step. -/

namespace Sys2Proof.Machine

open Sys2Proof

/-! ### Frames of peers -/

/-- The own row is no peer's row (R25). -/
theorem ownOrigin_ne_peer {x : Nat} {s : State} (hx : s.isPeer x = true) : x ≠ s.ownOrigin := by
  simp only [State.isPeer, validAddress, Bool.and_eq_true, decide_eq_true_eq] at hx
  obtain ⟨⟨hlow, -⟩, hne⟩ := hx
  unfold State.ownOrigin
  split
  · exact hne
  · omega

/-- A change of nothing but an entry's acknowledgement. -/
def EntryChange.AckOnly (s : State) (c : EntryChange) : Prop := ∃ a, c.new = { s.entry c.origin c.line with ack := some a }

/-- A change of an entry of row `x`, or of nothing but an entry's acknowledgement. -/
def EntryChange.OfPeer (x : Nat) (s : State) (c : EntryChange) : Prop := (c.origin = x ∧ c.line < 16) ∨ c.AckOnly s

/-- An acknowledgement leaves an own entry on its floor. -/
theorem EntryChange.AckOnly.fits {s : State} {c : EntryChange} (hc : c.AckOnly s) (h : SummaryLaw s) {i : Nat} (hi : i < 16)
    (hplace : c.place = entryIndex s.ownOrigin i) (hk : c.new.known = true) :
    s.zones.configTaken = true ∧ c.new.floor = (s.line i).floor := by
  obtain ⟨a, hnew⟩ := hc
  have hsame : s.entry c.origin c.line = s.entry s.ownOrigin i := congrArg (fun n => s.slot n) hplace
  rw [hnew, hsame] at hk ⊢
  exact h.2.1 i hi hk

theorem ownChangesFit_ofPeer {x : Nat} {s : State} {changes : List EntryChange} (hx : s.isPeer x = true)
    (hc : ∀ c ∈ changes, c.OfPeer x s) (h : SummaryLaw s) : OwnChangesFit changes s := by
  intro c hmem i hi hplace hk
  rcases hc c hmem with ⟨horigin, hline⟩ | hack
  · exact absurd hplace (entryIndex_ne hline hi (by rw [horigin]; exact ownOrigin_ne_peer hx))
  · exact hack.fits h hi hplace hk

theorem rowChanges_ofPeer {x : Nat} {f : Nat → ZoneEntry → ZoneEntry} {s : State} {c : EntryChange}
    (hc : c ∈ rowChanges x f s) : c.OfPeer x s := by
  obtain ⟨l, hl, hsome⟩ := List.mem_filterMap.mp hc
  dsimp only at hsome
  split at hsome
  · cases hsome
  · cases hsome
    exact .inl ⟨rfl, List.mem_range.mp hl⟩

theorem rowReplacement_ofPeer {x : Nat} {payload : List Byte} {s : State} {c : EntryChange}
    (hc : c ∈ rowReplacement x payload s) : c.OfPeer x s := by
  obtain ⟨l, hl, hsome⟩ := List.mem_filterMap.mp hc
  obtain ⟨r, -, rfl⟩ := Option.map_eq_some_iff.mp hsome
  exact .inl ⟨rfl, List.mem_range.mp hl⟩

theorem staleCleared_ofPeer {x : Nat} {wasLost : Bool} {s : State} {c : EntryChange}
    (hc : c ∈ staleCleared x wasLost s) : c.OfPeer x s := by
  unfold staleCleared at hc
  split at hc
  · exact rowChanges_ofPeer hc
  · cases hc

/-- An acknowledgement placed among changes of row `x` is a change of its own, or joins one of them. -/
theorem withAck_ofPeer {x o l : Nat} {a : Ack} {s : State} {changes : List EntryChange}
    (hchanges : ∀ c ∈ changes, c.origin = x ∧ c.line < 16) {c : EntryChange} (hc : c ∈ withAck o l a s changes) :
    c.OfPeer x s := by
  induction changes with
  | nil =>
    obtain rfl := List.mem_singleton.mp hc
    exact .inr ⟨a, rfl⟩
  | cons d rest ih =>
    have hd := hchanges d List.mem_cons_self
    have hrest : ∀ c ∈ rest, c.origin = x ∧ c.line < 16 := fun c hc => hchanges c (List.mem_cons_of_mem _ hc)
    unfold withAck at hc
    split at hc
    · rcases List.mem_cons.mp hc with rfl | hmem
      · exact .inl hd
      · exact .inl (hrest c hmem)
    · split at hc
      · rcases List.mem_cons.mp hc with rfl | hmem
        · exact .inl hd
        · exact ih hrest hmem
      · rcases List.mem_cons.mp hc with rfl | hmem
        · exact .inr ⟨a, rfl⟩
        · exact .inl (hchanges c hmem)

/-- What a frame of peer `x` changes of the entries (R32, R35, R55, R68). -/
theorem contentChanges_ofPeer {x : Nat} {wasLost : Bool} {content : FrameContent} {s : State} {c : EntryChange}
    (hc : c ∈ contentChanges x wasLost content s) : c.OfPeer x s := by
  cases content with
  | row payload => exact rowReplacement_ofPeer hc
  | directory d =>
    dsimp only [contentChanges] at hc
    exact rowChanges_ofPeer hc
  | ack o l a =>
    refine withAck_ofPeer (fun d hd => ?_) hc
    unfold staleCleared at hd
    split at hd
    · obtain ⟨l, hl, hsome⟩ := List.mem_filterMap.mp hd
      dsimp only at hsome
      split at hsome
      · cases hsome
      · cases hsome
        exact ⟨rfl, List.mem_range.mp hl⟩
    · cases hd
  | attendance f list => exact staleCleared_ofPeer hc
  | other => exact staleCleared_ofPeer hc

theorem blind_recomputeHolders {P : State → Prop} (h : CommandBlind P) {s : State} (hs : P s) : P (recomputeHolders s) := by
  unfold recomputeHolders
  exact h.holders _ s hs

/-- The state in which a frame's content reaches the picture: the Peer Table has taken the frame, the Notice Controllers a
return, the Holder Table the claims (R50 to R55, R59). -/
theorem frameHeard_eq (x : Nat) (content : FrameContent) (s : State) : ∃ u labels,
    frameHeard x content s =
      pictureEvent (contentChanges x ((s.peer x).presence == .lost) content u) labels content.lists u ∧
    ∀ P : State → Prop, CommandBlind P → P s → P u := by
  unfold frameHeard
  extract_lets old wasLost s1 s2 s3
  refine ⟨s3, _, rfl, fun P h hs => ?_⟩
  have hpeer : P s1 := h.peers _ s hs
  have hback : P s2 := kept_ite (blind_notifyBoth h.toBlind _ hpeer) hpeer
  exact kept_ite (blind_recomputeHolders h hback) hback

/-- The state in which the loss of a peer reaches the picture (R52). -/
theorem peerLost_eq (x : Nat) (s : State) : ∃ u labels,
    peerLost x s = pictureEvent (rowChanges x (fun _ e => e.makeStale) u) labels [] u ∧
    ∀ P : State → Prop, CommandBlind P → P s → P u := by
  unfold peerLost
  extract_lets s1 s2 s3
  refine ⟨s3, changedOwnerLabels s2 s3, rfl, fun P h hs => ?_⟩
  have hpeer : P s1 := h.peers _ s hs
  have hnotice : P s2 := blind_notifyBoth h.toBlind _ hpeer
  exact blind_recomputeHolders h hnotice

/-! ### Resets -/

theorem startUpLaw_resetStation (address : Nat) (maintenance held : Bool) {store : PlanStore} (draws : Nat) (s : State)
    (hr : store.ready = false) : StartUpLaw (resetStation address maintenance held store draws s) := by
  refine ⟨fun _ => hr, hr.symm, fun _ i _ => ?_⟩
  rw [show (resetStation address maintenance held store draws s).line i = LineRecord.atReset from tget_replicate 16 i _]
  rfl

theorem summaryLaw_resetStation (address : Nat) (maintenance held : Bool) {store : PlanStore} (draws : Nat) (s : State)
    (hr : store.ready = false) : SummaryLaw (resetStation address maintenance held store draws s) := by
  refine ⟨startUpLaw_resetStation address maintenance held draws s hr, fun i _ hk => ?_, fun f _ => ?_⟩
  · rw [State.entry_eq_slot, State.slot,
      show tget ZoneEntry.empty (resetStation address maintenance held store draws s).picture.entries _ = ZoneEntry.empty from
        tget_replicate 1008 _ _] at hk
    exact Bool.noConfusion hk
  · have hnone : (resetStation address maintenance held store draws s).picture.counted f = [] := by
      refine List.filter_eq_nil_iff.mpr fun e he => ?_
      rw [show (resetStation address maintenance held store draws s).picture.entries = Vector.replicate 1008 .empty from rfl,
        Vector.toList_replicate] at he
      rw [List.eq_of_mem_replicate he]
      exact Bool.noConfusion
    rw [hnone, show (resetStation address maintenance held store draws s).floor f = .atReset from tget_replicate 256 f _]
    rfl

theorem zoneLaw_resetStation (address : Nat) (maintenance held : Bool) {store : PlanStore} (draws : Nat) (s : State)
    (hr : store.ready = false) : ZoneLaw (resetStation address maintenance held store draws s) := by
  refine ⟨startUpLaw_resetStation address maintenance held draws s hr, fun i _ => ?_⟩
  rw [show (resetStation address maintenance held store draws s).line i = LineRecord.atReset from tget_replicate 16 i _]
  decide

/-! ### The two laws -/

theorem commandBlind_summaryLaw : CommandBlind SummaryLaw where
  toBlind := blind_summaryLaw
  marks _ _ h := h
  peers _ _ h := h
  holders _ _ h := h
  reports _ _ h := h
  flash m s h := summaryLaw_congr (s := s) (t := s.modStore (PlanStore.operationOver m)) rfl rfl
    (fun ha => Bool.noConfusion ha) rfl rfl (fun _ _ => rfl) h
  draws _ _ h := h

theorem commandBlind_zoneLaw : CommandBlind ZoneLaw where
  toBlind := blind_zoneLaw
  marks _ _ h := h
  peers _ _ h := h
  holders _ _ h := h
  reports _ _ h := h
  flash m s h := zoneLaw_congr (s := s) (t := s.modStore (PlanStore.operationOver m)) rfl rfl
    (fun ha => Bool.noConfusion ha) h
  draws _ _ h := h

/-- Being a peer is a matter of the addresses alone. -/
theorem commandBlind_isPeer (x : Nat) : CommandBlind fun s => s.isPeer x = true where
  ste _ _ h := h
  rlc _ _ h := h
  port p _ _ h := by cases p <;> exact h
  notices p _ _ h := by cases p <;> exact h
  store _ _ _ h := h
  marks _ _ h := h
  peers _ _ h := h
  holders _ _ h := h
  reports _ _ h := h
  flash _ _ h := h
  draws _ _ h := h

/-- Every command's own effect keeps the summaries. -/
theorem stepKept_summaryLaw : StepKept SummaryLaw where
  toCommandBlind := commandBlind_summaryLaw
  attendance f l _ h := summaryLaw_setAttendance f l h
  ack o l a s h := by
    refine summaryLaw_pictureEvent _ _ (fun c hc i hi hplace hk => ?_) h
    have hack : c.AckOnly s := by
      obtain rfl := List.mem_singleton.mp hc
      exact ⟨a, rfl⟩
    exact hack.fits h hi hplace hk
  heard x content s hx h := by
    obtain ⟨u, labels, he, hu⟩ := frameHeard_eq x content s
    have hlaw : SummaryLaw u := hu _ commandBlind_summaryLaw h
    rw [he]
    exact summaryLaw_pictureEvent _ _
      (ownChangesFit_ofPeer (hu _ (commandBlind_isPeer x) hx) (fun _ => contentChanges_ofPeer) hlaw) hlaw
  lost x s hx h := by
    obtain ⟨u, labels, he, hu⟩ := peerLost_eq x s
    have hlaw : SummaryLaw u := hu _ commandBlind_summaryLaw h
    rw [he]
    exact summaryLaw_pictureEvent _ _
      (ownChangesFit_ofPeer (hu _ (commandBlind_isPeer x) hx) (fun _ => rowChanges_ofPeer) hlaw) hlaw
  sampled i hi v s h := summaryLaw_samplingReady (summaryLaw_sampleLine hi v h)
  startup slot scan begun bytes s ha h := startupReadEnds_induction blind_summaryLaw slot begun bytes ha h fun x =>
    summaryLaw_storeReady x (configTaken_of_startup ha h.1) h
  reset a m s t he := by
    cases he
    exact summaryLaw_resetStation _ _ _ _ s rfl
  asserted s t he := by
    cases he
    exact summaryLaw_resetStation _ _ _ _ s rfl
  clock _ _ h := h
  pending _ _ h := h

/-- Every command's own effect keeps the laws of the lines. -/
theorem stepKept_zoneLaw : StepKept ZoneLaw where
  toCommandBlind := commandBlind_zoneLaw
  attendance f l _ h := zoneLaw_setAttendance f l h
  ack _ _ _ _ h := zoneLaw_pictureEvent _ _ _ h
  heard x content s _ h := by
    obtain ⟨u, labels, he, hu⟩ := frameHeard_eq x content s
    rw [he]
    exact zoneLaw_pictureEvent _ _ _ (hu _ commandBlind_zoneLaw h)
  lost x s _ h := by
    obtain ⟨u, labels, he, hu⟩ := peerLost_eq x s
    rw [he]
    exact zoneLaw_pictureEvent _ _ _ (hu _ commandBlind_zoneLaw h)
  sampled i hi v s h := zoneLaw_samplingReady (zoneLaw_sampleLine hi v h)
  startup slot scan begun bytes s ha h := startupReadEnds_induction blind_zoneLaw slot begun bytes ha h fun x =>
    zoneLaw_storeReady x (configTaken_of_startup ha h.1) h
  reset a m s t he := by
    cases he
    exact zoneLaw_resetStation _ _ _ _ s rfl
  asserted s t he := by
    cases he
    exact zoneLaw_resetStation _ _ _ _ s rfl
  clock _ _ h := h
  pending _ _ h := h

end Sys2Proof.Machine

open Sys2Proof Sys2Proof.Machine

/-- Settles O12: the floors an event touches are recomputed from their counted entries, and no entry of another floor is
counted before or after it. -/
theorem summaryLawKept : Obligations.SummaryLawKept := fun _ _ h he => stepKept_summaryLaw.step h he

/-- Settles O13: the lines change in their evaluations, at a boost, at the store-ready event and at a reset alone. -/
theorem zoneLawKept : Obligations.ZoneLawKept := fun _ _ h he => stepKept_zoneLaw.step h he

end

section
/-! SUPPORT. What one evaluation of a line gives (R9 to R13, R15 to R17, R19, R22): each move of the zone state machine, the
repeat count with its decay, and the change number. -/

namespace Sys2Proof.Machine

open Sys2Proof

/-- A record but for its repeat count, RECURRING, decay timer and change number, which an evaluation forms after its move. -/
def LineRecord.plain (l : LineRecord) : LineRecord :=
  { l with repeatCount := 0, recurring := false, decayTimer := none, changeNumber := 0 }

/-- The record after the rule of its zone state, before the decay. -/
def LineRecord.moved (now : Nat) (boost : Bool) (l : LineRecord) : LineRecord :=
  stateRule now boost l.formed.lclass l.formed

theorem LineRecord.plain_decayRule (now : Nat) (l : LineRecord) : (decayRule now l).plain = l.plain := by
  unfold decayRule
  split
  · split
    · split <;> rfl
    · split <;> rfl
  · rfl

/-- But for counts, RECURRING and change number an evaluation leaves what the rule of the zone state leaves. -/
theorem LineRecord.plain_evaluated (now : Nat) (boost : Bool) (l : LineRecord) :
    (l.evaluated now boost).plain = (l.moved now boost).plain :=
  (LineRecord.evaluated_field LineRecord.plain (fun _ _ => rfl) ..).trans (LineRecord.plain_decayRule ..)

theorem LineRecord.zstate_evaluated (now : Nat) (boost : Bool) (l : LineRecord) :
    (l.evaluated now boost).zstate = (l.moved now boost).zstate :=
  congrArg (·.zstate) (LineRecord.plain_evaluated now boost l)

/-! ### The moves -/

section

variable {now : Nat} {boost : Bool} {l : LineRecord}

theorem moved_normal (hz : l.zstate = .normal) : l.moved now boost = ruleNormal now boost l.formed.lclass l.formed := by
  simp only [LineRecord.moved, stateRule, show l.formed.zstate = .normal from hz]

theorem moved_pending (hz : l.zstate = .pending) : l.moved now boost = rulePending now l.formed.lclass l.formed := by
  simp only [LineRecord.moved, stateRule, show l.formed.zstate = .pending from hz]

theorem moved_alarm (hz : l.zstate = .alarm) : l.moved now boost = ruleAlarm now l.formed.lclass l.formed := by
  simp only [LineRecord.moved, stateRule, show l.formed.zstate = .alarm from hz]

theorem moved_clearing (hz : l.zstate = .clearing) : l.moved now boost = ruleClearing now l.formed.lclass l.formed := by
  simp only [LineRecord.moved, stateRule, show l.formed.zstate = .clearing from hz]

theorem moved_trouble (hz : l.zstate = .trouble) : l.moved now boost = ruleTrouble now boost l.formed.lclass l.formed := by
  simp only [LineRecord.moved, stateRule, show l.formed.zstate = .trouble from hz]

theorem moved_disabled (hz : l.zstate = .disabled) : l.moved now boost = l.formed := by
  simp only [LineRecord.moved, stateRule, show l.formed.zstate = .disabled from hz]

/-- The kind of a fault class (R15). -/
theorem faultKind_eq {c : LineClass} (h : c = .openLoop ∨ c = .short) :
    faultKind c = if c = .openLoop then some TroubleKind.openLoop else some .short := by
  rcases h with rfl | rfl <;> rfl

/-! ### The rules at a fault class -/

theorem ruleNormal_fault {c : LineClass} (h : c = .openLoop ∨ c = .short) (l : LineRecord) :
    ruleNormal now boost c l = match l.troubleTimer with
      | none => { l with troubleTimer := some now }
      | some _ => if timerDue now troubleDelay l.troubleTimer then
          { l with zstate := .trouble, trouble := faultKind c, troubleTimer := none } else l := by
  rcases h with rfl | rfl <;> rfl

theorem rulePending_fault {c : LineClass} (h : c = .openLoop ∨ c = .short) (l : LineRecord) :
    rulePending now c l = { l.leavePending with
      zstate := .normal, transientCount := satNext 255 l.transientCount, troubleTimer := some now } := by
  rcases h with rfl | rfl <;> rfl

theorem alarmRule_fault {c : LineClass} (h : c = .openLoop ∨ c = .short) (l : LineRecord) :
    ruleAlarm now c l = { l with lineLost := true, trouble := faultKind c } := by
  rcases h with rfl | rfl <;> rfl

theorem ruleClearing_fault {c : LineClass} (h : c = .openLoop ∨ c = .short) (l : LineRecord) :
    ruleClearing now c l =
      { l with zstate := .alarm, restoreTimer := none, lineLost := true, trouble := faultKind c } := by
  rcases h with rfl | rfl <;> rfl

theorem ruleTrouble_fault {c : LineClass} (h : c = .openLoop ∨ c = .short) (l : LineRecord) :
    ruleTrouble now boost c l = { l with holdTimer := none, trouble := faultKind c } := by
  rcases h with rfl | rfl <;> rfl

/-- LINE_LOST ends and takes the trouble kind with it (R11). -/
theorem LineRecord.lineBack_eq (l : LineRecord) :
    l.lineBack = { l with lineLost := false, trouble := if l.lineLost then none else l.trouble } := by
  unfold LineRecord.lineBack
  split
  · rfl
  · rename_i h
    rw [Bool.not_eq_true] at h
    rw [← h]

theorem timerDue_some (now length b : Nat) : timerDue now length (some b) = decide (length ≤ now - b) := rfl

/-! ### The counts -/

/-- What the rule of the zone state does to the repeat count, RECURRING and the decay timer: a raise where PENDING turns to
ALARM (R16), and nothing else. -/
structure CountsMoved (l m : LineRecord) : Prop where
  decay : m.decayTimer = l.decayTimer
  raised : l.zstate = .pending → m.zstate = .alarm → m.repeatCount = min 15 (l.repeatCount + 1) ∧
    m.recurring = (l.recurring || decide (3 ≤ min 15 (l.repeatCount + 1)))
  kept : ¬(l.zstate = .pending ∧ m.zstate = .alarm) → m.repeatCount = l.repeatCount ∧ m.recurring = l.recurring

theorem CountsMoved.same {l m : LineRecord} (hz : l.zstate ≠ .pending) (hd : m.decayTimer = l.decayTimer)
    (hc : m.repeatCount = l.repeatCount) (hr : m.recurring = l.recurring) : CountsMoved l m :=
  ⟨hd, fun h => absurd h hz, fun _ => ⟨hc, hr⟩⟩

theorem countsMoved_lineBack (hz : l.zstate ≠ .pending) : CountsMoved l l.lineBack := by
  rw [LineRecord.lineBack_eq]
  exact .same hz rfl rfl rfl

theorem countsMoved_stateRule (now : Nat) (boost : Bool) (c : LineClass) (l : LineRecord) :
    CountsMoved l (stateRule now boost c l) := by
  unfold stateRule
  split
  case h_1 hz =>
    have hp : l.zstate ≠ .pending := by rw [hz]; decide
    unfold ruleNormal
    split
    · exact .same hp rfl rfl rfl
    · exact .same hp rfl rfl rfl
    all_goals
      split
      · exact .same hp rfl rfl rfl
      · split <;> exact .same hp rfl rfl rfl
  case h_2 hz =>
    unfold rulePending
    split
    · split
      · exact ⟨rfl, fun _ _ => ⟨rfl, rfl⟩, fun h => absurd ⟨hz, rfl⟩ h⟩
      · exact ⟨rfl, fun _ h => absurd (hz.symm.trans h) (by decide), fun _ => ⟨rfl, rfl⟩⟩
    all_goals exact ⟨rfl, fun _ h => ZoneState.noConfusion h, fun _ => ⟨rfl, rfl⟩⟩
  case h_3 hz =>
    have hp : l.zstate ≠ .pending := by rw [hz]; decide
    unfold ruleAlarm
    split
    · obtain ⟨hd, -, hk⟩ := countsMoved_lineBack hp
      obtain ⟨hc, hr⟩ := hk fun h => hp h.1
      exact .same hp hd hc hr
    · exact countsMoved_lineBack hp
    all_goals exact .same hp rfl rfl rfl
  case h_4 hz =>
    have hp : l.zstate ≠ .pending := by rw [hz]; decide
    unfold ruleClearing
    split
    · split <;> exact .same hp rfl rfl rfl
    all_goals exact .same hp rfl rfl rfl
  case h_5 hz =>
    have hp : l.zstate ≠ .pending := by rw [hz]; decide
    unfold ruleTrouble
    split
    · exact .same hp rfl rfl rfl
    · split
      · exact .same hp rfl rfl rfl
      · split <;> exact .same hp rfl rfl rfl
    all_goals exact .same hp rfl rfl rfl
  case h_6 hz => exact .same (by rw [hz]; decide) rfl rfl rfl

theorem countsMoved_moved (now : Nat) (boost : Bool) (l : LineRecord) : CountsMoved l (l.moved now boost) :=
  have h := countsMoved_stateRule now boost l.formed.lclass l.formed
  ⟨h.decay, h.raised, h.kept⟩

/-- The zone is left in NORMAL or TROUBLE with a repeat count (R17). -/
abbrev LineRecord.Quiet (l : LineRecord) : Prop := (l.zstate = .normal ∨ l.zstate = .trouble) ∧ 1 ≤ l.repeatCount

theorem decayRule_notQuiet (h : ¬l.Quiet) : decayRule now l = { l with decayTimer := none } := by
  rw [decayRule, if_neg h]

/-- The decay timer has run out: the repeat count falls, and RECURRING ends with it at 0 (R17). -/
theorem decayRule_due (h : l.Quiet) (hd : timerDue now 120000 l.decayTimer = true) :
    decayRule now l = { l with
      repeatCount := l.repeatCount - 1, recurring := l.recurring && decide (2 ≤ l.repeatCount)
      decayTimer := if 2 ≤ l.repeatCount then some now else none } := by
  rw [decayRule, if_pos h, if_pos (show timerDue now decayLength l.decayTimer = true from hd)]
  split
  · rename_i h1
    rw [h1]
    simp
  · rename_i h1
    have h2 : 2 ≤ l.repeatCount := by have := h.2; omega
    simp [h2]

/-- The decay timer runs on, or starts (R17). -/
theorem decayRule_running (h : l.Quiet) (hd : timerDue now 120000 l.decayTimer = false) :
    decayRule now l = { l with decayTimer := some (l.decayTimer.getD now) } := by
  rw [decayRule, if_pos h, if_neg (by rw [show decayLength = 120000 from rfl, hd]; decide)]
  split
  · rename_i hn; rw [hn]; rfl
  · rename_i b hb
    rw [hb, Option.getD_some, ← hb]

/-- The change number goes up by one exactly when a reportable item differs (R22). -/
theorem LineRecord.evaluated_changeNumber (now : Nat) (boost : Bool) (l : LineRecord) :
    (l.evaluated now boost).changeNumber =
      if (l.evaluated now boost).zstate = l.zstate ∧ (l.evaluated now boost).recurring = l.recurring ∧
          (l.evaluated now boost).lineLost = l.lineLost ∧ (l.evaluated now boost).boosted = l.boosted ∧
          (l.evaluated now boost).trouble = l.trouble ∧ (l.evaluated now boost).repeatCount = l.repeatCount
      then l.changeNumber else (l.changeNumber + 1) % 65536 := by
  have hsame := (LineRecord.sameReading_ruled now boost l).changeNumber
  rw [LineRecord.evaluated_field (·.zstate) (fun _ _ => rfl), LineRecord.evaluated_field (·.recurring) (fun _ _ => rfl),
    LineRecord.evaluated_field (·.lineLost) (fun _ _ => rfl), LineRecord.evaluated_field (·.boosted) (fun _ _ => rfl),
    LineRecord.evaluated_field (·.trouble) (fun _ _ => rfl), LineRecord.evaluated_field (·.repeatCount) (fun _ _ => rfl),
    LineRecord.evaluated_eq]
  have hiff : reportableDiffers l (l.ruled now boost) = false ↔ (l.ruled now boost).zstate = l.zstate ∧
      (l.ruled now boost).recurring = l.recurring ∧ (l.ruled now boost).lineLost = l.lineLost ∧
      (l.ruled now boost).boosted = l.boosted ∧ (l.ruled now boost).trouble = l.trouble ∧
      (l.ruled now boost).repeatCount = l.repeatCount := by
    simp only [reportableDiffers, Bool.not_eq_false', Bool.and_eq_true, beq_iff_eq, and_assoc]
    refine and_congr eq_comm (and_congr eq_comm (and_congr eq_comm (and_congr eq_comm (and_congr eq_comm eq_comm))))
  by_cases h : reportableDiffers l (l.ruled now boost) = true
  · rw [if_pos h, if_neg fun hs => by rw [hiff.mpr hs] at h; exact Bool.noConfusion h]
    rfl
  · rw [if_neg h, if_pos (hiff.mp (Bool.not_eq_true _ ▸ h))]
    exact hsame

/-- The change number differs after an evaluation exactly when a reportable item does. -/
theorem LineRecord.evaluated_raised (now : Nat) (boost : Bool) (l : LineRecord) :
    reportableDiffers l (l.evaluated now boost) = true ↔ (l.evaluated now boost).changeNumber ≠ l.changeNumber := by
  have hsame := (LineRecord.sameReading_ruled now boost l).changeNumber
  rw [LineRecord.evaluated_field (reportableDiffers l) (fun _ _ => rfl), LineRecord.evaluated_eq]
  by_cases h : reportableDiffers l (l.ruled now boost) = true
  · rw [if_pos h]
    exact ⟨fun _ => wrapNext_ne _, fun _ => h⟩
  · rw [if_neg h]
    exact ⟨fun h' => absurd h' h, fun h' => absurd hsame h'⟩

end

end Sys2Proof.Machine
end

section
/-! SUPPORT. Every move of one evaluation, as O22 writes it out: from each zone state and class what the evaluation leaves,
and the repeat count with its decay (R9 to R13, R15 to R17, R19). -/

namespace Sys2Proof.Machine

open Sys2Proof

section

variable {now : Nat} {boost : Bool} {l base : LineRecord} {c : LineClass}

/-- From NORMAL (R9). -/
theorem leaves_normal (hz : l.zstate = .normal) (hbase : l.formed = base) (hc : base.lclass = c) :
    (l.evaluated now boost).plain = (ruleNormal now boost c base).plain := by
  rw [LineRecord.plain_evaluated, moved_normal hz, hbase, hc]

/-- From PENDING (R10). -/
theorem leaves_pending (hz : l.zstate = .pending) (hbase : l.formed = base) (hc : base.lclass = c) :
    (l.evaluated now boost).plain = (rulePending now c base).plain := by
  rw [LineRecord.plain_evaluated, moved_pending hz, hbase, hc]

/-- From ALARM (R11). -/
theorem leaves_alarm (hz : l.zstate = .alarm) (hbase : l.formed = base) (hc : base.lclass = c) :
    (l.evaluated now boost).plain = (ruleAlarm now c base).plain := by
  rw [LineRecord.plain_evaluated, moved_alarm hz, hbase, hc]

/-- From CLEARING (R12). -/
theorem leaves_clearing (hz : l.zstate = .clearing) (hbase : l.formed = base) (hc : base.lclass = c) :
    (l.evaluated now boost).plain = (ruleClearing now c base).plain := by
  rw [LineRecord.plain_evaluated, moved_clearing hz, hbase, hc]

/-- From TROUBLE (R13). -/
theorem leaves_trouble (hz : l.zstate = .trouble) (hbase : l.formed = base) (hc : base.lclass = c) :
    (l.evaluated now boost).plain = (ruleTrouble now boost c base).plain := by
  rw [LineRecord.plain_evaluated, moved_trouble hz, hbase, hc]

/-- From DISABLED: the zone takes no part. -/
theorem leaves_disabled (hz : l.zstate = .disabled) (hbase : l.formed = base) :
    (l.evaluated now boost).plain = base.plain := by
  rw [LineRecord.plain_evaluated, moved_disabled hz, hbase]

/-! ### The repeat count (R16, R17) -/

/-- An evaluation confirms an alarm. -/
def LineRecord.confirms (now : Nat) (boost : Bool) (l : LineRecord) : Bool :=
  decide (l.zstate = .pending) && decide ((l.evaluated now boost).zstate = .alarm)

/-- The repeat count before the decay. -/
def LineRecord.raisedCount (now : Nat) (boost : Bool) (l : LineRecord) : Nat :=
  if l.confirms now boost then min 15 (l.repeatCount + 1) else l.repeatCount

/-- RECURRING before the decay. -/
def LineRecord.raisedRecurring (now : Nat) (boost : Bool) (l : LineRecord) : Bool :=
  l.recurring || (l.confirms now boost && decide (3 ≤ l.raisedCount now boost))

theorem confirms_iff : l.confirms now boost = true ↔ l.zstate = .pending ∧ (l.moved now boost).zstate = .alarm := by
  rw [LineRecord.confirms, LineRecord.zstate_evaluated, Bool.and_eq_true, decide_eq_true_eq, decide_eq_true_eq]

/-- What the rule of the zone state leaves of the repeat count, RECURRING and the decay timer. -/
theorem moved_counts (now : Nat) (boost : Bool) (l : LineRecord) :
    (l.moved now boost).repeatCount = l.raisedCount now boost ∧
    (l.moved now boost).recurring = l.raisedRecurring now boost ∧
    (l.moved now boost).decayTimer = l.decayTimer := by
  have h := countsMoved_moved now boost l
  unfold LineRecord.raisedRecurring LineRecord.raisedCount
  by_cases hr : l.confirms now boost = true
  · obtain ⟨hp, ha⟩ := confirms_iff.mp hr
    obtain ⟨hcount, hrec⟩ := h.raised hp ha
    rw [if_pos hr, hr, Bool.true_and]
    exact ⟨hcount, hrec, h.decay⟩
  · obtain ⟨hcount, hrec⟩ := h.kept fun hm => hr (confirms_iff.mpr hm)
    rw [if_neg hr, Bool.eq_false_iff.mpr hr, Bool.false_and, Bool.or_false]
    exact ⟨hcount, hrec, h.decay⟩

theorem quiet_moved : (l.moved now boost).Quiet ↔ ((l.evaluated now boost).zstate = .normal ∨
    (l.evaluated now boost).zstate = .trouble) ∧ 1 ≤ l.raisedCount now boost := by
  rw [LineRecord.zstate_evaluated, ← (moved_counts now boost l).1]

theorem evaluated_repeatCount : (l.evaluated now boost).repeatCount = (decayRule now (l.moved now boost)).repeatCount :=
  LineRecord.evaluated_field (·.repeatCount) (fun _ _ => rfl) ..

theorem evaluated_recurring : (l.evaluated now boost).recurring = (decayRule now (l.moved now boost)).recurring :=
  LineRecord.evaluated_field (·.recurring) (fun _ _ => rfl) ..

theorem evaluated_decayTimer : (l.evaluated now boost).decayTimer = (decayRule now (l.moved now boost)).decayTimer :=
  LineRecord.evaluated_field (·.decayTimer) (fun _ _ => rfl) ..

/-- The zone is left in no state in which the decay timer runs. -/
theorem evaluated_counts_notQuiet (h : ¬(l.moved now boost).Quiet) :
    (l.evaluated now boost).repeatCount = l.raisedCount now boost ∧
    (l.evaluated now boost).recurring = l.raisedRecurring now boost ∧ (l.evaluated now boost).decayTimer = none := by
  obtain ⟨hcount, hrec, -⟩ := moved_counts now boost l
  rw [evaluated_repeatCount, evaluated_recurring, evaluated_decayTimer, decayRule_notQuiet h]
  exact ⟨hcount, hrec, rfl⟩

/-- The decay timer is found expired. -/
theorem evaluated_counts_due (h : (l.moved now boost).Quiet) (hd : timerDue now 120000 l.decayTimer = true) :
    (l.evaluated now boost).repeatCount = l.raisedCount now boost - 1 ∧
    (l.evaluated now boost).recurring = (l.raisedRecurring now boost && decide (2 ≤ l.raisedCount now boost)) ∧
    (l.evaluated now boost).decayTimer = if 2 ≤ l.raisedCount now boost then some now else none := by
  obtain ⟨hcount, hrec, hdecay⟩ := moved_counts now boost l
  rw [evaluated_repeatCount, evaluated_recurring, evaluated_decayTimer, decayRule_due h (by rw [hdecay]; exact hd),
    ← hcount, ← hrec]
  exact ⟨rfl, rfl, rfl⟩

/-- The decay timer runs on. -/
theorem evaluated_counts_running (h : (l.moved now boost).Quiet) (hd : timerDue now 120000 l.decayTimer = false) :
    (l.evaluated now boost).repeatCount = l.raisedCount now boost ∧
    (l.evaluated now boost).recurring = l.raisedRecurring now boost ∧
    (l.evaluated now boost).decayTimer = some (l.decayTimer.getD now) := by
  obtain ⟨hcount, hrec, hdecay⟩ := moved_counts now boost l
  rw [evaluated_repeatCount, evaluated_recurring, evaluated_decayTimer, decayRule_running h (by rw [hdecay]; exact hd),
    ← hdecay]
  exact ⟨hcount, hrec, rfl⟩

/-! ### The moves written out -/

/-- The record as it enters PENDING from `l`. -/
def LineRecord.enters (now : Nat) (boost : Bool) (l base : LineRecord) : LineRecord :=
  { base with
    zstate := .pending, trouble := if l.zstate = .trouble then none else l.trouble
    troubleTimer := if l.zstate = .normal then none else l.troubleTimer
    holdTimer := if l.zstate = .trouble then none else l.holdTimer
    confirmTimer := some now, boosted := boost
    confirmLength := if boost then l.ztype.boostedConfirm else l.ztype.confirm }

theorem ruleNormal_alarm (hz : l.zstate = .normal) (hbase : l.formed = base) :
    ruleNormal now boost .alarm base = l.enters now boost base := by
  subst hbase
  simp only [LineRecord.enters, hz]
  rfl

theorem ruleTrouble_alarm (hz : l.zstate = .trouble) (hbase : l.formed = base) :
    ruleTrouble now boost .alarm base = l.enters now boost base := by
  subst hbase
  simp only [LineRecord.enters, hz]
  rfl

theorem timerDue_of_le {now length b : Nat} {t : Option Nat} (ht : t = some b) (h : length ≤ now - b) :
    timerDue now length t = true := by
  rw [ht, timerDue_some, decide_eq_true h]

theorem timerDue_of_lt {now length b : Nat} {t : Option Nat} (ht : t = some b) (h : now - b < length) :
    timerDue now length t = false := by
  rw [ht, timerDue_some, decide_eq_false (by omega)]

theorem ruleNormal_starts (hf : c = .openLoop ∨ c = .short) (ht : l.troubleTimer = none) :
    ruleNormal now boost c l = { l with troubleTimer := some now } := by
  rw [ruleNormal_fault hf, ht]

theorem ruleNormal_expires (hf : c = .openLoop ∨ c = .short) (hd : timerDue now 5000 l.troubleTimer = true) :
    ruleNormal now boost c l = { l with zstate := .trouble, trouble := faultKind c, troubleTimer := none } := by
  rw [ruleNormal_fault hf]
  split
  · rename_i ht; rw [ht] at hd; exact Bool.noConfusion hd
  · exact if_pos hd

theorem ruleNormal_waits {b : Nat} (hf : c = .openLoop ∨ c = .short) (ht : l.troubleTimer = some b)
    (hd : timerDue now 5000 l.troubleTimer = false) : ruleNormal now boost c l = l := by
  rw [ruleNormal_fault hf]
  split
  · rename_i hn; rw [hn] at ht; cases ht
  · exact if_neg (Bool.eq_false_iff.mp hd)

theorem rulePending_confirms (hd : timerDue now l.confirmLength l.confirmTimer = true) :
    rulePending now .alarm l = { l.leavePending.raiseRepeat with zstate := .alarm, episodeStart := some now } := if_pos hd

theorem rulePending_waits (hd : timerDue now l.confirmLength l.confirmTimer = false) : rulePending now .alarm l = l :=
  if_neg (Bool.eq_false_iff.mp hd)

theorem ruleClearing_restores (hd : timerDue now l.ztype.restore l.restoreTimer = true) :
    ruleClearing now .normal l = { l with zstate := .normal, restoreTimer := none, episodeStart := none } := if_pos hd

theorem ruleClearing_waits (hd : timerDue now l.ztype.restore l.restoreTimer = false) : ruleClearing now .normal l = l :=
  if_neg (Bool.eq_false_iff.mp hd)

theorem ruleTrouble_starts (ht : l.holdTimer = none) :
    ruleTrouble now boost .normal l = { l with holdTimer := some now } := by
  unfold ruleTrouble
  simp only [ht]

theorem ruleTrouble_expires (hd : timerDue now 5000 l.holdTimer = true) :
    ruleTrouble now boost .normal l = { l with zstate := .normal, trouble := none, holdTimer := none } := by
  unfold ruleTrouble
  dsimp only
  split
  · rename_i ht; rw [ht] at hd; exact Bool.noConfusion hd
  · exact if_pos hd

theorem ruleTrouble_waits {b : Nat} (ht : l.holdTimer = some b) (hd : timerDue now 5000 l.holdTimer = false) :
    ruleTrouble now boost .normal l = l := by
  unfold ruleTrouble
  dsimp only
  split
  · rename_i hn; rw [hn] at ht; cases ht
  · exact if_neg (Bool.eq_false_iff.mp hd)

end

end Sys2Proof.Machine
end

section
/-! SUPPORT. The end of an event by what it leaves; and the evaluation of a line as a change of the station: the line, its
own entry, the boosts, the ALARM mark, and what stays (R8, R20, R21, R23). -/

namespace Sys2Proof.Machine

open Sys2Proof

/-! ### The end of an event -/

theorem endsAs_settle (before s : State) : EndsAs s (settle before s) :=
  ((((inner_settleTransfers s).trans (inner_selectBoth before _)).endsAs.trans (endsAs_arbitrate .a _)).trans
    (endsAs_arbitrate .b _)).trans (inner_settleTransfers _).endsAs

namespace EndsAs

variable {u t : State}

theorem clock (h : EndsAs u t) : t.clock = u.clock := congrArg (·.clock) h.lasting

theorem address (h : EndsAs u t) : t.address = u.address := congrArg (·.address) h.lasting

theorem starting (h : EndsAs u t) : t.starting = u.starting := congrArg (·.starting) h.lasting

theorem noConfig (h : EndsAs u t) : t.noConfig = u.noConfig := congrArg (·.noConfig) h.lasting

theorem zones (h : EndsAs u t) : t.zones = u.zones := congrArg (·.zones) h.lasting

theorem picture (h : EndsAs u t) : t.picture = u.picture := congrArg (·.picture) h.lasting

theorem peers (h : EndsAs u t) : t.peers = u.peers := congrArg (·.peers) h.lasting

theorem holders (h : EndsAs u t) : t.holders = u.holders := congrArg (·.holders) h.lasting

theorem marks (h : EndsAs u t) : t.marks = u.marks := congrArg (·.marks) h.lasting

theorem alarmPending (h : EndsAs u t) : t.rlc.alarmPending = u.rlc.alarmPending := congrArg (·.rlc.alarmPending) h.lasting

theorem phase (h : EndsAs u t) : t.rlc.phase = u.rlc.phase := congrArg (·.rlc.phase) h.lasting

theorem joinTimer (h : EndsAs u t) : t.rlc.joinTimer = u.rlc.joinTimer := congrArg (·.rlc.joinTimer) h.lasting

theorem blocks (h : EndsAs u t) : t.rlc.blocks = u.rlc.blocks := congrArg (·.rlc.blocks) h.lasting

theorem openA (h : EndsAs u t) : t.portA.isOpen = u.portA.isOpen := congrArg (·.portA.isOpen) h.lasting

theorem openB (h : EndsAs u t) : t.portB.isOpen = u.portB.isOpen := congrArg (·.portB.isOpen) h.lasting

theorem ready (h : EndsAs u t) : t.store.ready = u.store.ready := congrArg (·.store.ready) h.lasting

theorem image (h : EndsAs u t) : t.store.image = u.store.image := congrArg (·.store.image) h.lasting

theorem sheets (h : EndsAs u t) : t.store.sheets = u.store.sheets := congrArg (·.store.sheets) h.lasting

theorem counts (h : EndsAs u t) : t.store.counts = u.store.counts := congrArg (·.store.counts) h.lasting

theorem memory (h : EndsAs u t) : t.store.memory = u.store.memory := congrArg (·.store.memory) h.lasting

theorem ownOrigin (h : EndsAs u t) : t.ownOrigin = u.ownOrigin := by rw [State.ownOrigin, h.address, State.ownOrigin]

theorem line (h : EndsAs u t) (i : Nat) : t.line i = u.line i := State.line_congr h.zones i

theorem entry (h : EndsAs u t) (o l : Nat) : t.entry o l = u.entry o l := State.slot_congr h.picture _

theorem floor (h : EndsAs u t) (f : Nat) : t.floor f = u.floor f := State.floor_congr h.picture f

end EndsAs

/-! ### One own entry written -/

/-- The write of a line's own entry stands after its event, and the line takes no boost from it (R21). -/
theorem lineKept_ownChange {i : Nat} (hi : i < 16) (e : ZoneEntry) (s : State) :
    LineKept i (s.setEntry s.ownOrigin i e)
      (pictureEvent [{ origin := s.ownOrigin, line := i, new := e }] [] [] s) := by
  obtain ⟨u, rfl, hr⟩ := pictureEvent_recomputed [{ origin := s.ownOrigin, line := i, new := e }] [] [] s
  have hk : LineKept i (s.setEntry s.ownOrigin i e)
      (signalEntry s.ownOrigin i (s.entry s.ownOrigin i) e (s.setEntry s.ownOrigin i e)) :=
    lineKept_signalEntry hi (s.entry s.ownOrigin i) e (s.setEntry s.ownOrigin i e)
  refine ⟨(State.line_congr hr.zones i).trans hk.line, ?_⟩
  rw [State.slot, hr.entries]
  exact hk.entry

/-! ### The boost at entry to PENDING (R20) -/

theorem ZoneType.isFire_iff (t : ZoneType) : t.isFire = true ↔ t = .detector ∨ t = .callpoint ∨ t = .flow := by
  cases t <;> decide

/-- The other entry that R20 asks for: KNOWN, of a fire type, in ALARM, on the floor or a neighbouring one. -/
theorem boostsFloor_iff (f : Nat) (e : ZoneEntry) : boostsFloor f e = true ↔ e.known = true ∧
    (e.ztype = .detector ∨ e.ztype = .callpoint ∨ e.ztype = .flow) ∧ e.zstate = .alarm ∧ e.floor ≤ f + 1 ∧
    f ≤ e.floor + 1 := by
  simp only [boostsFloor, Bool.and_eq_true, decide_eq_true_eq, ZoneType.isFire_iff, and_assoc]

/-- The places of the picture are those of origins 0 to 62 and lines 0 to 15. -/
theorem exists_place_iff {p : Nat → Prop} : (∃ n < 1008, p n) ↔ ∃ o ≤ 62, ∃ j ≤ 15, p (entryIndex o j) := by
  constructor
  · rintro ⟨n, hn, hp⟩
    refine ⟨n / 16, by omega, n % 16, by omega, ?_⟩
    rw [entryIndex, show 16 * (n / 16) + n % 16 = n by omega]
    exact hp
  · rintro ⟨o, ho, j, hj, hp⟩
    exact ⟨entryIndex o j, by unfold entryIndex; omega, hp⟩

theorem boostApplies_iff_slot (i : Nat) (s : State) : s.boostApplies i = true ↔ (s.line i).ztype.isFire = true ∧
    ∃ n < 1008, n ≠ entryIndex s.ownOrigin i ∧ boostsFloor (s.line i).floor (s.slot n) = true := by
  have hget : ∀ {n : Nat} (hn : n < s.picture.entries.toList.length), s.picture.entries.toList[n] = s.slot n := by
    intro n hn
    rw [State.slot, tget, List.getD_eq_getElem _ _ hn]
  rw [State.boostApplies, Bool.and_eq_true, List.any_eq_true]
  refine and_congr_right fun _ => ⟨?_, ?_⟩
  · rintro ⟨⟨e, n⟩, hmem, hx⟩
    obtain ⟨hn, he⟩ := List.mem_zipIdx' hmem
    rw [Bool.and_eq_true, decide_eq_true_eq] at hx
    obtain ⟨hne, hb⟩ := hx
    refine ⟨n, by simpa using hn, hne, ?_⟩
    rw [← hget hn, ← he]
    exact hb
  · rintro ⟨n, hn, hne, hb⟩
    have hlt : n < s.picture.entries.toList.length := by simpa using hn
    refine ⟨(s.slot n, n), ?_, by rw [Bool.and_eq_true, decide_eq_true_eq]; exact ⟨hne, hb⟩⟩
    rw [← hget hlt]
    exact List.mk_mem_zipIdx_iff_getElem?.mpr (List.getElem?_eq_getElem hlt)

theorem entryIndex_inj {o o' l l' : Nat} (hl : l ≤ 15) (hl' : l' ≤ 15) : entryIndex o l = entryIndex o' l' ↔
    (o, l) = (o', l') := by
  rw [Prod.mk.injEq, entryIndex, entryIndex]
  omega

/-- The boost applies at entry to PENDING (R20). -/
theorem boostApplies_iff {i : Nat} (hi : i < 16) (s : State) : s.boostApplies i = true ↔
    ((s.line i).ztype = .detector ∨ (s.line i).ztype = .callpoint ∨ (s.line i).ztype = .flow) ∧
    ∃ o ≤ 62, ∃ j ≤ 15, ∃ e, e = s.entry o j ∧ (o, j) ≠ (s.ownOrigin, i) ∧ e.known = true ∧
      (e.ztype = .detector ∨ e.ztype = .callpoint ∨ e.ztype = .flow) ∧ e.zstate = .alarm ∧
      e.floor ≤ (s.line i).floor + 1 ∧ (s.line i).floor ≤ e.floor + 1 := by
  rw [boostApplies_iff_slot, ZoneType.isFire_iff, exists_place_iff]
  refine and_congr_right fun _ => exists_congr fun o => and_congr_right fun _ => exists_congr fun j =>
    and_congr_right fun hj => ?_
  rw [exists_eq_left, Ne, entryIndex_inj hj (Nat.lt_succ_iff.mp hi), boostsFloor_iff]
  rfl

/-- Whether the boost applies is a matter of the line's type and floor, and of the other entries. -/
theorem boostApplies_congr {i : Nat} {s t : State} (hp : t.picture = s.picture) (ho : t.ownOrigin = s.ownOrigin)
    (ht : (t.line i).ztype = (s.line i).ztype) (hf : (t.line i).floor = (s.line i).floor) :
    t.boostApplies i = s.boostApplies i := by
  rw [State.boostApplies, hp, ho, ht, hf, State.boostApplies]

/-! ### One evaluation of a line -/

/-- Between `s` and `t` line `i`, whose record with its sample is `k`, has been evaluated, and its own entry written. -/
structure Evaluates (i : Nat) (k : LineRecord) (s t : State) : Prop where
  only : OnlyPicture s t
  line : t.line i = k.evaluated s.clock (s.boostApplies i)
  lines : OtherLinesKept i s t
  entry : t.entry s.ownOrigin i =
    ownEntryOf s.clock (t.line i) (reportableDiffers k (t.line i)) (s.entry s.ownOrigin i)
  others : ∀ o l, o ≠ s.ownOrigin → l < 16 → t.entry o l = s.entry o l
  alarm : reportableDiffers k (t.line i) = true → t.rlc.alarmPending = true

theorem OnlyPicture.endsAs {s u t : State} (h : OnlyPicture s u) (g : EndsAs u t) : OnlyPicture s t where
  rest := by rw [g.lasting]; exact h.rest
  labels f hf := by rw [g.floor]; exact h.labels f hf
  attendance f hf := by rw [g.floor]; exact h.attendance f hf

/-- What an evaluation gives stands at the end of its event. -/
theorem Evaluates.endsAs {i : Nat} {k : LineRecord} {s u t : State} (h : Evaluates i k s u) (g : EndsAs u t) :
    Evaluates i k s t where
  only := h.only.endsAs g
  line := by rw [g.line]; exact h.line
  lines j hj hne := by rw [g.line]; exact h.lines j hj hne
  entry := by rw [g.entry, g.line]; exact h.entry
  others o l ho hl := by rw [g.entry]; exact h.others o l ho hl
  alarm := by rw [g.line, g.alarmPending]; exact h.alarm

/-- The write of an own entry as an event of the picture. -/
theorem evaluates_writeOwn {i : Nat} (hi : i < 16) {k l : LineRecord} {s : State}
    (hl : l = k.evaluated s.clock (s.boostApplies i)) :
    Evaluates i k s (writeOwn i (reportableDiffers k l) (s.setLine i l)) := by
  obtain ⟨v, hv⟩ : ∃ v, v = (s.setLine i l).raisedIf (reportableDiffers k l) := ⟨_, rfl⟩
  have hrest : RestKept s v := by
    rw [hv, State.raisedIf]
    split
    · exact (restKept_setLine i l s).trans (restKept_markAlarm _)
    · exact restKept_setLine i l s
  have hzones : v.zones = (s.setLine i l).zones := by rw [hv]; exact raisedIf_zones ..
  have hpicture : v.picture = s.picture := by rw [hv]; cases reportableDiffers k l <;> rfl
  have hsame : (s.setLine i l).line i = l := State.setLine_line_same hi l s
  have hown : writeOwn i (reportableDiffers k l) (s.setLine i l) = pictureEvent
      [{ origin := v.ownOrigin, line := i, new := ownEntryOf s.clock l (reportableDiffers k l) (s.entry s.ownOrigin i) }]
      [] [] v := by
    rw [writeOwn_eq, hsame, hrest.ownOrigin, hv]; rfl
  have hslot : ∀ n, v.slot n = s.slot n := State.slot_congr hpicture
  rw [hown]
  generalize hnew : ownEntryOf s.clock l (reportableDiffers k l) (s.entry s.ownOrigin i) = new
  have hkept := lineKept_ownChange hi new v
  have hline : (pictureEvent [{ origin := v.ownOrigin, line := i, new := new }] [] [] v).line i = l := by
    rw [hkept.line]; exact (State.line_congr hzones i).trans hsame
  refine ⟨⟨(hrest.trans (restKept_pictureEvent ..)).lasting, fun f hf => ?_, fun f hf => ?_⟩, hline.trans hl,
    fun j hj hne => ?_, ?_, fun o n ho hn => ?_, fun hr => ?_⟩
  · rw [pictureEvent_label _ _ _ v hf, State.floor_congr hpicture]; rfl
  · rw [pictureEvent_attendance _ _ v hf, State.floor_congr hpicture]
  · have hj' : v.line j = s.line j := (State.line_congr hzones j).trans (State.setLine_line_ne (Ne.symm hne) l s)
    rw [← hj']
    exact (pictureEvent_line_cases _ _ _ v hj).imp id fun h => h.2
  · rw [hline, hnew, ← hrest.ownOrigin]
    exact hkept.entry.trans (State.slot_setEntry_same (v.ownIndex_lt hi) new v)
  · have hrow : ∀ j < 16, entryIndex o n ≠ entryIndex v.ownOrigin j := fun j hj =>
      entryIndex_ne hn hj (by rw [hrest.ownOrigin]; exact ho)
    refine (pictureEvent_slot _ _ _ _ hrow).trans ((writeEntries_slot_other (fun c hc => ?_) v).trans (hslot _))
    rw [List.mem_singleton.mp hc]
    exact (hrow i hi).symm
  · rw [hline] at hr
    exact pictureEvent_alarm _ _ _ (by rw [hv, hr]; rfl)

theorem State.setLine_setLine (i : Nat) (k l : LineRecord) (s : State) : (s.setLine i k).setLine i l = s.setLine i l := by
  have htable : tset (tset s.zones.lines i k) i l = tset s.zones.lines i l := by
    apply Vector.toList_inj.mp
    rw [tset_toList, tset_toList, List.set_set, tset_toList]
  simp only [State.setLine, State.modZones, htable]

/-- The evaluation of a line whose record was just written, its type and floor kept. -/
theorem evaluates_evaluateLine {i : Nat} (hi : i < 16) {k : LineRecord} {s : State} (ht : k.ztype = (s.line i).ztype)
    (hf : k.floor = (s.line i).floor) : Evaluates i k s (evaluateLine i (s.setLine i k)) := by
  have hsame : (s.setLine i k).line i = k := State.setLine_line_same hi k s
  have hboost : (s.setLine i k).boostApplies i = s.boostApplies i :=
    boostApplies_congr rfl rfl (by rw [hsame, ht]) (by rw [hsame, hf])
  unfold evaluateLine
  extract_lets old new
  have hnew : new = k.evaluated s.clock (s.boostApplies i) := by
    change ((s.setLine i k).line i).evaluated s.clock ((s.setLine i k).boostApplies i) = _
    rw [hboost, hsame]
  rw [show old = k from hsame, State.setLine_setLine]
  exact evaluates_writeOwn hi hnew

end Sys2Proof.Machine
end

section
/-! SUPPORT. The sample of a line: what it does to the station; the five timer expiries an evaluation finds (R9, R10, R12,
R13, R17). -/

namespace Sys2Proof.Machine

open Sys2Proof

/-! ### The sample of a line (R2, R3) -/

section

variable {i v : Nat} {s : State}

theorem lineEnabled_push (hi : i < 16) : (s.setLine i ((s.line i).push s.clock v)).lineEnabled i = s.lineEnabled i := by
  rw [State.lineEnabled, State.setLine_line_same hi]
  rfl

theorem sampleLine_due (hi : i < 16) (hdue : (s.markDue i && s.lineSampled i) = true) : sampleLine i v s =
    if s.lineEnabled i = true ∧ ((s.line i).push s.clock v).history.length = 4 then
      evaluateLine i (s.setLine i ((s.line i).push s.clock v))
    else s.setLine i ((s.line i).push s.clock v) := by
  unfold sampleLine
  rw [if_pos hdue]
  simp only [lineEnabled_push hi, State.setLine_line_same hi, Bool.and_eq_true, decide_eq_true_eq]

/-- A sample that starts no evaluation joins the history, and that is all. -/
theorem sampleLine_joins (hi : i < 16) (hdue : (s.markDue i && s.lineSampled i) = true)
    (h : ¬(s.lineEnabled i = true ∧ ((s.line i).push s.clock v).history.length = 4)) :
    sampleLine i v s = s.setLine i ((s.line i).push s.clock v) := by
  rw [sampleLine_due hi hdue, if_neg h]

/-- A sample that completes an enabled line's history evaluates the line. -/
theorem sampleLine_evaluates (hi : i < 16) (hdue : (s.markDue i && s.lineSampled i) = true)
    (h : s.lineEnabled i = true ∧ ((s.line i).push s.clock v).history.length = 4) :
    Evaluates i ((s.line i).push s.clock v) s (sampleLine i v s) := by
  rw [sampleLine_due hi hdue, if_pos h]
  exact evaluates_evaluateLine hi rfl rfl

theorem lineSampled_of_enabled (h : s.lineEnabled i = true) : s.lineSampled i = true := by
  rw [State.lineSampled, h, Bool.or_true]

theorem samplingReady_running (h : s.starting = false) : samplingReady s = s := by
  rw [samplingReady, h]; rfl

theorem OnlyPicture.starting {s t : State} (h : OnlyPicture s t) : t.starting = s.starting := congrArg (·.starting) h.rest

/-- A timer's expiry is the sample of the evaluation that finds it (log 8). -/
theorem expiry_evaluates (hi : i < 16) {test : LineRecord → LineClass → Bool} (h : s.evaluates i v)
    (htest : test ((s.line i).push s.clock v) (s.classFound i v) = true) :
    ∃ t, event (sampleWhen i v test) s = .next t ∧ Evaluates i ((s.line i).push s.clock v) s t := by
  obtain ⟨hheld, hstarting, hdue, henabled, hfour⟩ := h
  have hev := sampleLine_evaluates hi (by rw [hdue, lineSampled_of_enabled henabled]; rfl) ⟨henabled, hfour⟩
  have hfinds : s.evaluationFinds i v = some ((s.line i).push s.clock v, s.classFound i v) := by
    unfold State.evaluationFinds
    dsimp only
    rw [if_pos (by rw [hdue, henabled, decide_eq_true hfour]; rfl)]
    rfl
  have hwhen : sampleWhen i v test s = sampleLine i v s := by
    unfold sampleWhen
    rw [hfinds]
    dsimp only
    rw [if_pos htest, samplingReady_running (hev.only.starting.trans hstarting)]
  exact ⟨_, by rw [event_running hheld, hwhen], hev.endsAs (endsAs_settle ..)⟩

end

/-! ### What an evaluation that finds an expiry leaves -/

section

variable {now : Nat} {boost : Bool} {l : LineRecord}

/-- A reportable item that differs raises the change number (R22). -/
theorem raised_of_ne (h : (l.evaluated now boost).zstate ≠ l.zstate ∨ (l.evaluated now boost).repeatCount ≠ l.repeatCount) :
    (l.evaluated now boost).changeNumber = (l.changeNumber + 1) % 65536 ∧
    reportableDiffers l (l.evaluated now boost) = true := by
  have hnumber : (l.evaluated now boost).changeNumber = (l.changeNumber + 1) % 65536 := by
    rw [LineRecord.evaluated_changeNumber, if_neg]
    rintro ⟨hz, -, -, -, -, hr⟩
    exact h.elim (fun hne => hne hz) fun hne => hne hr
  refine ⟨hnumber, (LineRecord.evaluated_raised now boost l).mpr ?_⟩
  rw [hnumber]
  omega

/-- An evaluation that finds NORMAL or TROUBLE and no alarm leaves the zone in one of the two. -/
theorem stateRule_quiet {c : LineClass} (hz : l.zstate = .normal ∨ l.zstate = .trouble) (hc : c ≠ .alarm) :
    (stateRule now boost c l).zstate = .normal ∨ (stateRule now boost c l).zstate = .trouble := by
  unfold stateRule
  rcases hz with hz | hz
  · rw [hz]
    dsimp only
    unfold ruleNormal
    split
    · exact absurd rfl hc
    · exact .inl hz
    all_goals
      split
      · exact .inl hz
      · split
        · exact .inr rfl
        · exact .inl hz
  · rw [hz]
    dsimp only
    unfold ruleTrouble
    split
    · exact absurd rfl hc
    · split
      · exact .inr hz
      · split
        · exact .inl rfl
        · exact .inr hz
    all_goals exact .inr hz

/-- What a confirmed alarm leaves of the counts (R16, R17). -/
theorem evaluated_counts_confirmed (hz : l.zstate = .pending) (ha : (l.evaluated now boost).zstate = .alarm) :
    (l.evaluated now boost).repeatCount = min 15 (l.repeatCount + 1) ∧
    (l.evaluated now boost).recurring = (l.recurring || decide (3 ≤ min 15 (l.repeatCount + 1))) ∧
    (l.evaluated now boost).decayTimer = none := by
  have hconfirms : l.confirms now boost = true := by rw [LineRecord.confirms, ha, hz]; rfl
  have hnotQuiet : ¬(l.moved now boost).Quiet := by
    rintro ⟨hq, -⟩
    rw [← LineRecord.zstate_evaluated, ha] at hq
    exact hq.elim ZoneState.noConfusion ZoneState.noConfusion
  have h := evaluated_counts_notQuiet hnotQuiet
  rwa [LineRecord.raisedRecurring, LineRecord.raisedCount, if_pos hconfirms, hconfirms, Bool.true_and] at h

/-- What the decay timer's expiry leaves of the counts (R17). -/
theorem evaluated_counts_decayed (hz : l.zstate = .normal ∨ l.zstate = .trouble) (hc : l.formed.lclass ≠ .alarm)
    (hr : 1 ≤ l.repeatCount) (hd : timerDue now 120000 l.decayTimer = true) :
    (l.evaluated now boost).repeatCount = l.repeatCount - 1 ∧
    (l.evaluated now boost).recurring = (l.recurring && decide (2 ≤ l.repeatCount)) ∧
    (l.evaluated now boost).decayTimer = if 2 ≤ l.repeatCount then some now else none := by
  have hstays : (l.evaluated now boost).zstate = .normal ∨ (l.evaluated now boost).zstate = .trouble := by
    rw [LineRecord.zstate_evaluated]
    exact stateRule_quiet (l := l.formed) hz hc
  have hconfirms : l.confirms now boost = false := by
    rw [LineRecord.confirms, Bool.and_eq_false_iff, decide_eq_false_iff_not, decide_eq_false_iff_not]
    exact .inr fun ha => by rw [ha] at hstays; exact hstays.elim ZoneState.noConfusion ZoneState.noConfusion
  have hcount : l.raisedCount now boost = l.repeatCount := by
    rw [LineRecord.raisedCount, hconfirms, if_neg Bool.false_ne_true]
  have h := evaluated_counts_due (quiet_moved.mpr ⟨hstays, by rw [hcount]; exact hr⟩) hd
  rwa [LineRecord.raisedRecurring, hconfirms, Bool.false_and, Bool.or_false, hcount] at h

/-- The decay timer's row stands where the evaluation leaves a quiet zone and finds the timer expired. -/
theorem decayDue_of_quiet {c : LineClass} (hz : l.zstate = .normal ∨ l.zstate = .trouble) (hc : c ≠ .alarm)
    (hr : 1 ≤ l.repeatCount) (hd : timerDue now 120000 l.decayTimer = true) : decayDue now boost l c = true := by
  have hcounts := countsMoved_stateRule now boost c l
  have hp : ¬(l.zstate = .pending ∧ (stateRule now boost c l).zstate = .alarm) := by
    rintro ⟨h, -⟩
    rw [h] at hz
    exact hz.elim ZoneState.noConfusion ZoneState.noConfusion
  unfold decayDue
  dsimp only
  rw [(hcounts.kept hp).1, hcounts.decay, Bool.and_eq_true, Bool.and_eq_true, Bool.or_eq_true, decide_eq_true_eq,
    decide_eq_true_eq, decide_eq_true_eq]
  exact ⟨⟨stateRule_quiet hz hc, hr⟩, hd⟩

end

/-- An expiry found by an evaluation that changes the zone state or the repeat count: the line as evaluated, its change
number raised, its own entry written from it without acknowledgement, and the ALARM mark set (R22, R23, log 8). -/
theorem expiry_raises {i v : Nat} {s : State} (hi : i < 16) {test : LineRecord → LineClass → Bool} (h : s.evaluates i v)
    {k e : LineRecord} (hk : k = (s.line i).push s.clock v) (he : e = k.evaluated s.clock (s.boostApplies i))
    (htest : test k (s.classFound i v) = true) (hne : e.zstate ≠ k.zstate ∨ e.repeatCount ≠ k.repeatCount) :
    ∃ t, event (sampleWhen i v test) s = .next t ∧ OnlyPicture s t ∧ OtherLinesKept i s t ∧ t.line i = e ∧
      e.changeNumber = ((s.line i).changeNumber + 1) % 65536 ∧
      t.entry s.ownOrigin i = ownEntryOf s.clock e true (s.entry s.ownOrigin i) ∧ t.rlc.alarmPending = true := by
  subst hk he
  obtain ⟨t, ht, hev⟩ := expiry_evaluates hi h htest
  obtain ⟨hnumber, hdiffers⟩ := raised_of_ne hne
  refine ⟨t, ht, hev.only, hev.lines, hev.line, hnumber, ?_, hev.alarm (by rw [hev.line]; exact hdiffers)⟩
  rw [hev.entry, hev.line, hdiffers]

end Sys2Proof.Machine

open Sys2Proof Sys2Proof.Machine

/-- Settles O23: each expiry is the sample of an evaluation that takes one known branch of its zone state's rule. -/
theorem zoneTimersExpire : Obligations.ZoneTimersExpire := by
  intro i v s h
  obtain ⟨k, hk⟩ : ∃ k, k = (s.line i.val).push s.clock v.toNat := ⟨_, rfl⟩
  obtain ⟨e, he⟩ : ∃ e, e = k.evaluated s.clock (s.boostApplies i.val) := ⟨_, rfl⟩
  have hclass : k.formed.lclass = s.classFound i.val v.toNat := by rw [hk]; rfl
  have hz : k.zstate = (s.line i.val).zstate := by rw [hk]; rfl
  have hcount : k.repeatCount = (s.line i.val).repeatCount := by rw [hk]; rfl
  have hrecurring : k.recurring = (s.line i.val).recurring := by rw [hk]; rfl
  refine ⟨fun hstate hc hd => ?_, fun hstate hc hd => ?_, fun hstate hc hd => ?_, fun hstate hc hd => ?_,
    fun hstate hc hr hd => ?_⟩
  · have hleaves : e.plain = (rulePending s.clock .alarm k.formed).plain := by
      rw [he, leaves_pending (hz.trans hstate) rfl (hclass.trans hc)]
    rw [rulePending_confirms (by rw [hk]; exact hd)] at hleaves
    have hzstate : e.zstate = .alarm := congrArg (·.zstate) hleaves
    obtain ⟨hrepeat, hrec, hdecay⟩ := evaluated_counts_confirmed (hz.trans hstate) (he ▸ hzstate)
    rw [← he, hcount] at hrepeat
    rw [← he, hcount, hrecurring] at hrec
    rw [← he] at hdecay
    obtain ⟨t, ht, honly, hothers, hline, hnumber, hentry, halarm⟩ := expiry_raises i.isLt (test := confirmDue s.clock) h hk he
      (by rw [confirmDue, hz, hstate, hc, hk]; exact hd) (.inl (by rw [hzstate, hz, hstate]; exact ZoneState.noConfusion))
    refine ⟨t, ht, honly, hothers, ?_⟩
    rw [hentry, hline]
    exact ⟨hzstate, congrArg (·.confirmTimer) hleaves, congrArg (·.boosted) hleaves, hrepeat, hrec,
      congrArg (·.episodeStart) hleaves, hdecay, hnumber, hzstate, rfl, rfl, rfl, halarm⟩
  · have hleaves : e.plain = (ruleNormal s.clock (s.boostApplies i.val) (s.classFound i.val v.toNat) k.formed).plain := by
      rw [he, leaves_normal (hz.trans hstate) rfl hclass]
    rw [ruleNormal_expires hc (by rw [hk]; exact hd), faultKind_eq hc] at hleaves
    have hzstate : e.zstate = .trouble := congrArg (·.zstate) hleaves
    have hfault : (s.classFound i.val v.toNat).isFault = true := by
      rw [LineClass.isFault, Bool.or_eq_true, decide_eq_true_eq, decide_eq_true_eq]
      exact hc
    obtain ⟨t, ht, honly, hothers, hline, hnumber, hentry, halarm⟩ := expiry_raises i.isLt (test := troubleDue s.clock) h hk he
      (by rw [troubleDue, hz, hstate, hfault, hk]; exact hd) (.inl (by rw [hzstate, hz, hstate]; exact ZoneState.noConfusion))
    refine ⟨t, ht, honly, hothers, ?_⟩
    rw [hentry, hline]
    exact ⟨hzstate, congrArg (·.troubleTimer) hleaves, congrArg (·.trouble) hleaves, hnumber, hzstate, rfl, halarm⟩
  · have hleaves : e.plain = (ruleClearing s.clock .normal k.formed).plain := by
      rw [he, leaves_clearing (hz.trans hstate) rfl (hclass.trans hc)]
    rw [ruleClearing_restores (by rw [hk]; exact hd)] at hleaves
    have hzstate : e.zstate = .normal := congrArg (·.zstate) hleaves
    have hepisode : e.episodeStart = none := congrArg (·.episodeStart) hleaves
    obtain ⟨t, ht, honly, hothers, hline, hnumber, hentry, halarm⟩ := expiry_raises i.isLt (test := restoreDue s.clock) h hk he
      (by rw [restoreDue, hz, hstate, hc, hk]; exact hd) (.inl (by rw [hzstate, hz, hstate]; exact ZoneState.noConfusion))
    refine ⟨t, ht, honly, hothers, ?_⟩
    rw [hentry, hline]
    exact ⟨hzstate, congrArg (·.restoreTimer) hleaves, hepisode, hnumber, hzstate, congrArg ownCarriage hepisode, halarm⟩
  · have hleaves : e.plain = (ruleTrouble s.clock (s.boostApplies i.val) .normal k.formed).plain := by
      rw [he, leaves_trouble (hz.trans hstate) rfl (hclass.trans hc)]
    rw [ruleTrouble_expires (by rw [hk]; exact hd)] at hleaves
    have hzstate : e.zstate = .normal := congrArg (·.zstate) hleaves
    have htrouble : e.trouble = none := congrArg (·.trouble) hleaves
    obtain ⟨t, ht, honly, hothers, hline, hnumber, hentry, halarm⟩ := expiry_raises i.isLt (test := normalHoldDue s.clock) h hk
      he (by rw [normalHoldDue, hz, hstate, hc, hk]; exact hd)
      (.inl (by rw [hzstate, hz, hstate]; exact ZoneState.noConfusion))
    refine ⟨t, ht, honly, hothers, ?_⟩
    rw [hentry, hline]
    exact ⟨hzstate, congrArg (·.holdTimer) hleaves, htrouble, hnumber, hzstate, htrouble, halarm⟩
  · obtain ⟨hrepeat, hrec, hdecay⟩ := evaluated_counts_decayed (now := s.clock) (boost := s.boostApplies i.val) (l := k)
      (by rw [hz]; exact hstate) (by rw [hclass]; exact hc) (by rw [hcount]; exact hr) (by rw [hk]; exact hd)
    rw [← he, hcount] at hrepeat
    rw [← he, hcount, hrecurring] at hrec
    rw [← he, hcount] at hdecay
    obtain ⟨t, ht, honly, hothers, hline, hnumber, hentry, halarm⟩ := expiry_raises i.isLt
      (test := decayDue s.clock (s.boostApplies i.val)) h hk he
      (decayDue_of_quiet (by rw [hz]; exact hstate) hc (by rw [hcount]; exact hr) (by rw [hk]; exact hd))
      (.inr (by rw [hrepeat, hcount]; omega))
    refine ⟨t, ht, honly, hothers, ?_⟩
    rw [hentry, hline]
    exact ⟨hrepeat, hrec, hdecay, hnumber, rfl, halarm⟩
end

section
/-! SUPPORT. The sixteen samples of a mark: what each leaves of the lines, the entries and STARTING, and what they leave
together (R2 to R5, R182). -/

namespace Sys2Proof.Machine

open Sys2Proof

/-! ### Sampling complete (R2) -/

theorem samplingComplete_iff (s : State) : s.samplingComplete = true ↔
    s.zones.configTaken = true ∧ ∀ i < 16, s.lineEnabled i = true → (s.line i).history.length = 4 := by
  simp only [State.samplingComplete, Bool.and_eq_true, List.all_eq_true, List.mem_range, Bool.or_eq_true, Bool.not_eq_true',
    decide_eq_true_eq]
  refine and_congr_right fun _ => forall₂_congr fun i _ => ?_
  cases s.lineEnabled i <;> simp

/-- A state in which STARTING has ended (R182). -/
structure State.Opened (clock : Nat) (s : State) : Prop where
  complete : s.samplingComplete = true
  portA : s.portA.isOpen = true
  portB : s.portB.isOpen = true
  phase : s.rlc.phase = .awaitIdle
  joinTimer : s.rlc.joinTimer = some clock

section

variable (s : State)

@[simp] theorem samplingReady_clock : (samplingReady s).clock = s.clock := by
  unfold samplingReady; split <;> rfl

@[simp] theorem samplingReady_ownOrigin : (samplingReady s).ownOrigin = s.ownOrigin := by
  unfold samplingReady; split <;> rfl

@[simp] theorem samplingReady_configTaken : (samplingReady s).zones.configTaken = s.zones.configTaken := by
  unfold samplingReady; split <;> rfl

@[simp] theorem samplingReady_line (i : Nat) : (samplingReady s).line i = s.line i := by
  unfold samplingReady; split <;> rfl

@[simp] theorem samplingReady_entry (o l : Nat) : (samplingReady s).entry o l = s.entry o l := by
  unfold samplingReady; split <;> rfl

@[simp] theorem samplingReady_floor (f : Nat) : (samplingReady s).floor f = s.floor f := by
  unfold samplingReady; split <;> rfl

@[simp] theorem samplingReady_complete : (samplingReady s).samplingComplete = s.samplingComplete := by
  unfold samplingReady; split <;> rfl

variable {s}

/-- STARTING ends with the histories complete (R182). -/
theorem samplingReady_opened (hs : s.starting = true) (hc : s.samplingComplete = true) :
    (samplingReady s).starting = false ∧ (samplingReady s).Opened s.clock := by
  have h : samplingReady s = _ := if_pos (by rw [hs, hc]; rfl)
  exact ⟨by rw [h], by rw [samplingReady_complete, hc], by rw [h], by rw [h], by rw [h], by rw [h]⟩

theorem samplingReady_incomplete (h : s.samplingComplete = false) : samplingReady s = s :=
  if_neg (by rw [h, Bool.and_false]; exact Bool.false_ne_true)

end

theorem samplingComplete_congr {s t : State} (hc : t.zones.configTaken = s.zones.configTaken)
    (hl : ∀ i < 16, (t.line i).ztype = (s.line i).ztype ∧ (t.line i).history.length = (s.line i).history.length) :
    t.samplingComplete = s.samplingComplete := by
  refine Bool.eq_iff_iff.mpr ?_
  rw [samplingComplete_iff, samplingComplete_iff, hc]
  refine and_congr_right fun _ => forall₂_congr fun i hi => ?_
  obtain ⟨hz, hh⟩ := hl i hi
  rw [State.lineEnabled, State.lineEnabled, hc, hz, hh]

/-! ### What a sample leaves of the lines -/

/-- Two records alike in type, samples, reading and zone state: what a boost of the line keeps. -/
structure LineRecord.Alike (l m : LineRecord) : Prop where
  ztype : m.ztype = l.ztype
  history : m.history = l.history
  reading : m.reading = l.reading
  resistance : m.resistance = l.resistance
  lclass : m.lclass = l.lclass
  zstate : m.zstate = l.zstate
  lastMark : m.lastMark = l.lastMark

theorem LineRecord.Alike.refl (l : LineRecord) : l.Alike l := ⟨rfl, rfl, rfl, rfl, rfl, rfl, rfl⟩

theorem LineRecord.Alike.trans {l m k : LineRecord} (h : l.Alike m) (g : m.Alike k) : l.Alike k :=
  ⟨g.ztype.trans h.ztype, g.history.trans h.history, g.reading.trans h.reading, g.resistance.trans h.resistance,
    g.lclass.trans h.lclass, g.zstate.trans h.zstate, g.lastMark.trans h.lastMark⟩

theorem LineRecord.Alike.boost (l : LineRecord) : l.Alike l.boost := ⟨rfl, rfl, rfl, rfl, rfl, rfl, rfl⟩

/-- The record `m` has taken sample `v` into the history of `l`; of an enabled line with four samples it holds what is formed
from them (R2 to R5). -/
structure LineRecord.Joined (v : Nat) (enabled : Bool) (l m : LineRecord) : Prop where
  ztype : m.ztype = l.ztype
  history : m.history = (if l.history.length < 4 then l.history else l.history.drop 1) ++ [v]
  formed : enabled = true → m.history.length = 4 → m.reading = m.history.sum / 4 ∧
    m.resistance = resistanceOf m.reading ∧ m.lclass = classify l.lclass m.resistance

theorem LineRecord.Joined.alike {v : Nat} {enabled : Bool} {l m k : LineRecord} (h : l.Joined v enabled m) (g : m.Alike k) :
    l.Joined v enabled k where
  ztype := g.ztype.trans h.ztype
  history := g.history.trans h.history
  formed he hf := by
    rw [g.reading, g.resistance, g.lclass, g.history]
    exact h.formed he (by rw [← g.history]; exact hf)

/-- A history of four stays one of four. -/
theorem LineRecord.Joined.length {v : Nat} {enabled : Bool} {l m : LineRecord} (h : l.Joined v enabled m)
    (hl : l.history.length = 4) : m.history.length = 4 := by
  rw [h.history, hl, if_neg (by decide), List.length_append, List.length_drop, hl]
  rfl

theorem LineRecord.joined_push (mark v : Nat) {enabled : Bool} (l : LineRecord)
    (h : ¬(enabled = true ∧ (l.push mark v).history.length = 4)) : l.Joined v enabled (l.push mark v) :=
  ⟨rfl, rfl, fun he hf => absurd ⟨he, hf⟩ h⟩

theorem LineRecord.joined_evaluated (mark v now : Nat) (boost enabled : Bool) (l : LineRecord) :
    l.Joined v enabled ((l.push mark v).evaluated now boost) := by
  have hsame := LineRecord.sameReading_ruled now boost (l.push mark v)
  refine ⟨?_, ?_, fun _ _ => ⟨?_, ?_, ?_⟩⟩
  · rw [LineRecord.evaluated_field (·.ztype) fun _ _ => rfl, hsame.ztype]; rfl
  · rw [LineRecord.evaluated_field (·.history) fun _ _ => rfl, hsame.history]; rfl
  · rw [LineRecord.evaluated_field (·.reading) fun _ _ => rfl, LineRecord.evaluated_field (·.history) fun _ _ => rfl,
      hsame.reading, hsame.history]; rfl
  · rw [LineRecord.evaluated_field (·.resistance) fun _ _ => rfl, LineRecord.evaluated_field (·.reading) fun _ _ => rfl,
      hsame.resistance, hsame.reading]; rfl
  · rw [LineRecord.evaluated_field (·.lclass) fun _ _ => rfl, LineRecord.evaluated_field (·.resistance) fun _ _ => rfl,
      hsame.lclass, hsame.resistance]; rfl

/-! ### One sample as an event -/

/-- Between `s` and `t` line `i` has taken sample `v`; each other line is alike, and no other station's entry changed. -/
structure Sampled (i v : Nat) (s t : State) : Prop where
  clock : t.clock = s.clock
  ownOrigin : t.ownOrigin = s.ownOrigin
  configTaken : t.zones.configTaken = s.zones.configTaken
  joined : (s.line i).Joined v (s.lineEnabled i) (t.line i)
  alike : ∀ j < 16, j ≠ i → (s.line j).Alike (t.line j)
  others : ∀ o l, o ≠ s.ownOrigin → l < 16 → t.entry o l = s.entry o l

section

variable {i v : Nat} {s u t : State}

theorem OnlyPicture.clock (h : OnlyPicture s t) : t.clock = s.clock := congrArg (·.clock) h.rest

theorem OnlyPicture.ownOrigin (h : OnlyPicture s t) : t.ownOrigin = s.ownOrigin := by
  rw [State.ownOrigin, show t.address = s.address from congrArg (·.address) h.rest, State.ownOrigin]

theorem OnlyPicture.configTaken (h : OnlyPicture s t) : t.zones.configTaken = s.zones.configTaken :=
  congrArg (·.zones.configTaken) h.rest

theorem OnlyPicture.trans (h : OnlyPicture s u) (g : OnlyPicture u t) : OnlyPicture s t :=
  ⟨g.rest.trans h.rest, fun f hf => (g.labels f hf).trans (h.labels f hf),
    fun f hf => (g.attendance f hf).trans (h.attendance f hf)⟩

theorem OnlyPicture.refl (s : State) : OnlyPicture s s := ⟨rfl, fun _ _ => rfl, fun _ _ => rfl⟩

theorem onlyPicture_setLine (i : Nat) (l : LineRecord) (s : State) : OnlyPicture s (s.setLine i l) :=
  ⟨(restKept_setLine i l s).lasting, fun _ _ => rfl, fun _ _ => rfl⟩

/-- One line's sample, its evaluation with it where there is one. -/
theorem sampled_sampleLine (hi : i < 16) (v : Nat) (hdue : (s.markDue i && s.lineSampled i) = true) :
    OnlyPicture s (sampleLine i v s) ∧ Sampled i v s (sampleLine i v s) := by
  by_cases h : s.lineEnabled i = true ∧ ((s.line i).push s.clock v).history.length = 4
  · have hev := sampleLine_evaluates hi hdue h
    refine ⟨hev.only, hev.only.clock, hev.only.ownOrigin, hev.only.configTaken, ?_, fun j hj hne => ?_, hev.others⟩
    · rw [hev.line]
      exact LineRecord.joined_evaluated ..
    · rcases hev.lines j hj hne with hl | hl <;> rw [hl]
      · exact LineRecord.Alike.refl _
      · exact LineRecord.Alike.boost _
  · rw [sampleLine_joins hi hdue h]
    refine ⟨onlyPicture_setLine .., rfl, rfl, rfl, ?_, fun j hj hne => ?_, fun _ _ _ _ => rfl⟩
    · rw [State.setLine_line_same hi]
      exact LineRecord.joined_push _ _ _ h
    · rw [State.setLine_line_ne (Ne.symm hne)]
      exact LineRecord.Alike.refl _

theorem Sampled.ready (h : Sampled i v s u) : Sampled i v s (samplingReady u) where
  clock := by rw [samplingReady_clock]; exact h.clock
  ownOrigin := by rw [samplingReady_ownOrigin]; exact h.ownOrigin
  configTaken := by rw [samplingReady_configTaken]; exact h.configTaken
  joined := by rw [samplingReady_line]; exact h.joined
  alike j hj hne := by rw [samplingReady_line]; exact h.alike j hj hne
  others o l ho hl := by rw [samplingReady_entry]; exact h.others o l ho hl

theorem Sampled.endsAs (h : Sampled i v s u) (g : EndsAs u t) : Sampled i v s t where
  clock := g.clock.trans h.clock
  ownOrigin := g.ownOrigin.trans h.ownOrigin
  configTaken := by rw [g.zones]; exact h.configTaken
  joined := by rw [g.line]; exact h.joined
  alike j hj hne := by rw [g.line]; exact h.alike j hj hne
  others o l ho hl := (g.entry o l).trans (h.others o l ho hl)

/-- A sample leaves complete histories complete. -/
theorem Sampled.complete (h : Sampled i v s t) (hc : s.samplingComplete = true) : t.samplingComplete = true := by
  obtain ⟨htaken, hfour⟩ := (samplingComplete_iff s).mp hc
  refine (samplingComplete_iff t).mpr ⟨h.configTaken.trans htaken, fun j hj he => ?_⟩
  by_cases hji : j = i
  · subst hji
    refine h.joined.length (hfour j hj ?_)
    rwa [State.lineEnabled, h.configTaken, h.joined.ztype] at he
  · have hal := h.alike j hj hji
    rw [hal.history]
    refine hfour j hj ?_
    rwa [State.lineEnabled, h.configTaken, hal.ztype] at he

theorem EndsAs.samplingComplete (h : EndsAs u t) : t.samplingComplete = u.samplingComplete :=
  samplingComplete_congr (by rw [h.zones]) fun i _ => by rw [h.line]; exact ⟨rfl, rfl⟩

theorem EndsAs.opened {clock : Nat} (h : EndsAs u t) (ho : u.Opened clock) : t.Opened clock :=
  ⟨h.samplingComplete.trans ho.complete, h.openA.trans ho.portA, h.openB.trans ho.portB, h.phase.trans ho.phase,
    h.joinTimer.trans ho.joinTimer⟩

theorem OnlyPicture.opened {clock : Nat} (h : OnlyPicture s t) (hc : t.samplingComplete = true) (ho : s.Opened clock) :
    t.Opened clock :=
  ⟨hc, (congrArg (·.portA.isOpen) h.rest).trans ho.portA, (congrArg (·.portB.isOpen) h.rest).trans ho.portB,
    (congrArg (·.rlc.phase) h.rest).trans ho.phase, (congrArg (·.rlc.joinTimer) h.rest).trans ho.joinTimer⟩

end

/-! ### The samples of a mark -/

theorem tget_fin {α : Type} {n : Nat} (d : α) (t : Vector α n) (i : Fin n) : tget d t i.val = t[i] := by
  simp [tget]

/-- The line is due at the mark, and sampled. -/
def State.samples (i : Nat) (s : State) : Bool := s.markDue i && s.lineSampled i

/-- The state `t` in which the lines below `n` of state `s` have been dealt with at a mark. -/
structure SampledTo (values : Vector (BitVec 10) 16) (s : State) (n : Nat) (t : State) : Prop where
  clock : t.clock = s.clock
  ownOrigin : t.ownOrigin = s.ownOrigin
  configTaken : t.zones.configTaken = s.zones.configTaken
  joined : ∀ i < 16, i < n → s.samples i = true →
    (s.line i).Joined (tget 0#10 values i).toNat (s.lineEnabled i) (t.line i)
  alike : ∀ i < 16, ¬(i < n ∧ s.samples i = true) → (s.line i).Alike (t.line i)
  others : ∀ o l, o ≠ s.ownOrigin → l < 16 → t.entry o l = s.entry o l
  running : s.starting = false → OnlyPicture s t
  opened : s.starting = true → t.starting = false → t.Opened s.clock
  told : s.starting = true → (∃ i < n, s.samples i = true) → t.starting = !t.samplingComplete

section

variable {values : Vector (BitVec 10) 16} {s t : State} {n : Nat}

theorem sampledTo_zero (values : Vector (BitVec 10) 16) (s : State) : SampledTo values s 0 s where
  clock := rfl
  ownOrigin := rfl
  configTaken := rfl
  joined _ _ h := absurd h (Nat.not_lt_zero _)
  alike _ _ _ := LineRecord.Alike.refl _
  others _ _ _ _ := rfl
  running _ := OnlyPicture.refl s
  opened hs ht := by rw [hs] at ht; exact Bool.noConfusion ht
  told _ h := by obtain ⟨i, hi, -⟩ := h; exact absurd hi (Nat.not_lt_zero _)

/-- Whether a line is due and sampled depends on the mark, its last mark and its type. -/
theorem SampledTo.samples_eq (h : SampledTo values s n t) (hn : n < 16) : t.samples n = s.samples n := by
  have hal := h.alike n hn fun hlt => absurd hlt.1 (Nat.lt_irrefl n)
  simp only [State.samples, State.markDue, State.lineSampled, State.lineEnabled, h.clock, h.configTaken, hal.lastMark,
    hal.ztype]

theorem SampledTo.succ_of_not (h : SampledTo values s n t) (hs : s.samples n = false) : SampledTo values s (n + 1) t := by
  have hback : ∀ i < n + 1, s.samples i = true → i < n := fun i hi hsi =>
    Nat.lt_of_le_of_ne (Nat.lt_succ_iff.mp hi) fun he => by rw [he, hs] at hsi; exact Bool.noConfusion hsi
  exact { h with
    joined := fun i hi hlt hsi => h.joined i hi (hback i hlt hsi) hsi
    alike := fun i hi hnot => h.alike i hi fun hlt => hnot ⟨Nat.lt_succ_of_lt hlt.1, hlt.2⟩
    told := fun hst hex => by
      obtain ⟨i, hi, hsi⟩ := hex
      exact h.told hst ⟨i, hback i hi hsi, hsi⟩ }

/-- After a sample in STARTING, sampling ready is told exactly when the histories are complete (R182). -/
theorem samplingReady_told {i v clock : Nat} {u : State} (honly : OnlyPicture t u) (h : Sampled i v t u)
    (hclock : t.clock = clock) (ho : t.starting = false → t.Opened clock) :
    (samplingReady u).starting = !u.samplingComplete ∧
    ((samplingReady u).starting = false → (samplingReady u).Opened clock) := by
  have hstart := honly.starting
  cases ht : t.starting with
  | true =>
    rw [ht] at hstart
    cases hc : u.samplingComplete with
    | true =>
      obtain ⟨hended, hopened⟩ := samplingReady_opened hstart hc
      rw [h.clock, hclock] at hopened
      exact ⟨hended, fun _ => hopened⟩
    | false =>
      rw [samplingReady_incomplete hc, hstart]
      exact ⟨rfl, fun hf => Bool.noConfusion hf⟩
  | false =>
    rw [ht] at hstart
    have hopened := honly.opened (h.complete (ho ht).complete) (ho ht)
    rw [samplingReady_running hstart, hstart, hopened.complete]
    exact ⟨rfl, fun _ => hopened⟩

/-- One more line of the mark. -/
theorem SampledTo.succ_of_samples (h : SampledTo values s n t) (hn : n < 16) (hs : s.samples n = true) :
    SampledTo values s (n + 1)
      (settle t (samplingReady (sampleLine n (tget 0#10 values n).toNat t))) := by
  have hdue : (t.markDue n && t.lineSampled n) = true := (h.samples_eq hn).trans hs
  obtain ⟨honly, hsampled⟩ := sampled_sampleLine hn (tget 0#10 values n).toNat hdue
  generalize sampleLine n (tget 0#10 values n).toNat t = u at honly hsampled
  have hends : EndsAs (samplingReady u) (settle t (samplingReady u)) := endsAs_settle ..
  have hfull := hsampled.ready.endsAs hends
  generalize hv : settle t (samplingReady u) = v at hends hfull
  have hal := h.alike n hn fun hlt => absurd hlt.1 (Nat.lt_irrefl n)
  refine ⟨hfull.clock.trans h.clock, hfull.ownOrigin.trans h.ownOrigin, hfull.configTaken.trans h.configTaken,
    fun i hi hlt hsi => ?_, fun i hi hnot => ?_,
    fun o l ho hl => (hfull.others o l (by rw [h.ownOrigin]; exact ho) hl).trans (h.others o l ho hl),
    fun hst => ?_, fun hst => ?_, fun hst _ => ?_⟩
  · by_cases hin : i = n
    · subst hin
      have hj := hfull.joined
      rw [State.lineEnabled, hal.ztype, h.configTaken] at hj
      exact ⟨hj.ztype.trans hal.ztype, by rw [hj.history, hal.history], fun he hf => by
        rw [← hal.lclass]; exact hj.formed he hf⟩
    · exact (h.joined i hi (Nat.lt_of_le_of_ne (Nat.lt_succ_iff.mp hlt) hin) hsi).alike (hfull.alike i hi hin)
  · have hin : i ≠ n := fun he => hnot ⟨by omega, he ▸ hs⟩
    exact (h.alike i hi fun hlt => hnot ⟨Nat.lt_succ_of_lt hlt.1, hlt.2⟩).trans (hfull.alike i hi hin)
  · have ht := h.running hst
    rw [samplingReady_running (honly.starting.trans (ht.starting.trans hst))] at hends
    exact ht.trans (honly.endsAs hends)
  · rw [hends.starting]
    exact fun hv => hends.opened ((samplingReady_told honly hsampled h.clock (h.opened hst)).2 hv)
  · rw [hends.starting, hends.samplingComplete, samplingReady_complete]
    exact (samplingReady_told honly hsampled h.clock (h.opened hst)).1

theorem sampleEvent_eq (values : Vector (BitVec 10) 16) (s : State) (i : Nat) : sampleEvent values s i =
    if s.samples i = true then settle s (samplingReady (sampleLine i (tget 0#10 values i).toNat s)) else s := rfl

/-- All the lines of a mark. -/
theorem sampledTo_range (values : Vector (BitVec 10) 16) (s : State) {n : Nat} (hn : n ≤ 16) :
    SampledTo values s n ((List.range n).foldl (sampleEvent values) s) := by
  induction n with
  | zero => exact sampledTo_zero values s
  | succ n ih =>
    rw [List.range_succ, List.foldl_append, List.foldl_cons, List.foldl_nil]
    have h := ih (by omega)
    generalize (List.range n).foldl (sampleEvent values) s = t at h
    have hsame := h.samples_eq (by omega)
    rw [sampleEvent_eq]
    cases hs : s.samples n with
    | true =>
      rw [if_pos (hsame.trans hs)]
      exact h.succ_of_samples (by omega) hs
    | false =>
      rw [if_neg (Bool.eq_false_iff.mp (hsame.trans hs))]
      exact h.succ_of_not hs

/-- A mark at which no line is due and sampled changes nothing. -/
theorem sampleMark_of_none (values : Vector (BitVec 10) 16) {s : State} (h : ∀ i < 16, s.samples i = false) :
    sampleMark values s = s :=
  List.foldlRecOn (List.range 16) _ (motive := fun t => t = s) rfl fun t ht i hi => by
    rw [ht]
    exact if_neg (Bool.eq_false_iff.mp (h i (List.mem_range.mp hi)))

end

end Sys2Proof.Machine

open Sys2Proof Sys2Proof.Machine

/-- Settles O22: the sixteen events of a mark by an invariant over the lines dealt with (`SampledTo`), one line's sample by
`Evaluates`, and one evaluation by the rule of each zone state. -/
theorem sampleJoinsHistories : Obligations.SampleJoinsHistories := by
  refine ⟨fun values s hheld => ?_, fun i v s u k l hi hdue hk hu hl => ?_, ?_⟩
  · have h : SampledTo values s 16 (sampleMark values s) := sampledTo_range values s (Nat.le_refl 16)
    refine ⟨sampleMark values s, quietEvent_running hheld, rfl, sampleMark_of_none values, fun i => ⟨fun hs => ?_,
      fun hs he hf => ?_, fun hs => ?_⟩, h.running, fun hst hex => ⟨h.told hst ?_, fun ht => ?_⟩,
      fun o _ ho l hl => h.others o l ho (by omega)⟩
    · rw [(h.joined i i.isLt i.isLt hs).history, tget_fin]
    · exact (h.joined i i.isLt i.isLt hs).formed he hf
    · have hal := h.alike i i.isLt fun hlt => by rw [State.samples, hs] at hlt; exact Bool.noConfusion hlt.2
      exact ⟨hal.history, hal.reading, hal.resistance, hal.lclass, hal.zstate⟩
    · exact hex
    · obtain ⟨-, ha, hb, hphase, hjoin⟩ := h.opened hst ht
      exact ⟨ha, hb, hphase, hjoin⟩
  · subst hk hu hl
    refine ⟨sampleLine_joins hi hdue, fun he hf => ?_⟩
    have hev := sampleLine_evaluates hi hdue ⟨he, hf⟩
    have hraised : reportableDiffers ((s.line i).push s.clock v) ((sampleLine i v s).line i) = true ↔
        ((sampleLine i v s).line i).changeNumber ≠ (s.line i).changeNumber := by
      rw [hev.line]
      exact LineRecord.evaluated_raised ..
    refine ⟨hev.line, hev.lines, ?_, fun hne => hev.alarm (hraised.mpr hne), boostApplies_iff hi s⟩
    rw [hev.entry, ownEntryOf]
    congr 1
    · by_cases hd : reportableDiffers ((s.line i).push s.clock v) ((sampleLine i v s).line i) = true
      · rw [if_pos hd, if_neg (hraised.mp hd)]
      · rw [if_neg hd, if_pos (by_contra fun hne => hd (hraised.mpr hne))]
  · rintro now boost l _ base c rfl hclass hb leaves fault kind pending raised count recurring quiet
    have hbase : l.formed = base := by rw [hb, hclass]; rfl
    have hc : base.lclass = c := by rw [hb]
    have hkind : fault → faultKind c = kind := faultKind_eq
    refine ⟨fun hz => ?_, fun hz => ?_, fun hz => ?_, fun hz => ?_, fun hz => ?_, fun hz => leaves_disabled hz hbase,
      fun hq => evaluated_counts_notQuiet fun h => hq (quiet_moved.mp h), fun hq => evaluated_counts_due (quiet_moved.mpr hq),
      fun hq => evaluated_counts_running (quiet_moved.mpr hq), LineRecord.evaluated_changeNumber now boost l⟩
    · have hleaves := leaves_normal (now := now) (boost := boost) hz hbase hc
      have htimer : base.troubleTimer = l.troubleTimer := by rw [hb]
      refine ⟨fun ha => hleaves.trans ?_, fun hf hn => hleaves.trans ?_, fun b hf hs hd => hleaves.trans ?_,
        fun b hf hs hd => hleaves.trans ?_, fun hn => hleaves.trans ?_⟩
      · rw [ha, ruleNormal_alarm hz hbase]; rfl
      · rw [ruleNormal_starts hf (htimer.trans hn)]; rfl
      · rw [ruleNormal_waits hf (htimer.trans hs) (timerDue_of_lt (htimer.trans hs) hd)]; rfl
      · rw [ruleNormal_expires hf (timerDue_of_le (htimer.trans hs) hd), hkind hf]; rfl
      · rw [hn]; rfl
    · have hleaves := leaves_pending (now := now) (boost := boost) hz hbase hc
      refine ⟨fun ha hd => hleaves.trans ?_, fun ha hd => hleaves.trans ?_, fun hn => hleaves.trans ?_,
        fun hf => hleaves.trans ?_⟩
      · rw [ha, rulePending_confirms (by rw [hb]; exact hd)]; rfl
      · rw [ha, rulePending_waits (by rw [hb]; exact hd)]; rfl
      · rw [hn, hb]; rfl
      · rw [rulePending_fault hf, hb]; rfl
    · have hleaves := leaves_alarm (now := now) (boost := boost) hz hbase hc
      refine ⟨fun hn => hleaves.trans ?_, fun ha => hleaves.trans ?_, fun hf => hleaves.trans ?_⟩
      · rw [hn, ruleAlarm, LineRecord.lineBack_eq, hb]; rfl
      · rw [ha, ruleAlarm, LineRecord.lineBack_eq, hb]; rfl
      · rw [alarmRule_fault hf, hkind hf]; rfl
    · have hleaves := leaves_clearing (now := now) (boost := boost) hz hbase hc
      refine ⟨fun hn hd => hleaves.trans ?_, fun hn hd => hleaves.trans ?_, fun ha => hleaves.trans ?_,
        fun hf => hleaves.trans ?_⟩
      · rw [hn, ruleClearing_restores (by rw [hb]; exact hd)]; rfl
      · rw [hn, ruleClearing_waits (by rw [hb]; exact hd)]; rfl
      · rw [ha]; rfl
      · rw [ruleClearing_fault hf, hkind hf]; rfl
    · have hleaves := leaves_trouble (now := now) (boost := boost) hz hbase hc
      have htimer : base.holdTimer = l.holdTimer := by rw [hb]
      refine ⟨fun ha => hleaves.trans ?_, fun hn ht => hleaves.trans ?_, fun b hn hs hd => hleaves.trans ?_,
        fun b hn hs hd => hleaves.trans ?_, fun hf => hleaves.trans ?_⟩
      · rw [ha, ruleTrouble_alarm hz hbase]; rfl
      · rw [hn, ruleTrouble_starts (htimer.trans ht)]; rfl
      · rw [hn, ruleTrouble_waits (htimer.trans hs) (timerDue_of_lt (htimer.trans hs) hd)]; rfl
      · rw [hn, ruleTrouble_expires (timerDue_of_le (htimer.trans hs) hd)]; rfl
      · rw [ruleTrouble_fault hf, hkind hf]; rfl
end

section
/-! SUPPORT. The store-ready event (R1, R14, R40, R56, R59, R103, R104, R106): the lines configured, the own entries
written, the Holder Table formed anew, and the floor labels that follow it. -/

namespace Sys2Proof.Machine

open Sys2Proof

/-! ### An event whose changes bring no boost -/

/-- No change of the event boosts a floor more than the entry did before. -/
def QuietChanges (changes : List EntryChange) (s : State) : Prop :=
  ∀ c ∈ changes, ∀ f, boostsFloor f c.new = true → boostsFloor f (s.entry c.origin c.line) = true

theorem sendSignals_quiet {changes : List EntryChange} {s : State} (h : QuietChanges changes s) (t : State) :
    (sendSignals changes s t).zones = t.zones ∧ (sendSignals changes s t).picture = t.picture ∧
    (sendSignals changes s t).rlc = t.rlc := by
  refine List.foldlRecOn changes _
    (motive := fun u : State => u.zones = t.zones ∧ u.picture = t.picture ∧ u.rlc = t.rlc) ⟨rfl, rfl, rfl⟩
    fun u hu c hc => ?_
  rcases signalEntry_quiet (h c hc) c.origin c.line u with hq | hq
  · rw [hq]; exact hu
  · rw [hq, notifyBoth_zones, notifyBoth_picture, notifyBoth_rlc]; exact hu

/-- An event that brings no boost writes its changes and leaves the lines and the link. -/
theorem pictureEvent_quiet {changes : List EntryChange} (labels : List (Nat × Text)) (lists : List (Nat × List Attendance))
    {s : State} (h : QuietChanges changes s) : (pictureEvent changes labels lists s).zones = s.zones ∧
    (∀ n, (pictureEvent changes labels lists s).slot n = (writeEntries changes s).slot n) ∧
    (pictureEvent changes labels lists s).rlc = s.rlc := by
  obtain ⟨u, rfl, hr⟩ := pictureEvent_recomputed changes labels lists s
  obtain ⟨hzones, hpicture, hrlc⟩ := sendSignals_quiet h (writeEntries changes s)
  obtain ⟨entries, hw⟩ := writeEntries_rest changes s
  refine ⟨hr.zones.trans (hzones.trans (by rw [hw])), fun n => ?_, hr.link.trans (hrlc.trans (by rw [hw]))⟩
  rw [State.slot, hr.entries, hpicture, State.slot]

/-! ### The floor labels of a recomputation (R40, R59) -/

theorem givenFor_filterMap {α : Type} (g : Nat → Option α) (n f : Nat) :
    givenFor ((List.range n).filterMap fun k => (g k).map fun x => (k, x)) f = if f < n then g f else none := by
  induction n with
  | zero => rfl
  | succ n ih =>
    rw [givenFor] at ih ⊢
    have hlast : (List.find? (fun x => x.1 == f) ([n].filterMap fun k => (g k).map fun x => (k, x))).map (·.2) =
        if n = f then g f else none := by
      split
      · rename_i hn
        subst hn
        cases hg : g n <;> simp [hg]
      · rename_i hn
        cases hg : g n <;> simp [hg, hn]
    rw [List.range_succ, List.filterMap_append, List.find?_append, Option.map_or, ih, hlast]
    rcases Nat.lt_trichotomy f n with h | h | h
    · rw [if_pos h, if_neg (by omega), if_pos (by omega), Option.or_none]
    · rw [if_neg (by omega), if_pos h.symm, if_pos (by omega), Option.none_or]
    · rw [if_neg (by omega), if_neg (by omega), if_neg (by omega), Option.none_or]

/-- The label that a floor's owner gives it, when the owner meets a test. -/
def State.ownerLabel (test : Nat → Source → Bool) (f : Nat) (s : State) : Option Text :=
  (s.ownerOf f).bind fun o => if test f o then s.labelBy o f else none

theorem givenFor_ownerLabels (test : Nat → Source → Bool) (s : State) {f : Nat} (hf : f < 256) :
    givenFor (s.ownerLabels test) f = s.ownerLabel test f := by
  have h : s.ownerLabels test =
      (List.range 256).filterMap fun k => (s.ownerLabel test k).map fun x => (k, x) := by
    unfold State.ownerLabels
    congr 1
    funext k
    unfold State.ownerLabel State.ownerOf
    cases (s.holderRow k).owner with
    | none => rfl
    | some o =>
      dsimp only [Option.map_some, Option.bind_some]
      split <;> rfl
  rw [h, givenFor_filterMap, if_pos hf]

/-! ### The event -/

/-- The change of one own entry in the store-ready event (R14, R23). -/
def configuredEntry (s : State) (i : Nat) : EntryChange where
  origin := s.ownOrigin
  line := i
  new := (if (s.line i).ztype = .unused then ownEntryOf s.clock (s.line i) false (s.entry s.ownOrigin i)
    else s.entry s.ownOrigin i).relabel (s.line i).label

theorem configuredEntries_eq (s : State) : configuredEntries s = (List.range 16).map (configuredEntry s) := rfl

section

variable (x : StoreScan) (s : State)

/-- The state of the store-ready event before sampling ready is considered. -/
def State.readied : State :=
  pictureEvent (configuredEntries (s.configured x))
    (changedOwnerLabels (takeHoldings (takeConfiguration (fixImages x s))) (s.configured x)) [] (s.configured x)

theorem storeReady_readied : storeReady x s = samplingReady (s.readied x) := rfl

theorem readied_rest : RestKept (s.configured x) (s.readied x) := restKept_pictureEvent ..

theorem boostsFloor_relabel (f : Nat) (e : ZoneEntry) (label : Text) : boostsFloor f (e.relabel label) = boostsFloor f e := rfl

/-- A disabled line's entry boosts nothing, and a relabelled one what it did before. -/
theorem quiet_configuredEntries (v : State) : QuietChanges (configuredEntries v) v := by
  intro c hc f hb
  obtain ⟨i, -, horigin, hline, hnew⟩ := configuredEntry_mem hc
  rw [hnew, boostsFloor_relabel] at hb
  rw [horigin, hline]
  split at hb
  · rename_i hz
    obtain ⟨-, htype, -⟩ := (boostsFloor_iff ..).mp hb
    rw [show (ownEntryOf v.clock (v.line i) false (v.entry v.ownOrigin i)).ztype = .unused from hz] at htype
    rcases htype with h | h | h <;> exact ZoneType.noConfusion h
  · exact hb

theorem readied_line {i : Nat} (hi : i < 16) : (s.readied x).line i = configureLine x.header i (s.line i) := by
  exact (State.line_congr (pictureEvent_quiet _ _ (quiet_configuredEntries _)).1 i).trans (configured_line x s hi)

theorem readied_rlc : (s.readied x).rlc = s.rlc := (pictureEvent_quiet _ _ (quiet_configuredEntries _)).2.2

theorem readied_ownEntry {i : Nat} (hi : i < 16) {l : LineRecord} (hl : l = configureLine x.header i (s.line i)) :
    (s.readied x).entry s.ownOrigin i = (if l.ztype = .unused then
      ownEntryOf s.clock l false (s.entry s.ownOrigin i) else s.entry s.ownOrigin i).relabel l.label := by
  obtain ⟨v, hv⟩ : ∃ v, v = s.configured x := ⟨_, rfl⟩
  have hdistinct : (configuredEntries v).Pairwise fun a b => a.place ≠ b.place := by
    rw [configuredEntries_eq]
    exact List.pairwise_map.mpr (List.nodup_range.imp fun hne => entryIndex_ne_line hne)
  have hmem : configuredEntry v i ∈ configuredEntries v := by
    rw [configuredEntries_eq]
    exact List.mem_map_of_mem (List.mem_range.mpr hi)
  have hwritten := writeEntries_slot_mem hdistinct hmem (v.ownIndex_lt hi) v
  have hline : v.line i = l := by rw [hv, hl, configured_line x s hi]
  rw [configuredEntry, hline, hv] at hwritten
  exact ((pictureEvent_quiet _ _ (quiet_configuredEntries _)).2.1 _).trans hwritten

theorem readied_other {o l : Nat} (ho : o ≠ s.ownOrigin) (hl : l < 16) : (s.readied x).entry o l = s.entry o l := by
  refine ((pictureEvent_quiet _ _ (quiet_configuredEntries _)).2.1 _).trans (writeEntries_slot_other (fun c hc => ?_) _)
  obtain ⟨i, hi, horigin, hline, -⟩ := configuredEntry_mem hc
  rw [EntryChange.place, horigin, hline]
  exact entryIndex_ne hi hl (Ne.symm ho)

/-- A floor whose owner has changed takes the label its owner gives it, where there is one. -/
theorem readied_label {f : Nat} (hf : f < 256) : ((s.readied x).floor f).label =
    (((s.configured x).ownerLabel (fun f src => decide (s.ownerOf f ≠ some src)) f) <|> (s.floor f).label) := by
  have h := pictureEvent_label (configuredEntries (s.configured x))
    (changedOwnerLabels (takeHoldings (takeConfiguration (fixImages x s))) (s.configured x)) [] (s.configured x) hf
  have hg : givenFor (changedOwnerLabels (takeHoldings (takeConfiguration (fixImages x s))) (s.configured x)) f =
      (s.configured x).ownerLabel (fun f src => decide (s.ownerOf f ≠ some src)) f := givenFor_ownerLabels _ _ hf
  rw [hg] at h
  rw [State.readied, h]
  cases (s.configured x).ownerLabel (fun f src => decide (s.ownerOf f ≠ some src)) f <;> rfl

end

end Sys2Proof.Machine
end

section
/-! SUPPORT. The store-ready event as its commands give it: the row of the last slot read, the event, and its end (R103,
R106, R182). -/

namespace Sys2Proof.Machine

open Sys2Proof

/-! ### The lines configured (R1, R14) -/

theorem configureLine_none (i : Nat) (l : LineRecord) : configureLine none i l =
    { l with ztype := .unused, floor := 0, label := List.replicate 8 space, history := [], zstate := .disabled } := rfl

theorem configureLine_some {h : HeaderImage} {i : Nat} {c : LineConfig} (hc : h.lines[i]? = some c) (l : LineRecord) :
    configureLine (some h) i l = if c.offset < h.floorCount ∧ c.ztype ≠ .unused then
      { l with ztype := c.ztype, floor := h.firstFloor + c.offset, label := c.label }
    else { l with
      ztype := .unused, floor := if c.offset < h.floorCount then h.firstFloor + c.offset else h.firstFloor
      label := c.label, history := [], zstate := .disabled } := by
  unfold configureLine
  dsimp only
  rw [List.getD_eq_getElem?_getD, hc, Option.getD_some]
  by_cases hf : c.offset < h.floorCount <;> by_cases hz : c.ztype = .unused <;> simp [hf, hz]

theorem configureLine_changeNumber (image : Option HeaderImage) (i : Nat) (l : LineRecord) :
    (configureLine image i l).changeNumber = l.changeNumber := by
  unfold configureLine
  split
  · rfl
  · dsimp only
    split <;> rfl

/-- A disabled line stands in DISABLED (R14). -/
theorem configureLine_disabled {image : Option HeaderImage} {i : Nat} {l : LineRecord}
    (h : (configureLine image i l).ztype = .unused) : (configureLine image i l).zstate = .disabled := by
  unfold configureLine at h ⊢
  split
  · rfl
  · dsimp only at h ⊢
    split at h
    · rename_i hz
      rw [Bool.and_eq_true, decide_eq_true_eq, decide_eq_true_eq] at hz
      exact absurd h hz.2
    · rename_i hz
      rw [if_neg hz]

/-! ### What an event of the picture leaves -/

namespace RestKept

variable {s t : State}

theorem marks (h : RestKept s t) : t.marks = s.marks := congrArg (·.marks) h

theorem noConfig (h : RestKept s t) : t.noConfig = s.noConfig := congrArg (·.noConfig) h

theorem readyReported (h : RestKept s t) : t.zones.readyReported = s.zones.readyReported :=
  congrArg (·.zones.readyReported) h

theorem openA (h : RestKept s t) : t.portA.isOpen = s.portA.isOpen := congrArg (·.portA.isOpen) h

theorem openB (h : RestKept s t) : t.portB.isOpen = s.portB.isOpen := congrArg (·.portB.isOpen) h

end RestKept

/-! ### Claims and labels of a state -/

theorem State.peerClaim_congr {s t : State} (ha : t.address = s.address) (hp : t.peers = s.peers) :
    t.peerClaim = s.peerClaim := by
  funext a
  rw [State.peerClaim, State.peerClaim, State.isPeer, State.isPeer, State.peer, State.peer, ha, hp]

theorem State.allClaims_congr {s t : State} (ha : t.address = s.address) (hp : t.peers = s.peers)
    (ho : t.holders = s.holders) : t.allClaims = s.allClaims := by
  have hrank : t.ownRank = s.ownRank := by rw [State.ownRank, ha, State.ownRank]
  have hpeers : t.peerClaims = s.peerClaims := by
    funext low high
    rw [State.peerClaims, State.peerClaims, State.peerClaim_congr ha hp]
  rw [State.allClaims, State.allClaims, hrank, hpeers, State.ownClaim, State.ownClaim, ho]

theorem State.ownerOf_congr {s t : State} (ho : t.holders = s.holders) (f : Nat) : t.ownerOf f = s.ownerOf f := by
  simp only [State.ownerOf, State.holderRow, ho]

theorem State.ownerLabel_of_owner {test : Nat → Source → Bool} {f : Nat} {o : Source} {s : State}
    (h : s.ownerOf f = some o) (ht : test f o = true) : s.ownerLabel test f = s.labelBy o f := by
  rw [State.ownerLabel, h, Option.bind_some, if_pos ht]

theorem State.ownerLabel_of_not {test : Nat → Source → Bool} {f : Nat} {s : State}
    (h : ∀ o, s.ownerOf f = some o → test f o = false) : s.ownerLabel test f = none := by
  rw [State.ownerLabel]
  cases ho : s.ownerOf f with
  | none => rfl
  | some o => rw [Option.bind_some, if_neg (Bool.eq_false_iff.mp (h o ho))]

theorem covers_of_le {first count f : Nat} (h1 : first ≤ f) (h2 : f < first + count) : covers first count f = true := by
  rw [covers, decide_eq_true h1, decide_eq_true h2]; rfl

/-- The labels a station header gives its floors (R40). -/
theorem State.labelBy_self {s : State} {h : HeaderImage} {f : Nat} (hi : s.store.image = some h) (h1 : h.firstFloor ≤ f)
    (h2 : f < h.firstFloor + h.floorCount) : s.labelBy .self f = h.floorLabels[f - h.firstFloor]? := by
  rw [State.labelBy, hi, Option.bind_some, if_pos (covers_of_le h1 h2)]

/-- The labels a DIRECTORY gives its floors (R40). -/
theorem State.labelBy_peer {s : State} {a : Nat} {d : PeerDirectory} {f : Nat} (hd : (s.peer a).directory = some d)
    (h1 : d.firstFloor ≤ f) (h2 : f < d.firstFloor + d.floorCount) :
    s.labelBy (.peer a) f = d.floorLabels[f - d.firstFloor]? := by
  simp only [State.labelBy, hd, Option.bind_some]
  rw [if_pos (covers_of_le h1 h2)]

/-! ### Sampling ready leaves the rest -/

section

variable (s : State)

theorem samplingReady_address : (samplingReady s).address = s.address := by unfold samplingReady; split <;> rfl

theorem samplingReady_noConfig : (samplingReady s).noConfig = s.noConfig := by unfold samplingReady; split <;> rfl

theorem samplingReady_store : (samplingReady s).store = s.store := by unfold samplingReady; split <;> rfl

theorem samplingReady_peers : (samplingReady s).peers = s.peers := by unfold samplingReady; split <;> rfl

theorem samplingReady_holders : (samplingReady s).holders = s.holders := by unfold samplingReady; split <;> rfl

theorem samplingReady_marks : (samplingReady s).marks = s.marks := by unfold samplingReady; split <;> rfl

theorem samplingReady_blocks : (samplingReady s).rlc.blocks = s.rlc.blocks := by unfold samplingReady; split <;> rfl

end

/-- The store's access is no start-up read. -/
def NoStartupRead (s : State) : Prop := s.store.access.isStartup = false

theorem blind_noStartupRead : Blind NoStartupRead where
  ste _ _ h := h
  rlc _ _ h := h
  port p f s h := by cases p <;> exact h
  notices p f s h := by cases p <;> exact h
  store f s hl h := by
    unfold NoStartupRead at h ⊢
    exact Bool.eq_false_iff.mpr fun ha => Bool.eq_false_iff.mp h (hl.startup ha)

/-! ### The event and its end -/

theorem StoreScan.takeSlot_header (bytes : Option (List Byte)) (x : StoreScan) : (x.takeSlot bytes).header = x.header := by
  unfold StoreScan.takeSlot
  split
  · rfl
  · repeat' split
    all_goals rfl

/-- The read of the last slot, dealt with, makes the store ready (R103). -/
theorem startupReadEnds_last (x : StoreScan) (bytes : Option (List Byte)) (s : State) :
    startupReadEnds (some 95) x bytes s = storeReady (x.takeSlot bytes) s := rfl

/-- The commands that end the read of the last slot (R103, log 11). -/
theorem exec_lastSlot {s : State} {x y : StoreScan} {begun : Nat} {cmd : Instr} (hheld : s.held = false)
    (ha : s.store.access = .startup (some 95) x begun)
    (h : (cmd = .slotReadDone ∧ s.clock - begun ≤ 1 ∧ y = x.takeSlot (some (s.store.memory.readRange 7896 40))) ∨
      (((cmd = .slotReadDone ∧ 1 < s.clock - begun) ∨ (cmd = .startupReadTimeout ∧ 1 ≤ s.clock - begun)) ∧
        y = { x with counts := { x.counts with badCheck := x.counts.badCheck + 1 } })) :
    exec cmd s = .next (settle s (storeReady y s)) ∧ y.header = x.header := by
  have hdone : slotReadDone s = storeReady (x.takeSlot (s.scanRead (some 95) begun)) s := by
    unfold slotReadDone
    rw [ha]
    exact startupReadEnds_last ..
  rcases h with ⟨rfl, hin, rfl⟩ | ⟨⟨rfl, hlate⟩ | ⟨rfl, hlate⟩, rfl⟩
  · have hread : s.scanRead (some 95) begun = some (s.store.memory.readRange 7896 40) :=
      if_pos (show decide (s.clock - begun ≤ 1) = true from decide_eq_true hin)
    rw [hread] at hdone
    refine ⟨(event_running hheld).trans ?_, StoreScan.takeSlot_header ..⟩
    rw [hdone]
  · have hread : s.scanRead (some 95) begun = none :=
      if_neg (show ¬decide (s.clock - begun ≤ 1) = true by rw [decide_eq_true_eq]; omega)
    rw [hread] at hdone
    refine ⟨(event_running hheld).trans ?_, rfl⟩
    rw [hdone]
    rfl
  · have htimeout : startupReadTimeout s = storeReady (x.takeSlot none) s := by
      unfold startupReadTimeout
      rw [ha]
      exact if_pos hlate
    refine ⟨(event_running hheld).trans ?_, rfl⟩
    rw [htimeout]
    rfl

section

variable {y : StoreScan} {s t : State}

/-- The store, the holders and the peers after the store-ready event and its end. -/
theorem storeReady_rest (h : EndsAs (storeReady y s) t) : t.address = s.address ∧ t.peers = s.peers ∧
    t.holders = (s.configured y).holders ∧ t.marks = s.marks ∧ t.store.image = y.header ∧ t.noConfig = y.header.isNone := by
  have hr := readied_rest y s
  rw [storeReady_readied] at h
  refine ⟨?_, ?_, ?_, ?_, ?_, ?_⟩
  · rw [h.address, samplingReady_address, hr.address]; rfl
  · rw [h.peers, samplingReady_peers, hr.peers]; rfl
  · rw [h.holders, samplingReady_holders, hr.holders]
  · rw [h.marks, samplingReady_marks, hr.marks]; rfl
  · rw [h.image, samplingReady_store, hr.store]; rfl
  · rw [h.noConfig, samplingReady_noConfig, hr.noConfig]; rfl

theorem storeReady_line (h : EndsAs (storeReady y s) t) {i : Nat} (hi : i < 16) :
    t.line i = configureLine y.header i (s.line i) := by
  rw [h.line, storeReady_readied, samplingReady_line, readied_line y s hi]

theorem storeReady_entry (h : EndsAs (storeReady y s) t) (o l : Nat) : t.entry o l = (s.readied y).entry o l := by
  rw [h.entry, storeReady_readied, samplingReady_entry]

/-- The Holder Table is formed anew from the claims as they stand (R59). -/
theorem storeReady_holderRow (h : EndsAs (storeReady y s) t) {f : Nat} (hf : f < 256) :
    t.holderRow f = rowFrom t.allClaims f := by
  obtain ⟨ha, hp, ho, -, -, -⟩ := storeReady_rest h
  have hclaims : t.allClaims = (s.configured y).allClaims := State.allClaims_congr ha hp ho
  rw [hclaims, State.holderRow, ho]
  exact tget_tbuild _ hf _

/-- The floor labels follow the owners (R40, R59). -/
theorem storeReady_labels (h : EndsAs (storeReady y s) t) : LabelsFollow none s t := by
  obtain ⟨-, hp, ho, -, himage, -⟩ := storeReady_rest h
  have howner : ∀ f, t.ownerOf f = (s.configured y).ownerOf f := State.ownerOf_congr ho
  have hlabel : ∀ f < 256, (t.floor f).label =
      ((s.configured y).ownerLabel (fun f src => decide (s.ownerOf f ≠ some src)) f <|> (s.floor f).label) := by
    intro f hf
    rw [h.floor, storeReady_readied, samplingReady_floor, readied_label y s hf]
  have hgiven : ∀ f < 256, ∀ o l, t.ownerOf f = some o → (s.ownerOf f ≠ some o ∨ none = some o) →
      (s.configured y).labelBy o f = some l → (t.floor f).label = some l := by
    intro f hf o l hown hne hl
    have hne' : s.ownerOf f ≠ some o := hne.resolve_right (by simp)
    rw [hlabel f hf, State.ownerLabel_of_owner ((howner f).symm.trans hown) (decide_eq_true hne'), hl]
    rfl
  refine ⟨fun f hf hkept => ?_, fun f hf g l hown hne hg h1 h2 hl => ?_, fun f hf a d l hown hne hd h1 h2 hl => ?_⟩
  · rw [hlabel f hf, State.ownerLabel_of_not fun o hown => ?_]
    · cases (s.floor f).label <;> rfl
    · rw [← howner] at hown
      rcases hkept with hnone | ⟨hsame, -⟩
      · rw [hown] at hnone; cases hnone
      · exact decide_eq_false fun hne => hne (hsame.symm.trans hown)
  · exact hgiven f hf _ l hown hne ((State.labelBy_self (himage.symm.trans hg) h1 h2).trans hl)
  · have hd' : ((s.configured y).peer a).directory = some d := by
      rw [State.peer, ← hd, State.peer, hp]; rfl
    exact hgiven f hf _ l hown hne ((State.labelBy_peer hd' h1 h2).trans hl)

/-- STARTING ends in the store-ready event when each line is UNUSED or has a full history (R2, R182). -/
theorem storeReady_starting (h : EndsAs (storeReady y s) t) {complete : Prop}
    (hc : complete ↔ ∀ i < 16, (t.line i).ztype = .unused ∨ (t.line i).history.length = 4) :
    (s.starting = true → complete →
      t.starting = false ∧ t.zones.readyReported = true ∧ t.portA.isOpen = true ∧ t.portB.isOpen = true ∧
      t.rlc.phase = .awaitIdle ∧ t.rlc.joinTimer = some s.clock) ∧
    (¬(s.starting = true ∧ complete) →
      t.starting = s.starting ∧ t.zones.readyReported = s.zones.readyReported ∧
      t.portA.isOpen = s.portA.isOpen ∧ t.portB.isOpen = s.portB.isOpen ∧ t.rlc.phase = s.rlc.phase ∧
      t.rlc.joinTimer = s.rlc.joinTimer) := by
  have hr := readied_rest y s
  have hstart : (s.readied y).starting = s.starting := hr.starting
  have hready : (s.readied y).samplingComplete = true ↔ complete := by
    rw [samplingComplete_iff, hc, and_iff_right (show (s.readied y).zones.configTaken = true from hr.configTaken)]
    refine forall₂_congr fun i hi => ?_
    rw [storeReady_line h hi, ← readied_line y s hi, State.lineEnabled, hr.configTaken,
      show (s.configured y).zones.configTaken = true from rfl, Bool.true_and, decide_eq_true_eq]
    exact ⟨fun himp => or_iff_not_imp_left.mpr himp, fun hor hne => hor.resolve_left hne⟩
  rw [storeReady_readied] at h
  refine ⟨fun hs hcomplete => ?_, fun hnot => ?_⟩
  · have hfull := hready.mpr hcomplete
    obtain ⟨hended, hopened⟩ := samplingReady_opened (hstart.trans hs) hfull
    obtain ⟨-, ha, hb, hphase, hjoin⟩ := h.opened hopened
    have hreported : (samplingReady (s.readied y)).zones.readyReported = true := by
      rw [samplingReady, hstart, hs, hfull]; rfl
    exact ⟨h.starting.trans hended, by rw [h.zones, hreported], ha, hb, hphase, hjoin.trans (congrArg some hr.clock)⟩
  · have hsame : samplingReady (s.readied y) = s.readied y := if_neg (by
      rw [hstart, Bool.and_eq_true, hready]; exact hnot)
    rw [hsame] at h
    refine ⟨h.starting.trans hstart, ?_, ?_, ?_, ?_, ?_⟩
    · rw [h.zones, hr.readyReported]; rfl
    · exact h.openA.trans hr.openA
    · exact h.openB.trans hr.openB
    · rw [h.phase, readied_rlc]
    · rw [h.joinTimer, readied_rlc]

/-- The own entries after the store-ready event: labelled, with no raise; of a disabled line written (R14, R23). -/
theorem storeReady_ownEntry (h : EndsAs (storeReady y s) t) {i : Nat} (hi : i < 16) :
    (t.entry s.ownOrigin i).label = some (t.line i).label ∧ (t.line i).changeNumber = (s.line i).changeNumber ∧
    ((t.line i).ztype = .unused → (t.entry s.ownOrigin i).known = true ∧ (t.entry s.ownOrigin i).ztype = .unused ∧
      (t.entry s.ownOrigin i).zstate = .disabled) := by
  have hl := storeReady_line h hi
  have he := readied_ownEntry y s hi hl
  rw [← storeReady_entry h] at he
  refine ⟨by rw [he]; rfl, by rw [hl, configureLine_changeNumber], fun hz => ?_⟩
  rw [if_pos hz] at he
  rw [he]
  exact ⟨rfl, hz, by rw [hl] at hz ⊢; exact configureLine_disabled hz⟩

end

end Sys2Proof.Machine

open Sys2Proof Sys2Proof.Machine

/-- Settles O25: the event makes no line boost, so its lines are the configured ones and its entries those written. -/
theorem storeReadyFixesImages : Obligations.StoreReadyFixesImages := by
  intro s x y begun cmd hheld ha hcmd
  obtain ⟨hexec, hheader⟩ := exec_lastSlot hheld ha hcmd
  have h : EndsAs (storeReady y s) (settle s (storeReady y s)) := endsAs_settle ..
  have haccess : NoStartupRead (settle s (storeReady y s)) := by
    refine blind_settle blind_noStartupRead s ?_
    rw [NoStartupRead, storeReady_readied, samplingReady_store, (readied_rest y s).store]
    rfl
  generalize settle s (storeReady y s) = t at h haccess hexec
  obtain ⟨-, hpeers, hholders, hmarks, himage, hnoConfig⟩ := storeReady_rest h
  have hstore : (storeReady y s).store = (s.configured y).store := by
    rw [storeReady_readied, samplingReady_store, (readied_rest y s).store]
  have hsheets : t.store.sheets = y.records := by rw [h.sheets, hstore]; rfl
  have hline : ∀ i < 16, t.line i = configureLine x.header i (s.line i) := fun i hi => by
    rw [storeReady_line h hi, hheader]
  refine ⟨t, hexec, by rw [h.ready, hstore]; rfl, haccess, himage.trans hheader, hsheets,
    by rw [h.counts, hstore]; rfl, by rw [hnoConfig, hheader], ?_, ?_, fun i hi hnone => ?_, fun i hi g c hsome hc => ?_,
    fun i hi => storeReady_ownEntry h hi, fun f hf => storeReady_holderRow h hf, storeReady_labels h,
    fun complete hc => storeReady_starting h hc, ?_, by rw [h.memory, hstore]; rfl, hpeers, hmarks,
    fun o _ ho l hl => ?_⟩
  · rw [h.zones, storeReady_readied, samplingReady_configTaken]
    exact (readied_rest y s).configTaken
  · rw [hholders, hsheets, ← hheader]; rfl
  · rw [hline i hi, hnone, configureLine_none]
    exact ⟨rfl, rfl, rfl, rfl⟩
  · rw [hline i hi, hsome, configureLine_some hc]
    split
    · exact ⟨rfl, rfl, rfl, rfl, rfl⟩
    · exact ⟨rfl, rfl, rfl, rfl⟩
  · rw [h.blocks, storeReady_readied, samplingReady_blocks, readied_rlc]
  · rw [storeReady_entry h, readied_other y s ho (by omega)]
end

section
/-! SUPPORT. What each command asks of a property that looks at the attendance lists, at the peers' presence or at the
acknowledgements for it to be kept by every step: that it stands the changes a command can really make of them, and none
besides (R41, R46, R50, R52, R68, R71, R72). -/

namespace Sys2Proof.Machine

open Sys2Proof

/-- What the checks of R31, R67 and R68 leave of the content a frame brings the picture: a good row, an acknowledgement that
the entry takes, or an attendance list with one entry added or removed. -/
def FrameContent.Fits (s : State) : FrameContent → Prop
  | .row payload => zonePayloadGood payload = true
  | .ack o l a => o ≤ 62 ∧ l ≤ 15 ∧ (s.entry o l).zstate.inEpisode = true ∧ a.change = (s.entry o l).changeNumber
  | .attendance f list => (∃ a, list = attendOnList a (s.floor f).attendance) ∨
      ∃ station p, list = attendOffList station p (s.floor f).attendance
  | .directory _ => True
  | .other => True

/-- The property is kept by what the commands do to what it looks at, each content as the checks before it leave it. -/
structure Upheld (P : State → Prop) : Prop extends Blind P where
  marks : ∀ f s, P s → P (s.modMarks f)
  unplaced : ∀ n s, P s → P (s.modPeers fun t => { t with unplacedFrames := n })
  rejected : ∀ n s, P s → P (s.modPeers fun t => { t with rejectedDirectories := n })
  reports : ∀ n s, P s → P (s.modPicture fun p => { p with rejectedReports := n })
  flash : ∀ m s, P s → P (s.modStore (PlanStore.operationOver m))
  draws : ∀ n s, P s → P { s with draws := n }
  attendOn : ∀ f a s, P s → P (setAttendance f (attendOnList a (s.floor f).attendance) s)
  attendOff : ∀ f station p s, P s → P (setAttendance f (attendOffList station p (s.floor f).attendance) s)
  ack : ∀ o l a s, o ≤ 62 → l ≤ 15 → (s.entry o l).zstate.inEpisode = true → a.change = (s.entry o l).changeNumber → P s →
    P (placeAck o l a s)
  heard : ∀ x content s, s.isPeer x = true → content.Fits s → P s → P (frameHeard x content s)
  lost : ∀ x s, s.isPeer x = true → P s → P (peerLost x s)
  sampled : ∀ i < 16, ∀ v s, P s → P (samplingReady (sampleLine i v s))
  startup : ∀ slot scan begun bytes s, s.store.access = .startup slot scan begun → P s →
    P (startupReadEnds slot scan bytes s)
  reset : ∀ a m s t, execReset a m s = .next t → P t
  asserted : ∀ s t, execResetAsserted s = .next t → P t
  clock : ∀ n s, P s → P { s with clock := n }
  pending : ∀ l s, P s → P { s with pending := l }

section

variable {P : State → Prop} {s : State}

/-! ### The riser link -/

theorem upheld_beginTransmission (h : Upheld P) (source : TxSource) (frame : Option Frame) (more : Bool) (hs : P s) :
    P (beginTransmission source frame more s) := by
  unfold beginTransmission
  exact h.rlc _ s hs

theorem upheld_beginTile (h : Upheld P) (c : Nat) (hs : P s) : P (beginTile c s) := by
  unfold beginTile
  split
  · exact hs
  · exact upheld_beginTransmission h _ _ _ hs

theorem upheld_beginClass (h : Upheld P) (k : AccessClass) (hs : P s) : P (beginClass k s) := by
  unfold beginClass
  split
  · exact upheld_beginTransmission h _ _ _ hs
  · unfold beginControl
    split
    · exact hs
    · exact upheld_beginTransmission h _ _ _ hs
  · split
    · exact hs
    · exact upheld_beginTile h _ hs
  · split <;> exact upheld_beginTransmission h _ _ _ hs

theorem upheld_cutTransmission (h : Upheld P) (hs : P s) : P (cutTransmission s) := by
  unfold cutTransmission
  split
  · exact h.rlc _ s hs
  · dsimp only
    split
    · split
      · exact h.rlc _ s hs
      · exact blind_bufferOver h.toBlind _ (h.rlc _ s hs)
    · exact h.rlc _ s hs

theorem upheld_tellNoPath (h : Upheld P) (e : ControlEntry) (hs : P s) : P (tellNoPath s e) := by
  have hc : P (s.countTransfers TransferCounters.notSent) := blind_countTransfers h.toBlind _ hs
  unfold tellNoPath
  split
  · exact h.marks _ s hs
  · dsimp only
    split
    · exact blind_channelNoPath h.toBlind _ hc
    · exact hc
  · exact hc
  · exact hc

theorem upheld_abandonServices (h : Upheld P) (hs : P s) : P (abandonServices s) := by
  refine List.foldlRecOn _ abandonService hs fun t ht c _ => ?_
  unfold abandonService
  split
  · exact blind_closeChannel h.toBlind c ht
  · exact ht

theorem upheld_onset (h : Upheld P) (b : Block) (hs : P s) : P (onset b s) := by
  refine blind_notifyBoth h.toBlind _ (upheld_abandonServices h ?_)
  unfold discardControl
  refine List.foldlRecOn _ tellNoPath ?_ fun t ht e _ => upheld_tellNoPath h e ht
  exact h.rlc _ _ (upheld_cutTransmission h (h.rlc _ s hs))

theorem upheld_silenceAt (h : Upheld P) (n : Nat) (hs : P s) : P (silenceAt n s) := by
  unfold silenceAt
  split
  · exact upheld_onset h _ hs
  · exact hs

theorem upheld_duplicateOnset (h : Upheld P) (hs : P s) : P (duplicateOnset s) :=
  upheld_silenceAt h _ (upheld_onset h _ (h.rlc _ s hs))

theorem upheld_babbleOnset (h : Upheld P) (hs : P s) : P (babbleOnset s) :=
  upheld_silenceAt h _ (upheld_onset h _ (h.rlc _ s hs))

theorem upheld_duplicateEvent (h : Upheld P) (hs : P s) : P (duplicateEvent s) := by
  have hc : P (s.countLink fun k => { k with duplicateEvents := countUp k.duplicateEvents }) :=
    blind_countLink h.toBlind _ hs
  unfold duplicateEvent
  dsimp only
  split
  · exact h.rlc _ _ hc
  · exact upheld_duplicateOnset h hc

theorem upheld_controlSent (h : Upheld P) (hs : P s) : P (controlSent s) := by
  unfold controlSent
  split
  · exact hs
  · dsimp only
    split
    · split
      · exact h.rlc _ s hs
      · exact blind_modChannel h.toBlind _ _ (h.rlc _ s hs)
    all_goals exact h.rlc _ s hs

theorem upheld_serviceAdvance (h : Upheld P) (c b : Nat) (hs : P s) : P (serviceAdvance c b s) := by
  have hc : P ((s.setBuffer b { holder := some c, state := .empty }).setChannel c
      { s.channel c with nextTile := (s.channel c).nextTile + 1 }) :=
    blind_setChannel h.toBlind _ _ (blind_setBuffer h.toBlind _ _ hs)
  unfold serviceAdvance
  dsimp only
  split
  · exact blind_closeChannel h.toBlind c (blind_countTransfers h.toBlind _ hc)
  · exact hc

theorem upheld_holdingSent (h : Upheld P) (t : Transmission) (hs : P s) : P (holdingSent t s) := by
  unfold holdingSent
  split
  · exact h.rlc _ s hs
  · exact h.rlc _ s hs
  · exact upheld_controlSent h hs
  · unfold tileSent
    dsimp only
    split
    · exact upheld_serviceAdvance h _ _ (h.rlc _ s hs)
    · exact blind_bufferOver h.toBlind _ (h.rlc _ s hs)
  · exact hs

theorem upheld_completeTransmission (h : Upheld P) (hs : P s) : P (completeTransmission s) := by
  unfold completeTransmission
  split
  · exact hs
  · split
    · exact h.rlc _ s hs
    · exact upheld_holdingSent h _ (h.rlc _ s hs)

theorem upheld_holdingAbandoned (h : Upheld P) (t : Transmission) (hs : P s) : P (holdingAbandoned t s) := by
  unfold holdingAbandoned
  split
  · exact h.rlc _ s hs
  · split
    · exact hs
    · exact blind_bufferOver h.toBlind _ hs
  all_goals exact hs

theorem upheld_abandonAttempt (h : Upheld P) (hs : P s) : P (abandonAttempt s) := by
  unfold abandonAttempt
  split
  · exact hs
  · split
    · exact hs
    · have ha : ∀ t, P (holdingAbandoned t (s.modRlc RiserLink.attemptAbandoned)) := fun t =>
        upheld_holdingAbandoned h t (h.rlc _ s hs)
      unfold lineFault
      split
      · exact upheld_onset h _ (h.rlc _ _ (h.rlc _ _ (ha _)))
      · exact ha _

/-! ### Frames -/

/-- A frame is handed on only when its origin is a peer (R94). -/
theorem upheld_receiveFrame (h : Upheld P) (f : Frame) {act : State → State}
    (hact : ∀ u : State, u.isPeer f.origin = true → P u → P (act u)) (hs : P s) : P (receiveFrame f act s) := by
  have hf : P (s.modRlc (RiserLink.frameEnds f)) := h.rlc _ s hs
  unfold receiveFrame
  split
  · dsimp only
    split
    · exact upheld_duplicateEvent h hf
    · rename_i hne
      split
      · exact blind_countLink h.toBlind _ hf
      · split
        · exact blind_countLink h.toBlind _ hf
        · split
          · rename_i hv
            refine hact _ ?_ (blind_countLink h.toBlind _ hf)
            rw [State.isPeer, hv, Bool.true_and, decide_eq_true_eq]
            exact hne
          · exact h.unplaced _ _ (blind_countLink h.toBlind _ hf)
  · exact hs

theorem upheld_takeZoneState (h : Upheld P) (x : Nat) (payload : List Byte) (hx : s.isPeer x = true) (hs : P s) :
    P (takeZoneState x payload s) := by
  unfold takeZoneState
  split
  · rename_i hgood
    exact h.heard x _ s hx hgood hs
  · exact h.reports (countUp (frameHeard x .other s).picture.rejectedReports) _ (h.heard x .other s hx trivial hs)

theorem upheld_takeDirectory (h : Upheld P) (x : Nat) (payload : List Byte) (hx : s.isPeer x = true) (hs : P s) :
    P (takeDirectory x payload s) := by
  unfold takeDirectory
  split
  · exact h.heard x _ s hx trivial hs
  · exact h.rejected (countUp (frameHeard x .other s).peers.rejectedDirectories) _ (h.heard x .other s hx trivial hs)

/-- An acknowledgement of a good MARK ACK that applies is one its entry takes (R67, R68). -/
theorem fits_ack {x : Nat} {p : List Byte} {s : State} {a : Ack} (hgood : markGood x p = true) (hkind : byteAt p 0 = 1)
    (happlies : ackApplies (s.entry (byteAt p 11) (byteAt p 12)) (halfAt p 13) = true) (hchange : a.change = halfAt p 13) :
    (FrameContent.ack (byteAt p 11) (byteAt p 12) a).Fits s := by
  simp only [ackApplies, Bool.and_eq_true, decide_eq_true_eq] at happlies
  obtain ⟨⟨⟨-, hnumber⟩, hepisode⟩, -⟩ := happlies
  simp only [markGood, Bool.and_eq_true, if_pos hkind, decide_eq_true_eq] at hgood
  obtain ⟨-, ⟨-, hstation⟩, hline⟩ := hgood
  exact ⟨hstation, hline, hepisode, hchange.trans hnumber.symm⟩

theorem upheld_takeMark (h : Upheld P) (x : Nat) (p : List Byte) (hx : s.isPeer x = true) (hs : P s) :
    P (takeMark x p s) := by
  have hcounted : ∀ f, P (countedMark x f s) := fun f => h.marks f _ (h.heard x .other s hx trivial hs)
  unfold takeMark
  split
  · exact hcounted _
  · rename_i hgood
    rw [Bool.not_eq_true', Bool.not_eq_false] at hgood
    split
    · rename_i hkind
      unfold takeMarkAck
      split
      · rename_i happlies
        exact h.heard x _ s hx (fits_ack hgood hkind happlies rfl) hs
      · exact hcounted _
    · split
      · exact h.heard x _ s hx (.inl ⟨_, rfl⟩) hs
      · unfold takeMarkOff
        dsimp only
        split
        · exact h.heard x _ s hx (.inr ⟨_, _, rfl⟩) hs
        · exact h.heard x .other s hx trivial hs

theorem upheld_takeSheetRequest (h : Upheld P) (x : Nat) (p : List Byte) (hs : P s) : P (takeSheetRequest x p s) := by
  unfold takeSheetRequest
  split
  · exact blind_countTransfers h.toBlind _ hs
  · split
    · exact blind_submitRefuse h.toBlind _ _ _ hs
    · unfold newService
      split
      · exact blind_submitRefuse h.toBlind _ _ _ hs
      · split
        · exact blind_submitRefuse h.toBlind _ _ _ hs
        · exact blind_claimBuffers h.toBlind _ _ (blind_setChannel h.toBlind _ _ hs)
    · exact blind_submitRefuse h.toBlind _ _ _ (blind_closeChannel h.toBlind _ hs)
    · rename_i c r _ _
      have hd : P ((discardTiles c (fun _ => true) (withdrawReads c s)).modRlc (RiserLink.orphan c)) :=
        h.rlc _ _ (blind_discardTiles h.toBlind c _ (blind_withdrawReads h.toBlind c hs))
      unfold replaceService
      dsimp only
      split
      · exact blind_claimBuffers h.toBlind _ _ (blind_setChannel h.toBlind _ _ hd)
      · unfold keepOneBuffer
        split
        · split
          · exact blind_setChannel h.toBlind _ _ hd
          · exact blind_setBuffer h.toBlind _ _ (blind_setChannel h.toBlind _ _ hd)
        · exact blind_setChannel h.toBlind _ _ hd

theorem upheld_takeSheetCancel (h : Upheld P) (x : Nat) (p : List Byte) (hs : P s) : P (takeSheetCancel x p s) := by
  unfold takeSheetCancel
  split
  · exact blind_closeChannel h.toBlind _ hs
  · exact blind_countTransfers h.toBlind _ hs

theorem upheld_takeSheetTile (h : Upheld P) (x : Nat) (p : List Byte) (hs : P s) : P (takeSheetTile x p s) := by
  have hstray : P (strayTile s) := blind_countTransfers h.toBlind _ hs
  unfold takeSheetTile
  split
  · exact hstray
  · split
    · exact hstray
    · split
      · unfold acceptTile
        split
        · exact hs
        · exact blind_modChannel h.toBlind _ _ (blind_setBuffer h.toBlind _ _ hs)
      · split
        · exact blind_gapEvent h.toBlind _ hstray
        · exact hstray

theorem upheld_takeSheetRefuse (h : Upheld P) (x : Nat) (p : List Byte) (hs : P s) : P (takeSheetRefuse x p s) := by
  have hstray : P (s.countTransfers fun n => { n with strayRefuses := countUp n.strayRefuses }) :=
    blind_countTransfers h.toBlind _ hs
  unfold takeSheetRefuse
  dsimp only
  split
  · split
    · unfold channelRefused
      dsimp only
      split
      · split
        · exact blind_modChannel h.toBlind _ _ hs
        · exact blind_moveNext h.toBlind _ _ hs
      · exact blind_moveNext h.toBlind _ _ (blind_modChannel h.toBlind _ _ hs)
    · exact hstray
  · exact hstray

theorem upheld_holderLoss (h : Upheld P) (x : Nat) (hs : P s) : P (holderLoss x s) := by
  refine List.foldlRecOn _ (loseRequester x) (List.foldlRecOn _ (loseHolder x) hs fun t ht c _ => ?_) fun t ht c _ => ?_
  · unfold loseHolder
    split
    · exact blind_moveNext h.toBlind c false ht
    · exact ht
  · unfold loseRequester
    split
    · exact blind_closeChannel h.toBlind c ht
    · exact ht

theorem upheld_silenceExpiry (h : Upheld P) (x : Nat) (hs : P s) : P (silenceExpiry x s) := by
  unfold silenceExpiry
  split
  · rename_i hx
    simp only [State.present, Bool.and_eq_true] at hx
    exact upheld_holderLoss h x (h.lost x s hx.1.1 hs)
  · exact hs

/-! ### Crew requests -/

theorem upheld_submitMark (h : Upheld P) (payload : List Byte) (hs : P s) : P (submitMark payload s) := by
  have hc : P (if s.rlc.answer = .queued then s else s.modMarks MarkCounts.oneNotSent) := by
    split
    · exact hs
    · exact h.marks _ s hs
  exact h.rlc (RiserLink.submit .mark 63 payload .mark) _ hc

theorem upheld_acceptAttendOff (h : Upheld P) (p : Port) (label : Text) (f : Nat) (hs : P s) :
    P (acceptAttendOff p label f s) := by
  refine upheld_submitMark h _ ?_
  unfold attendOffFloor
  split
  · exact h.attendOff _ _ _ s hs
  · exact hs

theorem upheld_withdrawAttendance (h : Upheld P) (p : Port) (hs : P s) : P (withdrawAttendance p s) := by
  unfold withdrawAttendance
  split
  · exact hs
  · refine List.foldlRecOn _ _ hs fun t ht f _ => ?_
    unfold withdrawFloor
    split
    · exact upheld_acceptAttendOff h p _ f ht
    · exact ht

theorem upheld_cancelChannel (h : Upheld P) (p : Port) (c : Nat) (hs : P s) : P (cancelChannel p c s) := by
  have hc : P (if (s.channel c).isRemote then submitCancel c s else s) := by
    split
    · exact blind_submitCancel h.toBlind c hs
    · exact hs
  exact h.port p _ _ (blind_closeChannel h.toBlind c (blind_withdrawRequest h.toBlind c hc))

theorem upheld_leavePort (h : Upheld P) (p : Port) (hs : P s) : P (leavePort p s) := by
  refine h.notices p _ _ (List.foldlRecOn _ (cancelOwned p) (upheld_withdrawAttendance h p hs) fun t ht c _ => ?_)
  unfold cancelOwned
  split
  · exact upheld_cancelChannel h p c ht
  · exact ht

theorem upheld_portReset (h : Upheld P) (p : Port) (hs : P s) : P (portReset p s) := by
  have hp : P ((leavePort p s).modPort p CrewPort.afterReset) := h.port p _ _ (upheld_leavePort h p hs)
  unfold portReset
  dsimp only
  split
  · exact h.store _ _ (PlanStore.lasts_discardResponses _) hp
  · exact hp

theorem upheld_respondParts (h : Upheld P) (p : Port) (kind : Nat) (result : Result) (parts : List (List Byte)) (hs : P s) :
    P (respondParts p kind result parts s) := by
  unfold respondParts
  exact h.port p _ s hs

theorem upheld_respond (h : Upheld P) (p : Port) (kind : Nat) (result : Result) (fields : List Byte) (hs : P s) :
    P (respond p kind result fields s) := upheld_respondParts h p kind result [fields] hs

theorem upheld_takeSheet (h : Upheld P) (p : Port) (floor kind first last revision : Nat) (hs : P s) :
    P (takeSheet p floor kind first last revision s).1 := by
  have htag : P (s.modSte fun e => { e with tagCounter := s.nextTag }) := h.ste _ s hs
  unfold takeSheet
  dsimp only
  split
  · exact hs
  · split
    · exact hs
    · split
      · exact hs
      · split
        · exact hs
        · split
          · exact hs
          · split
            · exact hs
            · split
              · exact htag
              · exact kept_ite (Q := fun r : State × Result × List Byte => P r.1) htag
                  (blind_enterSource h.toBlind _ _ (blind_setChannel h.toBlind _ _ htag))

theorem upheld_takeCancel (h : Upheld P) (p : Port) (c : Nat) (hs : P s) : P (takeCancel p c s).1 := by
  unfold takeCancel
  split
  · exact upheld_cancelChannel h p c hs
  · exact hs

theorem upheld_takeAck (h : Upheld P) (p : Port) (station line change : Nat) (hs : P s) :
    P (takeAck p station line change s).1 := by
  unfold takeAck
  dsimp only
  split
  · exact hs
  · split
    · exact hs
    · split
      · exact hs
      · rename_i hzone
        split
        · exact hs
        · rename_i hepisode
          split
          · exact hs
          · rename_i hchange
            split
            · exact hs
            · simp only [Bool.or_eq_true, Bool.not_eq_true', decide_eq_true_eq, not_or, not_lt, Bool.not_eq_false,
                validAddress, Bool.and_eq_true] at hzone
              obtain ⟨⟨⟨-, hstation⟩, hline⟩, -⟩ := hzone
              exact upheld_submitMark h _
                (h.ack _ _ _ s hstation hline (by simpa using hepisode) (not_not.mp hchange).symm hs)

theorem upheld_takeAttendOn (h : Upheld P) (p : Port) (f : Nat) (hs : P s) : P (takeAttendOn p f s).1 := by
  unfold takeAttendOn
  dsimp only
  split
  · exact hs
  · split
    · exact hs
    · exact upheld_submitMark h _ (h.attendOn _ _ s hs)

theorem upheld_takeAttendOff (h : Upheld P) (p : Port) (f : Nat) (hs : P s) : P (takeAttendOff p f s).1 := by
  unfold takeAttendOff
  dsimp only
  split
  · exact hs
  · split
    · exact hs
    · exact upheld_acceptAttendOff h p _ f hs

theorem upheld_acceptOperation (h : Upheld P) (kind : Nat) (op : MaintOp) (p : Port) (hs : P s) :
    P (acceptOperation kind op p s) := by
  unfold acceptOperation
  split
  · exact upheld_respond h p kind _ _ hs
  · exact h.store _ s ⟨rfl, rfl, rfl, rfl, rfl, id⟩ hs

theorem upheld_serveAttach (h : Upheld P) (p : Port) (body : List Byte) (hs : P s) : P (serveAttach p body s) := by
  have ha : ∀ label, P (attachPort p label s) := fun label => by
    unfold attachPort
    dsimp only
    split
    · exact h.port p _ s hs
    · exact h.notices p _ _ (h.port p _ s hs)
  unfold serveAttach
  split
  · exact upheld_respond h p _ _ _ (ha _)
  · exact upheld_respond h p _ _ _ hs

theorem upheld_serveFinish (h : Upheld P) (p : Port) (level : Nat) (hs : P s) : P (serveFinish p level s) := by
  unfold serveFinish
  split
  · exact upheld_respond h p _ _ _ hs
  · unfold finishRecord
    exact h.notices p _ _ (upheld_respond h p _ _ _ (h.notices p _ s hs))

theorem upheld_serveStreamOn (h : Upheld P) (p : Port) (period : Nat) (hs : P s) : P (serveStreamOn p period s) := by
  have ho : P (s.modPort p fun q => { q with stream := { q.stream with isOn := true, period := clampPeriod period } }) :=
    h.port p _ s hs
  refine upheld_respond h p _ _ _ ?_
  split
  · exact ho
  · exact blind_startPass h.toBlind p ho

theorem upheld_serveStatus (h : Upheld P) (p : Port) (clear : Nat) (hs : P s) : P (serveStatus p clear s) := by
  unfold serveStatus
  dsimp only
  split
  · exact h.notices p _ _ (h.port p _ _ (upheld_respondParts h p _ _ _ hs))
  · exact upheld_respondParts h p _ _ _ hs

/-- A request handed to the block that serves it (R151). -/
theorem upheld_serveKind (h : Upheld P) (p : Port) (body : List Byte) (k : RequestKind) (hs : P s) :
    P (serveKind p body s k) := by
  cases k with
  | attach => exact upheld_serveAttach h p body hs
  | detach => exact upheld_respond h p _ _ _ (h.port p _ _ (upheld_leavePort h p hs))
  | picture =>
    simp only [serveKind, servePicture]
    split <;> exact upheld_respond h p _ _ _ hs
  | floor =>
    simp only [serveKind, serveFloor]
    exact h.notices p _ _ (upheld_respondParts h p _ _ _ hs)
  | watch => exact upheld_respond h p _ _ _ (h.notices p _ s hs)
  | sheet => exact upheld_respond h p _ _ _ (upheld_takeSheet h p _ _ _ _ _ hs)
  | cancel => exact upheld_respond h p _ _ _ (upheld_takeCancel h p _ hs)
  | ack => exact upheld_respond h p _ _ _ (upheld_takeAck h p _ _ _ hs)
  | attend =>
    refine upheld_respond h p _ _ _ ?_
    split
    · exact upheld_takeAttendOn h p _ hs
    · exact upheld_takeAttendOff h p _ hs
  | peek =>
    simp only [serveKind, servePeek]
    split <;> exact upheld_respond h p _ _ _ hs
  | finish => exact upheld_serveFinish h p _ hs
  | mask => exact upheld_respond h p _ _ _ (h.notices p _ s hs)
  | stream =>
    simp only [serveKind]
    split
    · exact upheld_serveStreamOn h p _ hs
    · exact upheld_respond h p _ _ _ (h.port p _ s hs)
  | status => exact upheld_serveStatus h p _ hs
  | storeWrite =>
    simp only [serveKind, serveStoreWrite]
    split
    · exact upheld_respond h p _ _ _ hs
    · exact upheld_acceptOperation h _ _ p hs
  | storeErase =>
    simp only [serveKind, serveStoreErase]
    split
    · exact upheld_respond h p _ _ _ hs
    · exact upheld_acceptOperation h _ _ p hs
  | storeCheck => exact upheld_acceptOperation h _ _ p hs

theorem upheld_dispatch (h : Upheld P) (p : Port) (r : Request) (hs : P s) : P (dispatch p r s) := by
  unfold dispatch
  split
  · exact upheld_respond h p _ _ _ hs
  · split
    · exact upheld_respond h p _ _ _ hs
    · split
      · exact upheld_respond h p _ _ _ hs
      · exact upheld_serveKind h p _ _ hs

theorem upheld_takeRequests (h : Upheld P) (p : Port) (n : Nat) (hs : P s) : P (takeRequests p n s) := by
  induction n generalizing s with
  | zero => exact hs
  | succ n ih =>
    unfold takeRequests
    split
    · exact ih (upheld_dispatch h p _ (h.port p _ s hs))
    · exact hs

theorem upheld_crewRequest (h : Upheld P) (p : Port) (kind : Byte) (body : List Byte) (hs : P s) :
    P (crewRequest p kind body s) := by
  have hr : P (s.modPort p fun q => { q with receiving := false }) := h.port p _ s hs
  unfold crewRequest
  split
  · dsimp only
    split
    · exact h.port p _ _ hr
    · exact upheld_takeRequests h p _ (h.port p _ _ hr)
  · exact hs

theorem upheld_messageReceived (h : Upheld P) (p : Port) (kind : Byte) (body : List Byte) (check : Half) (hs : P s) :
    P (messageReceived p kind body check s) := by
  unfold messageReceived
  split
  · split
    · exact h.port p _ s hs
    · exact upheld_crewRequest h p _ _ hs
  · exact hs

theorem upheld_framingFailure (h : Upheld P) (p : Port) (hs : P s) : P (framingFailure p s) := by
  unfold framingFailure
  split
  · exact h.port p _ s hs
  · exact hs

theorem upheld_lengthFault (h : Upheld P) (p : Port) (n : Nat) (hs : P s) : P (lengthFault p n s) := by
  unfold lengthFault
  split
  · exact upheld_framingFailure h p hs
  · split
    · exact h.port p _ s hs
    · exact hs

theorem upheld_sourceSent (h : Upheld P) (p : Port) (m : OutMessage) (hs : P s) : P (sourceSent p m s) := by
  unfold sourceSent
  split
  · exact h.port p _ s hs
  · exact h.port p _ s hs
  · exact hs
  · exact hs
  · split
    · exact blind_modChannel h.toBlind _ _ hs
    · exact hs
  · split
    · unfold sheetEndSent
      split
      · exact hs
      · exact blind_closeChannel h.toBlind _ (blind_transferEvent h.toBlind _ _ hs)
    · exact hs
  · exact hs

theorem upheld_endMessage (h : Upheld P) (p : Port) (hs : P s) : P (endMessage p s) := by
  unfold endMessage
  split
  · exact hs
  · exact upheld_takeRequests h p _ (upheld_sourceSent h p _ (h.port p _ s hs))

/-! ### The plan store -/

theorem upheld_storeResult (h : Upheld P) (discard : Bool) (kind : Nat) (result : Result) (fields : List Byte) (hs : P s) :
    P (storeResult discard kind result fields s) := by
  unfold storeResult
  split
  · exact hs
  · exact h.port .a _ s hs

theorem upheld_beginAccess (h : Upheld P) (hs : P s) : P (beginAccess s) := by
  unfold beginAccess
  split
  · split
    · split
      · exact h.store _ s (PlanStore.lasts_start ..) hs
      · exact hs
    · exact h.store _ s (PlanStore.lasts_start ..) hs
  · exact hs

theorem upheld_tileReadEnds (h : Upheld P) (r : TileRead) (withdrawn : Bool) (data : Option (List Byte)) (hs : P s) :
    P (tileReadEnds r withdrawn data s) := by
  have hb : P (beginAccess (s.modStore fun p => { p with access := .free })) :=
    upheld_beginAccess h (h.store _ s ⟨rfl, rfl, rfl, rfl, rfl, fun ha => Bool.noConfusion ha⟩ hs)
  unfold tileReadEnds
  dsimp only
  split
  · exact blind_bufferOver h.toBlind _ hb
  · exact blind_readResult h.toBlind _ _ hb

theorem upheld_tileTooLate (h : Upheld P) (r : TileRead) (withdrawn : Bool) (hs : P s) : P (tileTooLate r withdrawn s) :=
  upheld_tileReadEnds h _ _ _ (h.store (fun p => { p with timeouts := countUp p.timeouts }) s
    ⟨rfl, rfl, rfl, rfl, rfl, id⟩ hs)

theorem upheld_tileDelivered (h : Upheld P) (r : TileRead) (withdrawn : Bool) (hs : P s) :
    P (tileDelivered r withdrawn s) := by
  refine upheld_tileReadEnds h _ _ _ (h.store _ s ?_ hs)
  unfold PlanStore.countRead
  split <;> exact ⟨rfl, rfl, rfl, rfl, rfl, id⟩

theorem upheld_writeFaulted (h : Upheld P) (offset : Nat) (data : List Byte) (discard : Bool) (hs : P s) :
    P (writeFaulted offset data discard s) :=
  upheld_storeResult h _ _ _ _ (h.draws _ _ (h.flash _ s hs))

theorem upheld_eraseFaulted (h : Upheld P) (block : Nat) (discard : Bool) (hs : P s) : P (eraseFaulted block discard s) :=
  upheld_storeResult h _ _ _ _ (h.draws _ _ (h.flash _ s hs))

theorem upheld_storeWriteDone (h : Upheld P) (hs : P s) : P (storeWriteDone s) := by
  unfold storeWriteDone
  split
  · split
    · unfold writeCompleted
      dsimp only
      split <;> exact upheld_storeResult h _ _ _ _ (h.flash _ s hs)
    · exact upheld_writeFaulted h _ _ _ hs
  · exact hs

theorem upheld_storeWriteTimeout (h : Upheld P) (hs : P s) : P (storeWriteTimeout s) := by
  unfold storeWriteTimeout
  split
  · split
    · exact upheld_writeFaulted h _ _ _ hs
    · exact hs
  · exact hs

theorem upheld_storeEraseDone (h : Upheld P) (hs : P s) : P (storeEraseDone s) := by
  unfold storeEraseDone
  split
  · split
    · exact upheld_storeResult h _ _ _ _ (h.flash _ s hs)
    · exact upheld_eraseFaulted h _ _ hs
  · exact hs

theorem upheld_storeEraseTimeout (h : Upheld P) (hs : P s) : P (storeEraseTimeout s) := by
  unfold storeEraseTimeout
  split
  · split
    · exact upheld_eraseFaulted h _ _ hs
    · exact hs
  · exact hs

theorem upheld_checkReadEnds (h : Upheld P) (slot : Option Nat) (x : StoreScan) (discard : Bool)
    (bytes : Option (List Byte)) (hs : P s) : P (checkReadEnds slot x discard bytes s) := by
  unfold checkReadEnds
  dsimp only
  split
  · exact h.store _ s ⟨rfl, rfl, rfl, rfl, rfl, fun ha => Bool.noConfusion ha⟩ hs
  · exact upheld_storeResult h _ _ _ _
      (h.store _ s ⟨rfl, rfl, rfl, rfl, rfl, fun ha => Bool.noConfusion ha⟩ hs)

/-! ### Start-up and samples -/

theorem upheld_headerReadDone (h : Upheld P) (hs : P s) : P (headerReadDone s) := by
  unfold headerReadDone
  split
  · rename_i ha
    exact h.startup _ _ _ _ s ha hs
  · exact hs

theorem upheld_slotReadDone (h : Upheld P) (hs : P s) : P (slotReadDone s) := by
  unfold slotReadDone
  split
  · rename_i ha
    exact h.startup _ _ _ _ s ha hs
  · exact hs

theorem upheld_startupReadTimeout (h : Upheld P) (hs : P s) : P (startupReadTimeout s) := by
  unfold startupReadTimeout
  split
  · rename_i ha
    split
    · exact h.startup _ _ _ _ s ha hs
    · exact hs
  · exact hs

theorem upheld_sampleMark (h : Upheld P) (values : Vector (BitVec 10) 16) (hs : P s) : P (sampleMark values s) := by
  refine List.foldlRecOn _ (sampleEvent values) hs fun t ht i hi => ?_
  unfold sampleEvent
  split
  · exact blind_settle h.toBlind t (h.sampled i (List.mem_range.mp hi) _ t ht)
  · exact ht

theorem upheld_sampleWhen (h : Upheld P) (i : Fin 16) (v : Nat) (test : LineRecord → LineClass → Bool) (hs : P s) :
    P (sampleWhen i.val v test s) := by
  unfold sampleWhen
  split
  · exact hs
  · split
    · exact h.sampled i.val i.isLt v s hs
    · exact hs

/-! ### Events -/

theorem upheld_event (h : Upheld P) {f : State → State} {t : State} (hs : P s) (hf : P (f s)) (he : event f s = .next t) :
    P t := by
  cases he
  split
  · exact hs
  · exact blind_settle h.toBlind s hf

/-- The commands that move the receiver between idle and activity, or drive the yield mark. -/
theorem upheld_idleLine (h : Upheld P) (hs : P s) : P (idleDetected s) ∧ P (idleRoundBegins s) ∧ P (lineActive s) ∧
    P (dominantSensed s) ∧ P (yieldMarkDriven s) := by
  refine ⟨kept_ite (h.rlc _ s hs) hs, ?_, ?_, ?_,
    kept_ite (h.rlc _ _ (upheld_beginTransmission h _ _ _ hs)) hs⟩
  · unfold idleRoundBegins
    split
    · exact h.rlc _ s hs
    all_goals exact hs
  · unfold lineActive
    split
    · exact h.rlc _ s hs
    all_goals exact hs
  · unfold dominantSensed
    split
    · exact hs
    · exact h.rlc _ s hs

theorem upheld_startMoment (h : Upheld P) (offset : Nat) (hs : P s) : P (startMoment offset s) := by
  unfold startMoment
  split
  · split
    · split
      · exact upheld_beginClass h _ hs
      · exact h.rlc _ s hs
    · exact hs
  · exact hs

theorem upheld_burstContinues (h : Upheld P) (hs : P s) : P (burstContinues s) := by
  unfold burstContinues
  split
  · exact kept_ite (upheld_beginTile h _ (h.rlc _ s hs)) (h.rlc _ s hs)
  · exact hs

theorem upheld_guardCut (h : Upheld P) (hs : P s) : P (guardCut s) := by
  unfold guardCut
  split
  · exact hs
  · exact kept_ite (upheld_babbleOnset h (blind_countLink h.toBlind _ hs)) hs

theorem upheld_receiveFailure (h : Upheld P) (bytes : List LineByte) (hs : P s) : P (receiveFailure bytes s) := by
  unfold receiveFailure
  split
  · exact hs
  · exact kept_ite (h.rlc _ s hs) hs

theorem upheld_gapExpiry (h : Upheld P) (c : Nat) (hs : P s) : P (gapExpiry c s) :=
  kept_ite (blind_gapEvent h.toBlind c (blind_modChannel h.toBlind c _ hs)) hs

theorem upheld_tileReadTimeout (h : Upheld P) (hs : P s) : P (tileReadTimeout s) := by
  unfold tileReadTimeout
  split
  · exact kept_ite (upheld_tileTooLate h _ _ hs) hs
  · exact hs

theorem upheld_execTileReadEnd (h : Upheld P) {t : State} (hs : P s) (he : execTileReadEnd s = .next t) : P t := by
  unfold execTileReadEnd at he
  split at he
  · split at he
    · split at he
      · cases he
      · exact upheld_event h hs (upheld_tileDelivered h _ _ hs) he
    · exact upheld_event h hs (upheld_tileTooLate h _ _ hs) he
  · cases he
    exact hs

theorem upheld_storeCheckReadDone (h : Upheld P) (hs : P s) : P (storeCheckReadDone s) := by
  unfold storeCheckReadDone
  split
  · exact upheld_checkReadEnds h _ _ _ _ hs
  · exact hs

theorem upheld_storeCheckReadTimeout (h : Upheld P) (hs : P s) : P (storeCheckReadTimeout s) := by
  unfold storeCheckReadTimeout
  split
  · exact kept_ite (upheld_checkReadEnds h _ _ _ _ hs) hs
  · exact hs

/-- Every command keeps the property. -/
theorem Upheld.exec (h : Upheld P) {c : Instr} {t : State} (hs : P s) (he : exec c s = .next t) : P t := by
  have frame : ∀ {kind origin dest payload} {act : State → State},
      (∀ u : State, u.isPeer origin.toNat = true → P u → P (act u)) →
      event (receiveFrame (frameOf kind origin dest payload) act) s = .next t → P t :=
    fun hact => upheld_event h hs (upheld_receiveFrame h _ hact hs)
  have request : ∀ {p kind body}, event (crewRequest p kind body) s = .next t → P t :=
    upheld_event h hs (upheld_crewRequest h _ _ _ hs)
  obtain ⟨hidle, hround, hactive, hsensed, hyield⟩ := upheld_idleLine h hs
  cases c with
  | reset a m => exact h.reset a m s t he
  | resetAsserted => exact h.asserted s t he
  | headerReadDone => exact upheld_event h hs (upheld_headerReadDone h hs) he
  | slotReadDone => exact upheld_event h hs (upheld_slotReadDone h hs) he
  | startupReadTimeout => exact upheld_event h hs (upheld_startupReadTimeout h hs) he
  | sample values => exact kept_quietEvent hs (upheld_sampleMark h values hs) he
  | confirmTimerExpiry i v => exact upheld_event h hs (upheld_sampleWhen h i _ _ hs) he
  | troubleTimerExpiry i v => exact upheld_event h hs (upheld_sampleWhen h i _ _ hs) he
  | restoreTimerExpiry i v => exact upheld_event h hs (upheld_sampleWhen h i _ _ hs) he
  | normalHoldTimerExpiry i v => exact upheld_event h hs (upheld_sampleWhen h i _ _ hs) he
  | decayTimerExpiry i v => exact upheld_event h hs (upheld_sampleWhen h i _ _ hs) he
  | joinListenEnd => exact kept_quietEvent hs (kept_ite (h.rlc _ _ (h.rlc _ s hs)) hs) he
  | idleDetection => exact kept_quietEvent hs hidle he
  | idleRound => exact kept_quietEvent hs hround he
  | startMoment offset => exact kept_quietEvent hs (upheld_startMoment h offset hs) he
  | transmissionComplete => exact upheld_event h hs (upheld_completeTransmission h hs) he
  | attemptAbandoned => exact upheld_event h hs (upheld_abandonAttempt h hs) he
  | burstContinuation => exact kept_quietEvent hs (upheld_burstContinues h hs) he
  | dominantSensed => exact kept_quietEvent hs hsensed he
  | yieldMark => exact kept_quietEvent hs hyield he
  | transmitGuardCut => exact upheld_event h hs (upheld_guardCut h hs) he
  | duplicateHoldExpiry => exact kept_quietEvent hs (kept_ite (h.rlc _ _ (h.rlc _ s hs)) hs) he
  | babbleClear => exact kept_quietEvent hs (kept_ite (h.rlc _ _ (h.rlc _ s hs)) hs) he
  | lineClear => exact kept_quietEvent hs (kept_ite (h.rlc _ _ (h.rlc _ s hs)) hs) he
  | duplicateCountDecay => exact kept_quietEvent hs (kept_ite (h.rlc _ s hs) hs) he
  | babbleCountDecay => exact kept_quietEvent hs (kept_ite (h.rlc _ s hs) hs) he
  | refreshTimerExpiry => exact kept_quietEvent hs (kept_ite (h.rlc _ s hs) hs) he
  | directoryTimerExpiry => exact kept_quietEvent hs (kept_ite (h.rlc _ s hs) hs) he
  | receiveFailure bytes => exact kept_quietEvent hs (upheld_receiveFailure h bytes hs) he
  | lineActivity => exact kept_quietEvent hs hactive he
  | zoneState cls origin dest payload => exact frame (fun _ hx hu => upheld_takeZoneState h _ _ hx hu) he
  | directory origin dest payload => exact frame (fun _ hx hu => upheld_takeDirectory h _ _ hx hu) he
  | sheetRequest origin dest payload =>
    exact frame (fun u hx hu => upheld_takeSheetRequest h _ _ (h.heard _ .other u hx trivial hu)) he
  | sheetRefuse origin dest payload =>
    exact frame (fun u hx hu => upheld_takeSheetRefuse h _ _ (h.heard _ .other u hx trivial hu)) he
  | sheetCancel origin dest payload =>
    exact frame (fun u hx hu => upheld_takeSheetCancel h _ _ (h.heard _ .other u hx trivial hu)) he
  | sheetTile origin dest payload =>
    exact frame (fun u hx hu => upheld_takeSheetTile h _ _ (h.heard _ .other u hx trivial hu)) he
  | markAck origin dest payload => exact frame (fun _ hx hu => upheld_takeMark h _ _ hx hu) he
  | markAttendOn origin dest payload => exact frame (fun _ hx hu => upheld_takeMark h _ _ hx hu) he
  | markAttendOff origin dest payload => exact frame (fun _ hx hu => upheld_takeMark h _ _ hx hu) he
  | silenceTimerExpiry peer => exact upheld_event h hs (upheld_silenceExpiry h _ hs) he
  | tileReadEnd => exact upheld_execTileReadEnd h hs he
  | tileReadTimeout => exact upheld_event h hs (upheld_tileReadTimeout h hs) he
  | storeWriteDone => exact upheld_event h hs (upheld_storeWriteDone h hs) he
  | storeWriteTimeout => exact upheld_event h hs (upheld_storeWriteTimeout h hs) he
  | storeEraseDone => exact upheld_event h hs (upheld_storeEraseDone h hs) he
  | storeEraseTimeout => exact upheld_event h hs (upheld_storeEraseTimeout h hs) he
  | storeCheckReadDone => exact upheld_event h hs (upheld_storeCheckReadDone h hs) he
  | storeCheckReadTimeout => exact upheld_event h hs (upheld_storeCheckReadTimeout h hs) he
  | queueFullRetry channel => exact upheld_event h hs (kept_ite (blind_submitRequest h.toBlind _ hs) hs) he
  | responseTimerExpiry channel => exact upheld_event h hs (kept_ite (blind_moveNext h.toBlind _ _ hs) hs) he
  | busyRetry channel =>
    exact upheld_event h hs (kept_ite (blind_buildWindow h.toBlind _ (blind_modChannel h.toBlind _ _ hs)) hs) he
  | gapTimerExpiry channel => exact upheld_event h hs (upheld_gapExpiry h _ hs) he
  | breakDetected port => exact upheld_event h hs (kept_ite (upheld_portReset h port hs) hs) he
  | crewMessageReceived port kind body check => exact upheld_event h hs (upheld_messageReceived h port kind body check hs) he
  | receiveStall port => exact kept_quietEvent hs (upheld_framingFailure h port hs) he
  | crewByteFramingError port => exact kept_quietEvent hs (upheld_framingFailure h port hs) he
  | crewLengthFieldFault port length => exact kept_quietEvent hs (upheld_lengthFault h port _ hs) he
  | lineReturnedHigh port => exact kept_quietEvent hs (kept_ite (h.port port _ s hs) hs) he
  | streamPassStart port => exact upheld_event h hs (kept_ite (blind_startPass h.toBlind port hs) hs) he
  | messageEnd port => exact upheld_event h hs (upheld_endMessage h port hs) he
  | storeWrite | storeErase | storeCheck | sheet | cancel | unknown | attach | detach | picture | floor | watch | ack
  | attendOn | attendOff | peek | finish | mask | streamOn | streamOff | status => exact request he

/-- Every step keeps the property. -/
theorem Upheld.step (h : Upheld P) {t : State} (hs : P s) (he : step s = .next t) : P t := by
  unfold Machine.step at he
  split at he
  · cases he
    unfold tick
    exact kept_ite hs (h.clock _ s hs)
  · exact h.exec (h.pending _ s hs) he

end

end Sys2Proof.Machine
end

section
/-! SUPPORT. More of what an event of the picture leaves (R42 to R44, R47): each floor counted on once at most, the lists
given, the entries of a row rewritten, and an acknowledgement placed beside them. -/

namespace Sys2Proof.Machine

open Sys2Proof

/-! ### The floors -/

/-- A recomputation counts a floor on, or leaves it. -/
theorem recomputeWith_floor_cases (f : Nat) (label : Option Text) (list : List Attendance) (s : State) (g : Nat) :
    (recomputeWith f label list s).floor g = s.floor g ∨
    ((recomputeWith f label list s).floor g).changeNumber = wrapNext (s.floor g).changeNumber := by
  unfold recomputeWith
  extract_lets old new raised
  split
  · exact .inl rfl
  · rw [State.floor_congr (notifyBoth_picture ..)]
    by_cases hg : f = g
    · subst hg
      by_cases hf : f < 256
      · exact .inr (by rw [State.setFloor_floor_same hf])
      · refine .inl (congrArg (tget FloorSummary.atReset · f) ?_)
        exact tset_beyond _ (by omega) _
    · exact .inl (State.setFloor_floor_ne hg ..)

/-- An event counts a floor on at most once (R42). -/
theorem pictureEvent_floor_cases (changes : List EntryChange) (labels : List (Nat × Text))
    (lists : List (Nat × List Attendance)) (s : State) (f : Nat) :
    (pictureEvent changes labels lists s).floor f = s.floor f ∨
    ((pictureEvent changes labels lists s).floor f).changeNumber = wrapNext (s.floor f).changeNumber := by
  rw [← sendSignals_floor changes s f]
  unfold pictureEvent
  extract_lets written signalled floors
  change ((List.range 256).foldl _ signalled).floor f = signalled.floor f ∨ _ = wrapNext (signalled.floor f).changeNumber
  generalize signalled = u
  generalize 256 = n
  induction n with
  | zero => exact .inl rfl
  | succ n ih =>
    have hlast := (recomputed_range floors (givenFor labels) (givenFor lists) u n).untouched n fun h => Nat.lt_irrefl n h.1
    rw [List.range_succ, List.foldl_append, List.foldl_cons, List.foldl_nil]
    generalize (List.range n).foldl _ u = t at ih hlast ⊢
    split
    · by_cases hf : f = n
      · subst hf
        rw [← hlast]
        exact recomputeWith_floor_cases ..
      · rw [(recomputed_recompute n _ _ t).untouched f hf]
        exact ih
    · exact ih

/-- A floor's change number goes up where its list changes (R47). -/
theorem changeNumber_of_attendance_ne {a b : FloorSummary} (h : b = a ∨ b.changeNumber = wrapNext a.changeNumber)
    (hne : b.attendance ≠ a.attendance) : b.changeNumber = (a.changeNumber + 1) % 65536 :=
  h.resolve_left fun he => hne (congrArg FloorSummary.attendance he)

/-- An event leaves a floor the list it gives it, or the list it has. -/
theorem pictureEvent_given (changes : List EntryChange) (labels : List (Nat × Text))
    (lists : List (Nat × List Attendance)) (s : State) {f : Nat} (hf : f < 256) :
    ((pictureEvent changes labels lists s).floor f).attendance = (givenFor lists f).getD (s.floor f).attendance := by
  obtain ⟨u, rfl, hr⟩ := pictureEvent_recomputed changes labels lists s
  by_cases ht : f < 256 ∧ f ∈ eventFloors changes labels lists s (sendSignals changes s (writeEntries changes s))
  · rw [hr.attendance f hf ht, sendSignals_floor]
  · have hnone : givenFor lists f = none := by
      simp only [eventFloors, List.mem_append, not_and, not_or] at ht
      have hl : f ∉ lists.map (·.1) := (ht hf).2
      simp only [List.mem_map, not_exists, not_and] at hl
      simp only [givenFor, Option.map_eq_none_iff, List.find?_eq_none, beq_iff_eq]
      exact fun x hx => hl x hx
    rw [hr.untouched f ht, sendSignals_floor, hnone]; rfl

theorem givenFor_singleton_same {α : Type} (f : Nat) (x : α) : givenFor [(f, x)] f = some x := by simp [givenFor]

theorem givenFor_singleton_ne {α : Type} {f g : Nat} (h : g ≠ f) (x : α) : givenFor [(g, x)] f = none := by
  simp [givenFor, h]

theorem givenFor_append {α : Type} (a b : List (Nat × α)) (f : Nat) :
    givenFor (a ++ b) f = (givenFor a f).or (givenFor b f) := by
  rw [givenFor, List.find?_append, Option.map_or, givenFor, givenFor]

/-! ### A row rewritten -/

/-- The changes of one row, at most one for each line. -/
def rowOf (x : Nat) (g : Nat → Option ZoneEntry) : List EntryChange :=
  (List.range 16).filterMap fun l => (g l).map fun e => { origin := x, line := l, new := e }

theorem mem_rowOf {x : Nat} {g : Nat → Option ZoneEntry} {c : EntryChange} :
    c ∈ rowOf x g ↔ c.origin = x ∧ c.line < 16 ∧ g c.line = some c.new := by
  simp only [rowOf, List.mem_filterMap, List.mem_range, Option.map_eq_some_iff]
  constructor
  · rintro ⟨l, hl, e, he, rfl⟩
    exact ⟨rfl, hl, he⟩
  · rintro ⟨rfl, hl, he⟩
    exact ⟨c.line, hl, c.new, he, rfl⟩

theorem rowOf_ascending (x : Nat) (g : Nat → Option ZoneEntry) : (rowOf x g).Pairwise fun a b => a.place < b.place := by
  refine List.pairwise_filterMap.mpr (List.pairwise_lt_range.imp fun {l m} hlm c hc d hd => ?_)
  obtain ⟨_, -, rfl⟩ := Option.map_eq_some_iff.mp hc
  obtain ⟨_, -, rfl⟩ := Option.map_eq_some_iff.mp hd
  simp only [EntryChange.place, entryIndex]
  omega

/-- Each entry of the row is written where the row has a change for it, and every other entry is left. -/
theorem writeEntries_rowOf {x : Nat} (hx : x ≤ 62) (g : Nat → Option ZoneEntry) (s : State) {o l : Nat} (hl : l ≤ 15) :
    (writeEntries (rowOf x g) s).entry o l = if o = x then (g l).getD (s.entry o l) else s.entry o l := by
  have hother : (∀ c ∈ rowOf x g, c.place ≠ entryIndex o l) → (writeEntries (rowOf x g) s).entry o l = s.entry o l :=
    fun h => writeEntries_slot_other h s
  split
  · rename_i ho
    subst ho
    cases hg : g l with
    | none =>
      refine hother fun c hc hplace => ?_
      obtain ⟨horigin, hline, he⟩ := mem_rowOf.mp hc
      have hcl : c.line = l := by
        rw [EntryChange.place, horigin, entryIndex, entryIndex] at hplace
        omega
      rw [hcl, hg] at he
      cases he
    | some e =>
      have hmem : ({ origin := o, line := l, new := e } : EntryChange) ∈ rowOf o g :=
        mem_rowOf.mpr ⟨rfl, Nat.lt_succ_of_le hl, hg⟩
      exact writeEntries_slot_mem ((rowOf_ascending o g).imp Nat.ne_of_lt) hmem
        (show entryIndex o l < 1008 by unfold entryIndex; omega) s
  · rename_i ho
    refine hother fun c hc => ?_
    obtain ⟨horigin, hline, -⟩ := mem_rowOf.mp hc
    rw [EntryChange.place, horigin]
    exact entryIndex_ne hline (by omega) (Ne.symm ho)

theorem rowChanges_eq (x : Nat) (f : Nat → ZoneEntry → ZoneEntry) (s : State) : rowChanges x f s =
    rowOf x fun l => if f l (s.entry x l) = s.entry x l then none else some (f l (s.entry x l)) := by
  unfold rowChanges rowOf
  congr 1
  funext l
  dsimp only
  split <;> rfl

theorem rowReplacement_eq (x : Nat) (payload : List Byte) (s : State) : rowReplacement x payload s =
    rowOf x fun l => (recordOfLine payload l).map (replaceEntry s.clock (s.entry x l)) := by
  unfold rowReplacement rowOf
  congr 1
  funext l
  rw [Option.map_map]
  rfl

/-- The changes of a row give each of its entries what they say of it. -/
theorem writeEntries_rowChanges {x : Nat} (hx : x ≤ 62) (f : Nat → ZoneEntry → ZoneEntry) (s : State) {o l : Nat}
    (hl : l ≤ 15) : (writeEntries (rowChanges x f s) s).entry o l = if o = x then f l (s.entry o l) else s.entry o l := by
  rw [rowChanges_eq, writeEntries_rowOf hx _ _ hl]
  by_cases ho : o = x
  · subst ho
    rw [if_pos rfl, if_pos rfl]
    split
    · rename_i hsame
      exact hsame.symm
    · rfl
  · rw [if_neg ho, if_neg ho]

theorem writeEntries_staleCleared {x : Nat} (hx : x ≤ 62) (lost : Bool) (s : State) {o l : Nat} (hl : l ≤ 15) :
    (writeEntries (staleCleared x lost s) s).entry o l =
      { s.entry o l with stale := (s.entry o l).stale && !(decide (o = x) && lost) } := by
  unfold staleCleared
  cases lost
  · rw [if_neg (by decide), Bool.and_false, Bool.not_false, Bool.and_true]
    rfl
  · rw [if_pos rfl, writeEntries_rowChanges hx _ _ hl, Bool.and_true]
    split
    · rename_i ho
      rw [decide_eq_true ho, Bool.not_true, Bool.and_false]
      rfl
    · rename_i ho
      rw [decide_eq_false ho, Bool.not_false, Bool.and_true]

theorem staleCleared_ascending (x : Nat) (lost : Bool) (s : State) :
    (staleCleared x lost s).Pairwise fun a b => a.place < b.place := by
  unfold staleCleared
  split
  · rw [rowChanges_eq]
    exact rowOf_ascending ..
  · exact List.Pairwise.nil

theorem staleCleared_line {x : Nat} {lost : Bool} {s : State} {c : EntryChange} (hc : c ∈ staleCleared x lost s) :
    c.line < 16 := by
  unfold staleCleared at hc
  split at hc
  · rw [rowChanges_eq] at hc
    exact (mem_rowOf.mp hc).2.1
  · cases hc

/-! ### An acknowledgement placed beside other changes -/

theorem State.slot_setEntry (o l : Nat) (e : ZoneEntry) (s : State) (n : Nat) :
    (s.setEntry o l e).slot n = if entryIndex o l = n ∧ n < 1008 then e else s.slot n := by
  by_cases hn : entryIndex o l = n
  · by_cases hlt : n < 1008
    · rw [if_pos ⟨hn, hlt⟩, ← hn]
      exact State.slot_setEntry_same (hn ▸ hlt) e s
    · rw [if_neg fun h => hlt h.2, State.setEntry, State.modPicture, tset_beyond _ (by omega)]
  · rw [if_neg fun h => hn h.1, State.slot_setEntry_ne hn]

/-- What a place holds after the writes is a matter of what it held before them. -/
theorem writeEntries_slot_congr (changes : List EntryChange) {n : Nat} {s t : State} (h : s.slot n = t.slot n) :
    (writeEntries changes s).slot n = (writeEntries changes t).slot n := by
  induction changes generalizing s t with
  | nil => exact h
  | cons c rest ih =>
    rw [writeEntries_cons, writeEntries_cons]
    exact ih (by rw [State.slot_setEntry, State.slot_setEntry, h])

/-- The entry with an acknowledgement on it. -/
def ZoneEntry.acked (a : Ack) (e : ZoneEntry) : ZoneEntry := { e with ack := some a }

/-- An acknowledgement placed among ascending changes stands on what they make of its entry, and leaves the others. `t` is
any state that has the entry as `s` has it. -/
theorem writeEntries_withAck_slot {o l : Nat} (ho : o ≤ 62) (hl : l ≤ 15) (a : Ack) (s : State) {changes : List EntryChange}
    (hlines : ∀ c ∈ changes, c.line < 16) (hasc : changes.Pairwise fun a b => a.place < b.place) (n : Nat) {t : State}
    (ht : t.slot (entryIndex o l) = s.slot (entryIndex o l)) :
    (writeEntries (withAck o l a s changes) t).slot n =
      if n = entryIndex o l then ((writeEntries changes t).slot n).acked a else (writeEntries changes t).slot n := by
  have hlt : entryIndex o l < 1008 := by unfold entryIndex; omega
  have hplaced : ∀ u : State, (u.setEntry o l ((s.entry o l).acked a)).slot n =
      if n = entryIndex o l then (s.slot n).acked a else u.slot n := fun u => by
    rw [State.slot_setEntry]
    by_cases hn : n = entryIndex o l
    · rw [if_pos hn, if_pos ⟨hn.symm, hn ▸ hlt⟩, hn]; rfl
    · rw [if_neg hn, if_neg fun h => hn h.1.symm]
  induction changes generalizing t with
  | nil =>
    refine (hplaced t).trans ?_
    split
    · rename_i hn
      rw [hn, ← ht]; rfl
    · rfl
  | cons c rest ih =>
    obtain ⟨hhead, htail⟩ := List.pairwise_cons.mp hasc
    have hline := hlines c List.mem_cons_self
    have hlater : ∀ u : State, n ≤ c.place → (writeEntries rest u).slot n = u.slot n := fun u hn =>
      writeEntries_slot_other (fun d hd => Nat.ne_of_gt (Nat.lt_of_le_of_lt hn (hhead d hd))) u
    unfold withAck
    split
    · rename_i hsame
      obtain ⟨rfl, rfl⟩ := hsame
      rw [writeEntries_cons, writeEntries_cons]
      by_cases hn : n = entryIndex c.origin c.line
      · rw [if_pos hn, hlater _ (Nat.le_of_eq hn), hlater _ (Nat.le_of_eq hn), hn,
          State.slot_setEntry_same hlt, State.slot_setEntry_same hlt]
        rfl
      · rw [if_neg hn]
        exact writeEntries_slot_congr rest (by
          rw [State.slot_setEntry_ne (Ne.symm hn), State.slot_setEntry_ne (Ne.symm hn)])
    · rename_i hdiff
      have hne : c.place ≠ entryIndex o l := fun h => hdiff (by
        simp only [EntryChange.place, entryIndex] at h
        omega)
      split
      · rw [writeEntries_cons, writeEntries_cons]
        exact ih (fun d hd => hlines d (List.mem_cons_of_mem _ hd)) htail ((State.slot_setEntry_ne hne _ _).trans ht)
      · rename_i hnot
        have hbefore : entryIndex o l < c.place := by
          have : ¬c.place < entryIndex o l := hnot
          omega
        rw [writeEntries_cons (c := { origin := o, line := l, new := _ })]
        by_cases hn : n = entryIndex o l
        · have hall : ∀ u : State, (writeEntries (c :: rest) u).slot n = u.slot n := fun u => by
            rw [writeEntries_cons, hlater _ (by omega)]
            exact State.slot_setEntry_ne (show c.place ≠ n by omega) _ _
          rw [if_pos hn, hall, hall]
          refine (hplaced t).trans ?_
          rw [if_pos hn, hn, ht]
        · rw [if_neg hn]
          refine writeEntries_slot_congr _ ((hplaced t).trans ?_)
          rw [if_neg hn]

/-- An acknowledgement placed beside the clearing of STALE (R35, R46, R68). -/
theorem writeEntries_withAck {x o l : Nat} (ho : o ≤ 62) (hl : l ≤ 15) (lost : Bool) (a : Ack) (s : State)
    {q m : Nat} (hm : m ≤ 15) :
    (writeEntries (withAck o l a s (staleCleared x lost s)) s).entry q m =
      if (q, m) = (o, l) then ((writeEntries (staleCleared x lost s) s).entry q m).acked a
      else (writeEntries (staleCleared x lost s) s).entry q m := by
  rw [State.entry_eq_slot, writeEntries_withAck_slot ho hl a s (fun _ => staleCleared_line) (staleCleared_ascending ..) _ rfl]
  simp only [entryIndex_inj hm hl]
  rfl

end Sys2Proof.Machine
end

section
/-! SUPPORT. An event of the picture that changes of its entries nothing but STALE, the label and the acknowledgement: it
sends no notice of an entry, lets no line boost and leaves every floor its worst state, so that no record of a peer's loss
or return gives way to it (R43, R165, R166, R169). -/

namespace Sys2Proof.Machine

open Sys2Proof

/-! ### Calm changes -/

/-- An entry but for what a calm change may change of it. -/
def ZoneEntry.core (e : ZoneEntry) : ZoneEntry := { e with stale := false, label := none, ack := none }

/-- A change of nothing but STALE, the label and the acknowledgement. -/
def EntryChange.Calm (s : State) (c : EntryChange) : Prop := c.new.core = (s.entry c.origin c.line).core

section

variable {e f : ZoneEntry}

theorem ZoneEntry.known_of_core (h : e.core = f.core) : e.known = f.known := congrArg (·.known) h

theorem ZoneEntry.zstate_of_core (h : e.core = f.core) : e.zstate = f.zstate := congrArg (·.zstate) h

theorem ZoneEntry.ztype_of_core (h : e.core = f.core) : e.ztype = f.ztype := congrArg (·.ztype) h

theorem ZoneEntry.floor_of_core (h : e.core = f.core) : e.floor = f.floor := congrArg (·.floor) h

theorem ZoneEntry.changeNumber_of_core (h : e.core = f.core) : e.changeNumber = f.changeNumber :=
  congrArg (·.changeNumber) h

theorem boostsFloor_of_core (h : e.core = f.core) (n : Nat) : boostsFloor n e = boostsFloor n f := by
  simp only [boostsFloor, ZoneEntry.known_of_core h, ZoneEntry.zstate_of_core h, ZoneEntry.ztype_of_core h,
    ZoneEntry.floor_of_core h]

/-- A calm change fires no test of R165. -/
theorem NoticeController.takeEntry_calm (h : e.core = f.core) (n : NoticeController) (now o l : Nat) :
    n.takeEntry now o l f e = n := by
  have hrecurring : e.recurring = f.recurring := congrArg (·.recurring) h
  have hlost : e.lineLost = f.lineLost := congrArg (·.lineLost) h
  have hnone : ∀ a b : Bool, (a && b && !b) = false := by decide
  simp only [NoticeController.takeEntry, ZoneEntry.known_of_core h, ZoneEntry.zstate_of_core h, hrecurring, hlost, hnone,
    Bool.and_not_self, Bool.false_eq_true, if_false]

end

theorem State.notify_id (p : Port) {f : NoticeController → NoticeController} (h : ∀ n, f n = n) (s : State) :
    s.notify p f = s := by
  unfold State.notify
  split
  · cases p <;> simp only [State.modNotices, h]
  · rfl

theorem State.notifyBoth_id {f : NoticeController → NoticeController} (h : ∀ n, f n = n) (s : State) :
    s.notifyBoth f = s := by
  rw [State.notifyBoth, State.notify_id .a h, State.notify_id .b h]

theorem quietChanges_of_calm {changes : List EntryChange} {s : State} (h : ∀ c ∈ changes, c.Calm s) :
    QuietChanges changes s := fun c hc f hb => (boostsFloor_of_core (h c hc) f).symm.trans hb

/-- Calm changes send nothing (R43, R165). -/
theorem sendSignals_calm {changes : List EntryChange} {s : State} (h : ∀ c ∈ changes, c.Calm s) (t : State) :
    sendSignals changes s t = t := by
  refine List.foldlRecOn changes _ (motive := fun u : State => u = t) rfl fun u hu c hc => ?_
  have hnone : (u.notifyBoth fun n => n.takeEntry u.clock c.origin c.line (s.entry c.origin c.line) c.new) = u :=
    State.notifyBoth_id (fun n => NoticeController.takeEntry_calm (h c hc) n ..) u
  rcases signalEntry_quiet (quietChanges_of_calm h c hc) c.origin c.line u with hq | hq
  · exact hq.trans hu
  · exact hq.trans (hnone.trans hu)

/-! ### The worst states of the floors -/

/-- Each floor's worst state is that of its counted entries (R39). -/
def WorstLaw (s : State) : Prop := ∀ f < 256, (s.floor f).counts.worst = (countsOf (s.picture.counted f)).worst

theorem worstLaw_of_summaryLaw {s : State} (h : SummaryLaw s) : WorstLaw s := fun f hf => by rw [h.2.2 f hf]

/-- The worst state of some entries does not look at what a calm change changes. -/
theorem countsOf_worst_core (l : List ZoneEntry) : (countsOf l).worst = (countsOf (l.map ZoneEntry.core)).worst := by
  simp only [countsOf, List.countP_map, List.length_map]
  rfl

theorem counted_map_core (p : TowerPicture) (f : Nat) :
    (p.counted f).map ZoneEntry.core = (p.entries.toList.map ZoneEntry.core).filter (ZoneEntry.countedOn f) := by
  rw [TowerPicture.counted, List.filter_map]
  rfl

/-- Entries that differ calmly give a floor one worst state. -/
theorem counted_worst_congr {s t : State} (h : ∀ n, (t.slot n).core = (s.slot n).core) (f : Nat) :
    (countsOf (t.picture.counted f)).worst = (countsOf (s.picture.counted f)).worst := by
  have hcore : t.picture.entries.toList.map ZoneEntry.core = s.picture.entries.toList.map ZoneEntry.core := by
    refine List.ext_getElem (by simp) fun n hn hn' => ?_
    rw [List.getElem_map, List.getElem_map]
    rw [List.length_map] at hn hn'
    have hslot := h n
    rwa [State.slot, State.slot, tget, tget, List.getD_eq_getElem _ _ hn, List.getD_eq_getElem _ _ hn'] at hslot
  rw [countsOf_worst_core, countsOf_worst_core (s.picture.counted f), counted_map_core, counted_map_core, hcore]

theorem writeEntries_core {changes : List EntryChange} {s : State} (h : ∀ c ∈ changes, c.Calm s) (n : Nat) :
    ((writeEntries changes s).slot n).core = (s.slot n).core := by
  rcases writeEntries_slot_cases changes n s with he | ⟨c, hc, rfl, he⟩
  · rw [he]
  · rw [he]
    exact h c hc

theorem worstLaw_writeEntries {changes : List EntryChange} {s : State} (h : ∀ c ∈ changes, c.Calm s) (hs : WorstLaw s) :
    WorstLaw (writeEntries changes s) := by
  obtain ⟨entries, hw⟩ := writeEntries_rest changes s
  intro f hf
  rw [counted_worst_congr (writeEntries_core h), ← hs f hf, hw]
  rfl

theorem worstLaw_recomputeWith (f : Nat) (label : Option Text) (list : List Attendance) {s : State} (hs : WorstLaw s) :
    WorstLaw (recomputeWith f label list s) := by
  have hr := recomputed_recomputeWith f label list s
  intro g hg
  rw [TowerPicture.counted_congr hr.entries]
  by_cases hgf : g = f
  · rw [hr.counts g hg hgf]
  · rw [hr.untouched g hgf]
    exact hs g hg

/-! ### A record that stays -/

namespace NoticeController

variable {k : NoticeKey}

theorem find_append_ne {l : List Notice} {r : Notice} (h : r.key ≠ k) :
    (l ++ [r]).find? (fun x => x.key == k) = l.find? (fun x => x.key == k) := by
  simp [List.find?_append, h]

theorem find_drop_ne {q : NoticeKey} (h : q ≠ k) (n : NoticeController) : (n.drop q).find k = n.find k := by
  simp only [NoticeController.find, NoticeController.drop, List.find?_filter]
  congr 1
  funext r
  by_cases hr : r.key = k
  · simp [hr, Ne.symm h]
  · simp [hr]

theorem find_dropWaiting_ne {q : NoticeKey} (h : q ≠ k) (n : NoticeController) : (n.dropWaiting q).find k = n.find k := by
  unfold dropWaiting
  split
  · rfl
  · exact find_drop_ne h n

/-- A refreshed record leaves the others where they are found. -/
theorem find_refresh_ne {n : NoticeController} {now detail : Nat} {old : Notice} {o : Option TransferOutcome}
    (h : old.key ≠ k) : (n.refresh now old detail o).find k = n.find k := by
  unfold refresh
  extract_lets r
  split
  · simp only [NoticeController.find, List.find?_map]
    have hcongr : ((fun x : Notice => x.key == k) ∘ fun x => if x.key = old.key then r else x) = fun x => x.key == k := by
      funext x
      dsimp only [Function.comp_apply]
      split
      · rename_i hx
        rw [hx]
      · rfl
    rw [hcongr]
    cases hf : n.queue.find? fun x => x.key == k with
    | none => rfl
    | some x =>
      have hx : x.key = k := by simpa using List.find?_some hf
      rw [Option.map_some, if_neg (by rw [hx]; exact Ne.symm h)]
  · exact (find_append_ne (r := r) h).trans (find_drop_ne h n)

/-- A record of a lower level than the new one stays. -/
theorem find_add_ne {n : NoticeController} {r : Notice} (hlevel : k.level ≤ r.key.level) (h : r.key ≠ k) :
    (n.add r).find k = n.find k := by
  unfold add
  split
  · exact find_append_ne h
  · split
    · rfl
    · rename_i v hv
      have hne : v.key ≠ k := fun he => by
        have := victim_level hv
        rw [he] at this
        omega
      exact (find_append_ne h).trans (find_drop_ne hne n)

/-- A record stays while a record of no lower level and another key is queued. -/
theorem find_post_ne {n : NoticeController} {now level detail : Nat} {subject : Subject} {o : Option TransferOutcome}
    (hlevel : k.level ≤ level) (h : ({ level := level, subject := subject } : NoticeKey) ≠ k) :
    (n.post now level subject detail o).find k = n.find k := by
  unfold post
  dsimp only
  split
  · rename_i old hold
    have hkey := find_key hold
    exact find_refresh_ne (by rw [hkey]; exact h)
  · exact find_add_ne hlevel h

/-- A record queued where there is room, or refreshed, is found with its detail (R168). -/
theorem find_post_same {n : NoticeController} (hroom : n.queue.length < 32) (now level : Nat) (subject : Subject)
    (detail : Nat) (o : Option TransferOutcome) :
    ∃ r, (n.post now level subject detail o).find { level := level, subject := subject } = some r ∧ r.detail = detail := by
  unfold post
  dsimp only
  split
  · rename_i old hold
    have hkey := find_key hold
    unfold refresh
    extract_lets r
    refine ⟨r, ?_, rfl⟩
    split
    · simp only [NoticeController.find, List.find?_map] at hold ⊢
      have hcongr : ((fun x : Notice => x.key == { level := level, subject := subject }) ∘
          fun x => if x.key = old.key then r else x) = fun x => x.key == { level := level, subject := subject } := by
        funext x
        dsimp only [Function.comp_apply]
        split
        · rename_i hx
          rw [hx]
        · rfl
      rw [hcongr, hold]
      exact congrArg some (if_pos rfl)
    · have hnone : (n.drop old.key).queue.find? (fun x => x.key == { level := level, subject := subject }) = none := by
        rw [List.find?_eq_none]
        intro x hx
        have hx' := (List.mem_filter.mp hx).2
        rw [hkey] at hx'
        simpa using hx'
      simp only [NoticeController.find, List.find?_append, hnone, Option.none_or]
      simp [r, hkey]
  · rename_i hnone
    unfold add
    rw [if_pos (show n.queue.length < queueLimit from hroom)]
    refine ⟨{ key := { level := level, subject := subject }, time := now, events := 1, detail := detail, outcome := o }, ?_,
      rfl⟩
    simp only [NoticeController.find] at hnone ⊢
    rw [List.find?_append, hnone]
    simp

/-- A summary signal that finds no fire anew leaves a record of level 4 or lower (R166, R177). -/
theorem find_takeSummary {n : NoticeController} {now f : Nat} {old new : FloorSummary} {fireAt : Nat → Bool}
    (hworst : new.counts.worst = old.counts.worst) (hk : k.level < 5) :
    (n.takeSummary now f old new fireAt).find k = n.find k := by
  have hwatch : watchKey f ≠ k := fun h => by
    rw [← h] at hk
    exact Nat.lt_irrefl 5 hk
  unfold takeSummary
  rw [hworst, if_neg fun h => h.1 h.2]
  dsimp only
  split
  · rfl
  · split
    · exact find_dropWaiting_ne hwatch n
    · exact find_post_ne (by omega) hwatch

end NoticeController

theorem find_notify {k : NoticeKey} (p q : Port) {f : NoticeController → NoticeController}
    (h : ∀ n : NoticeController, (f n).find k = n.find k) (s : State) : ((s.notify p f).notices q).find k = (s.notices q).find k := by
  unfold State.notify
  split
  · by_cases hq : q = p
    · rw [hq, State.modNotices_notices]
      exact h _
    · rw [State.modNotices_notices_ne hq]
  · rfl

theorem find_notifyBoth {k : NoticeKey} (q : Port) {f : NoticeController → NoticeController}
    (h : ∀ n : NoticeController, (f n).find k = n.find k) (s : State) : ((s.notifyBoth f).notices q).find k = (s.notices q).find k :=
  (find_notify .b q h _).trans (find_notify .a q h s)

/-- A floor whose worst state stands is recomputed without loss to a record of level 4 or lower. -/
theorem find_recomputeWith {f : Nat} (hf : f < 256) {k : NoticeKey} (hk : k.level < 5) (label : Option Text)
    (list : List Attendance) {s : State} (hs : WorstLaw s) (q : Port) :
    ((recomputeWith f label list s).notices q).find k = (s.notices q).find k := by
  unfold recomputeWith
  extract_lets old new raised
  split
  · rfl
  · rw [find_notifyBoth q fun n => NoticeController.find_takeSummary (hs f hf).symm hk]
    cases q <;> rfl

/-- A calm event leaves a record of level 4 or lower where it is found. -/
theorem find_pictureEvent {changes : List EntryChange} (labels : List (Nat × Text)) (lists : List (Nat × List Attendance))
    {s : State} (h : ∀ c ∈ changes, c.Calm s) (hs : WorstLaw s) {k : NoticeKey} (hk : k.level < 5) (q : Port) :
    ((pictureEvent changes labels lists s).notices q).find k = (s.notices q).find k := by
  have hsent : sendSignals changes s (writeEntries changes s) = writeEntries changes s := sendSignals_calm h _
  have hwritten : ((writeEntries changes s).notices q).find k = (s.notices q).find k := by
    obtain ⟨entries, hw⟩ := writeEntries_rest changes s
    rw [hw]
    cases q <;> rfl
  suffices hall : WorstLaw (pictureEvent changes labels lists s) ∧
      ((pictureEvent changes labels lists s).notices q).find k = (s.notices q).find k from hall.2
  unfold pictureEvent
  extract_lets written signalled floors
  refine List.foldlRecOn (List.range 256) _
    (motive := fun t : State => WorstLaw t ∧ (t.notices q).find k = (s.notices q).find k) ?_ fun t ⟨ht, hfind⟩ f hf => ?_
  · change WorstLaw (sendSignals changes s (writeEntries changes s)) ∧
      ((sendSignals changes s (writeEntries changes s)).notices q).find k = _
    rw [hsent]
    exact ⟨worstLaw_writeEntries h hs, hwritten⟩
  · split
    · exact ⟨worstLaw_recomputeWith _ _ _ ht, (find_recomputeWith (List.mem_range.mp hf) hk _ _ ht q).trans hfind⟩
    · exact ⟨ht, hfind⟩

/-! ### Which changes are calm -/

theorem ZoneEntry.core_clearStale (e : ZoneEntry) : e.clearStale.core = e.core := rfl

theorem ZoneEntry.core_makeStale (e : ZoneEntry) : e.makeStale.core = e.core := by
  unfold ZoneEntry.makeStale
  split <;> rfl

theorem ZoneEntry.core_relabel (e : ZoneEntry) (label : Text) : (e.relabel label).core = e.core := rfl

theorem calm_rowChanges {x : Nat} {f : Nat → ZoneEntry → ZoneEntry} (hf : ∀ l e, (f l e).core = e.core) {s : State} :
    ∀ c ∈ rowChanges x f s, c.Calm s := fun c hc => by
  rw [rowChanges_eq] at hc
  obtain ⟨horigin, -, hnew⟩ := mem_rowOf.mp hc
  split at hnew
  · cases hnew
  · rw [EntryChange.Calm, horigin, ← Option.some_inj.mp hnew]
    exact hf ..

theorem calm_staleCleared {x : Nat} {lost : Bool} {s : State} : ∀ c ∈ staleCleared x lost s, c.Calm s := by
  unfold staleCleared
  split
  · exact calm_rowChanges fun _ => ZoneEntry.core_clearStale
  · exact fun _ hc => absurd hc List.not_mem_nil

theorem calm_withAck {o l : Nat} {a : Ack} {s : State} {changes : List EntryChange} (h : ∀ c ∈ changes, c.Calm s) :
    ∀ c ∈ withAck o l a s changes, c.Calm s := by
  have hnew : ({ origin := o, line := l, new := { s.entry o l with ack := some a } } : EntryChange).Calm s := rfl
  induction changes with
  | nil => exact fun c hc => List.mem_singleton.mp hc ▸ hnew
  | cons d rest ih =>
    have hrest := fun c hc => h c (List.mem_cons_of_mem d hc)
    have hd := h d List.mem_cons_self
    unfold withAck
    split
    · exact List.forall_mem_cons.mpr ⟨hd, hrest⟩
    · split
      · exact List.forall_mem_cons.mpr ⟨hd, ih hrest⟩
      · exact List.forall_mem_cons.mpr ⟨hnew, h⟩

/-- Of the contents a frame brings, only a row is no calm change. -/
theorem calm_contentChanges {x : Nat} {lost : Bool} {content : FrameContent} (h : ∀ p, content ≠ .row p) {s : State} :
    ∀ c ∈ contentChanges x lost content s, c.Calm s := by
  cases content with
  | row p => exact absurd rfl (h p)
  | directory d =>
    have hcore : ∀ l (e : ZoneEntry), ((if lost then e.clearStale else e).relabel (d.zoneLabels.getD l [])).core = e.core :=
      fun l e => by
        rw [ZoneEntry.core_relabel]
        split <;> rfl
    exact calm_rowChanges hcore
  | ack o l a => exact calm_withAck calm_staleCleared
  | attendance f l => exact calm_staleCleared
  | other => exact calm_staleCleared

end Sys2Proof.Machine
end

section
/-! SUPPORT. A frame heard from a peer, and the loss of one: the state in which the picture takes them (the Peer Table, the
STATION event, the Holder Table), and what the whole event leaves (R34, R35, R40, R50 to R53, R59, R62). -/

namespace Sys2Proof.Machine

open Sys2Proof

/-! ### The state in which the picture takes a frame or a loss -/

/-- Between `s` and `u` the Peer Table, the Holder Table's rows and the Notice Controllers may have changed, nothing else. -/
structure OnlyTables (s u : State) : Prop where
  rest : { u with peers := s.peers, holders := s.holders, noticesA := s.noticesA, noticesB := s.noticesB } = s
  own : u.holders.own = s.holders.own

namespace OnlyTables

variable {s u v : State}

theorem refl (s : State) : OnlyTables s s := ⟨rfl, rfl⟩

theorem trans (h : OnlyTables s u) (g : OnlyTables u v) : OnlyTables s v := by
  refine ⟨?_, g.own.trans h.own⟩
  calc { v with peers := s.peers, holders := s.holders, noticesA := s.noticesA, noticesB := s.noticesB }
      = { ({ v with peers := u.peers, holders := u.holders, noticesA := u.noticesA, noticesB := u.noticesB } : State) with
            peers := s.peers, holders := s.holders, noticesA := s.noticesA, noticesB := s.noticesB } := rfl
    _ = { u with peers := s.peers, holders := s.holders, noticesA := s.noticesA, noticesB := s.noticesB } := by rw [g.rest]
    _ = s := h.rest

theorem clock (h : OnlyTables s u) : u.clock = s.clock := congrArg (·.clock) h.rest

theorem address (h : OnlyTables s u) : u.address = s.address := congrArg (·.address) h.rest

theorem zones (h : OnlyTables s u) : u.zones = s.zones := congrArg (·.zones) h.rest

theorem picture (h : OnlyTables s u) : u.picture = s.picture := congrArg (·.picture) h.rest

theorem rlc (h : OnlyTables s u) : u.rlc = s.rlc := congrArg (·.rlc) h.rest

theorem store (h : OnlyTables s u) : u.store = s.store := congrArg (·.store) h.rest

theorem ste (h : OnlyTables s u) : u.ste = s.ste := congrArg (·.ste) h.rest

theorem marks (h : OnlyTables s u) : u.marks = s.marks := congrArg (·.marks) h.rest

theorem pending (h : OnlyTables s u) : u.pending = s.pending := congrArg (·.pending) h.rest

theorem portA (h : OnlyTables s u) : u.portA = s.portA := congrArg (·.portA) h.rest

theorem portB (h : OnlyTables s u) : u.portB = s.portB := congrArg (·.portB) h.rest

theorem ownOrigin (h : OnlyTables s u) : u.ownOrigin = s.ownOrigin := by rw [State.ownOrigin, h.address, State.ownOrigin]

theorem entry (h : OnlyTables s u) (o l : Nat) : u.entry o l = s.entry o l := State.slot_congr h.picture _

theorem floor (h : OnlyTables s u) (f : Nat) : u.floor f = s.floor f := State.floor_congr h.picture f

end OnlyTables

theorem onlyTables_setPeer (x : Nat) (r : PeerRecord) (s : State) : OnlyTables s (s.setPeer x r) := ⟨rfl, rfl⟩

theorem onlyTables_notify (p : Port) (f : NoticeController → NoticeController) (s : State) : OnlyTables s (s.notify p f) := by
  unfold State.notify
  split
  · cases p <;> exact ⟨rfl, rfl⟩
  · exact OnlyTables.refl s

theorem onlyTables_notifyBoth (f : NoticeController → NoticeController) (s : State) : OnlyTables s (s.notifyBoth f) :=
  (onlyTables_notify .a f s).trans (onlyTables_notify .b f _)

theorem onlyTables_recomputeHolders (s : State) : OnlyTables s (recomputeHolders s) := ⟨rfl, rfl⟩

theorem notifyBoth_peers (f : NoticeController → NoticeController) (s : State) : (s.notifyBoth f).peers = s.peers := by
  have h : ∀ (p : Port) (t : State), (t.notify p f).peers = t.peers := fun p t => by
    unfold State.notify
    split
    · exact State.modNotices_peers ..
    · rfl
  exact (h .b _).trans (h .a s)

theorem notifyBoth_holders (f : NoticeController → NoticeController) (s : State) : (s.notifyBoth f).holders = s.holders := by
  have h : ∀ (p : Port) (t : State), (t.notify p f).holders = t.holders := fun p t => by
    unfold State.notify
    split
    · exact State.modNotices_holders ..
    · rfl
  exact (h .b _).trans (h .a s)

theorem notify_port (p q : Port) (f : NoticeController → NoticeController) (s : State) : (s.notify p f).port q = s.port q := by
  unfold State.notify
  split
  · exact State.modNotices_port ..
  · rfl

/-- An attached controller takes an event (R163). -/
theorem notifyBoth_notices {p : Port} {s : State} (h : (s.port p).attached = true) (f : NoticeController → NoticeController) :
    (s.notifyBoth f).notices p = f (s.notices p) := by
  have hself : ∀ {t : State}, (t.port p).attached = true → (t.notify p f).notices p = f (t.notices p) := fun ht => by
    rw [State.notify, if_pos ht, State.modNotices_notices]
  have hother : ∀ {q : Port} (t : State), q ≠ p → (t.notify q f).notices p = t.notices p := fun t hq => by
    unfold State.notify
    split
    · exact State.modNotices_notices_ne (Ne.symm hq) ..
    · rfl
  cases p with
  | a => exact (hother _ (by decide)).trans (hself h)
  | b =>
    refine (hself (t := s.notify .a f) ?_).trans (congrArg f (hother s (by decide)))
    rw [notify_port]
    exact h

/-- The Holder Table formed anew gives each floor the row of the claims (R57, R58). -/
theorem recomputeHolders_row (s : State) {f : Nat} (hf : f < 256) :
    (recomputeHolders s).holderRow f = rowFrom s.allClaims f := tget_tbuild _ hf _

/-- A STATION event queues its record where there is room (R167, R168). -/
theorem notifyBoth_takeStation {p : Port} {s : State} (ha : (s.port p).attached = true)
    (hroom : (s.notices p).queue.length < 32) (now x : Nat) (back : Bool) :
    ∃ r, ((s.notifyBoth fun n => n.takeStation now x back).notices p).find { level := 4, subject := .station x } = some r ∧
      r.detail = if back then 2 else 1 := by
  rw [notifyBoth_notices ha]
  exact NoticeController.find_post_same hroom ..

section

variable (x : Nat) (content : FrameContent) (s : State)

/-- The Peer Table has taken a frame. -/
def State.tookFrame : State := s.setPeer x (((s.peer x).heard s.clock).takeContent content)

/-- A return has been told. -/
def State.toldReturn : State :=
  if (s.peer x).presence == .lost then (s.tookFrame x content).notifyBoth fun n => n.takeStation s.clock x true
  else s.tookFrame x content

/-- The Holder Table has taken the claims. -/
def State.formedClaims : State :=
  if changesClaims (s.peer x) content then recomputeHolders (s.toldReturn x content) else s.toldReturn x content

/-- A frame heard is an event of the picture in that state. -/
theorem frameHeard_event : frameHeard x content s =
    pictureEvent (contentChanges x ((s.peer x).presence == .lost) content (s.formedClaims x content))
      (contentLabels x content (s.formedClaims x content) ++
        changedOwnerLabels (s.toldReturn x content) (s.formedClaims x content))
      content.lists (s.formedClaims x content) := rfl

theorem onlyTables_toldReturn : OnlyTables s (s.toldReturn x content) :=
  (onlyTables_setPeer x _ s).trans (kept_ite (onlyTables_notifyBoth _ _) (OnlyTables.refl _))

theorem onlyTables_formedClaims : OnlyTables s (s.formedClaims x content) :=
  (onlyTables_toldReturn x content s).trans (kept_ite (onlyTables_recomputeHolders _) (OnlyTables.refl _))

theorem formedClaims_peers : (s.formedClaims x content).peers = (s.tookFrame x content).peers := by
  have htold : (s.toldReturn x content).peers = (s.tookFrame x content).peers := by
    unfold State.toldReturn
    split
    · exact notifyBoth_peers ..
    · rfl
  unfold State.formedClaims
  split <;> exact htold

theorem toldReturn_holders : (s.toldReturn x content).holders = s.holders := by
  unfold State.toldReturn
  split
  · exact notifyBoth_holders ..
  · rfl

theorem formedClaims_holders (h : changesClaims (s.peer x) content = false) :
    (s.formedClaims x content).holders = s.holders := by
  rw [State.formedClaims, h]
  exact toldReturn_holders x content s

theorem formedClaims_row (h : changesClaims (s.peer x) content = true) {f : Nat} (hf : f < 256) :
    (s.formedClaims x content).holderRow f = rowFrom (s.formedClaims x content).allClaims f := by
  rw [State.formedClaims, h, if_pos rfl, recomputeHolders_row _ hf]
  rfl

/-- A return is told (R53, R167). -/
theorem formedClaims_station (hlost : (s.peer x).presence = .lost) {p : Port} (ha : (s.port p).attached = true)
    (hroom : (s.notices p).queue.length < 32) :
    ∃ r, ((s.formedClaims x content).notices p).find { level := 4, subject := .station x } = some r ∧ r.detail = 2 := by
  have htold : ((s.formedClaims x content).notices p) = (s.toldReturn x content).notices p := by
    unfold State.formedClaims
    split
    · exact State.modHolders_notices ..
    · rfl
  rw [htold, State.toldReturn, hlost]
  refine notifyBoth_takeStation (s := s.tookFrame x content) ?_ ?_ s.clock x true
  · rw [State.tookFrame, State.setPeer, State.modPeers_port]
    exact ha
  · rw [State.tookFrame, State.setPeer, State.modPeers_notices]
    exact hroom

/-- The state in which the picture takes the loss of a peer (R52). -/
def State.lossTold : State :=
  recomputeHolders ((s.setPeer x (s.peer x).lose).notifyBoth fun n => n.takeStation s.clock x false)

theorem onlyTables_lossTold : OnlyTables s (s.lossTold x) :=
  ((onlyTables_setPeer x _ s).trans (onlyTables_notifyBoth _ _)).trans (onlyTables_recomputeHolders _)

theorem lossTold_peers : (s.lossTold x).peers = (s.setPeer x (s.peer x).lose).peers := notifyBoth_peers ..

theorem lossTold_row {f : Nat} (hf : f < 256) : (s.lossTold x).holderRow f = rowFrom (s.lossTold x).allClaims f :=
  recomputeHolders_row _ hf

theorem lossTold_station {p : Port} (ha : (s.port p).attached = true) (hroom : (s.notices p).queue.length < 32) :
    ∃ r, ((s.lossTold x).notices p).find { level := 4, subject := .station x } = some r ∧ r.detail = 1 := by
  rw [State.lossTold, recomputeHolders, State.modHolders_notices]
  refine notifyBoth_takeStation (s := s.setPeer x (s.peer x).lose) ?_ ?_ s.clock x false
  · rw [State.setPeer, State.modPeers_port]
    exact ha
  · rw [State.setPeer, State.modPeers_notices]
    exact hroom

end

/-! ### What an event of the picture leaves of the state before it -/

/-- An event of the picture that lets no line boost leaves all but the picture, the Notice Controllers and the link. -/
theorem rest_of_restKept {u v : State} (h : RestKept u v) (hz : v.zones = u.zones) :
    { v with rlc := u.rlc, picture := u.picture, noticesA := u.noticesA, noticesB := u.noticesB } = u := by
  have hall : v.apartPicture = u.apartPicture := h
  cases u
  cases v
  simp only [State.apartPicture, State.mk.injEq] at hall hz ⊢
  simp [hall, hz]

theorem RestKept.ste {s t : State} (h : RestKept s t) : t.ste = s.ste := congrArg (·.ste) h

theorem RestKept.portA {s t : State} (h : RestKept s t) : t.portA = s.portA := congrArg (·.portA) h

theorem RestKept.portB {s t : State} (h : RestKept s t) : t.portB = s.portB := congrArg (·.portB) h

theorem RestKept.pending {s t : State} (h : RestKept s t) : t.pending = s.pending := congrArg (·.pending) h

theorem RestKept.reports {s t : State} (h : RestKept s t) : t.picture.rejectedReports = s.picture.rejectedReports :=
  congrArg (·.picture.rejectedReports) h

theorem ownerLabels_false (s : State) (test : Nat → Source → Bool) (h : ∀ f src, s.ownerOf f = some src → test f src = false) :
    s.ownerLabels test = [] := by
  unfold State.ownerLabels
  refine List.filterMap_eq_nil_iff.mpr fun f _ => ?_
  cases ho : (s.holderRow f).owner with
  | none => rfl
  | some o => exact if_neg (by rw [h f o.source (by rw [State.ownerOf, ho]; rfl)]; decide)

theorem changedOwnerLabels_self (s : State) : changedOwnerLabels s s = [] :=
  ownerLabels_false s _ fun _ _ h => decide_eq_false fun hne => hne h

/-- Labels retaken by `b`'s owners and by one source again follow the owners (R40, R59). -/
theorem labelsFollow_event {s b u : State} (again : Option Source) (hb : ∀ f, b.ownerOf f = s.ownerOf f)
    (hfloor : ∀ f, u.floor f = s.floor f) {given : List (Nat × Text)}
    (hgiven : ∀ f < 256, givenFor given f = u.ownerLabel (fun _ src => decide (again = some src)) f)
    (changes : List EntryChange) (lists : List (Nat × List Attendance)) :
    LabelsFollow again s (pictureEvent changes (given ++ changedOwnerLabels b u) lists u) := by
  have hr := restKept_pictureEvent changes (given ++ changedOwnerLabels b u) lists u
  have hlabel := fun f hf => pictureEvent_label changes (given ++ changedOwnerLabels b u) lists u (f := f) hf
  generalize pictureEvent changes (given ++ changedOwnerLabels b u) lists u = v at hr hlabel
  have howner : ∀ f, v.ownerOf f = u.ownerOf f := State.ownerOf_congr hr.holders
  have htaken : ∀ f < 256, givenFor (given ++ changedOwnerLabels b u) f =
      (u.ownerLabel (fun _ src => decide (again = some src)) f).or
        (u.ownerLabel (fun f src => decide (s.ownerOf f ≠ some src)) f) := by
    intro f hf
    rw [givenFor_append, hgiven f hf, changedOwnerLabels, givenFor_ownerLabels _ u hf]
    simp only [hb]
  have htakes : ∀ f < 256, ∀ o l, v.ownerOf f = some o → (s.ownerOf f ≠ some o ∨ again = some o) →
      u.labelBy o f = some l → (v.floor f).label = some l := by
    intro f hf o l hown hor hl
    rw [howner] at hown
    have hlabel' : givenFor (given ++ changedOwnerLabels b u) f = some l := by
      rw [htaken f hf]
      by_cases hagain : again = some o
      · rw [State.ownerLabel_of_owner hown (decide_eq_true hagain), hl, Option.some_or]
      · rw [State.ownerLabel_of_not (test := fun _ src => decide (again = some src)) fun o' ho' =>
            decide_eq_false fun he => hagain (by rw [he, ← ho', hown]),
          Option.none_or, State.ownerLabel_of_owner hown (decide_eq_true (hor.resolve_right hagain)), hl]
    rw [hlabel f hf, hlabel']
    rfl
  refine ⟨fun f hf hkept => ?_, fun f hf h l hown hor hi h1 h2 hl => ?_, fun f hf a d l hown hor hd h1 h2 hl => ?_⟩
  · have hnone : givenFor (given ++ changedOwnerLabels b u) f = none := by
      rw [htaken f hf, State.ownerLabel_of_not, State.ownerLabel_of_not]
      · rfl
      · intro o ho
        rw [← howner] at ho
        rcases hkept with hn | ⟨hsame, -⟩
        · rw [hn] at ho; cases ho
        · exact decide_eq_false fun hne => hne (hsame.symm.trans ho)
      · intro o ho
        rw [← howner] at ho
        rcases hkept with hn | ⟨-, hne⟩
        · rw [hn] at ho; cases ho
        · exact decide_eq_false fun he => hne (ho.trans he.symm)
    rw [hlabel f hf, hnone, ← hfloor f]
    rfl
  · exact htakes f hf _ l hown hor ((State.labelBy_self (by rw [← hr.store]; exact hi) h1 h2).trans hl)
  · refine htakes f hf _ l hown hor ((State.labelBy_peer ?_ h1 h2).trans hl)
    rw [← hd, State.peer, State.peer, hr.peers]

/-! ### A frame heard, whole -/

section

variable {x : Nat} {content : FrameContent} {s : State}

theorem restKept_frameHeard (x : Nat) (content : FrameContent) (s : State) :
    RestKept (s.formedClaims x content) (frameHeard x content s) := by
  rw [frameHeard_event]
  exact restKept_pictureEvent ..

theorem frameHeard_peers (x : Nat) (content : FrameContent) (s : State) :
    (frameHeard x content s).peers = (s.tookFrame x content).peers :=
  (restKept_frameHeard x content s).peers.trans (formedClaims_peers x content s)

theorem frameHeard_peer_same (hx : x ≤ 62) : (frameHeard x content s).peer x =
    ((s.peer x).heard s.clock).takeContent content := by
  rw [State.peer, frameHeard_peers]
  exact State.setPeer_peer_same (by omega) ..

theorem frameHeard_peer_ne {y : Nat} (hy : y ≠ x) : (frameHeard x content s).peer y = s.peer y := by
  rw [State.peer, frameHeard_peers]
  exact State.setPeer_peer_ne (Ne.symm hy) ..

theorem frameHeard_address (x : Nat) (content : FrameContent) (s : State) : (frameHeard x content s).address = s.address :=
  (restKept_frameHeard x content s).address.trans (onlyTables_formedClaims x content s).address

theorem frameHeard_own (x : Nat) (content : FrameContent) (s : State) :
    (frameHeard x content s).holders.own = s.holders.own :=
  (congrArg (·.own) (restKept_frameHeard x content s).holders).trans (onlyTables_formedClaims x content s).own

theorem frameHeard_holders (h : changesClaims (s.peer x) content = false) : (frameHeard x content s).holders = s.holders :=
  (restKept_frameHeard x content s).holders.trans (formedClaims_holders x content s h)

theorem frameHeard_row (h : changesClaims (s.peer x) content = true) {f : Nat} (hf : f < 256) :
    (frameHeard x content s).holderRow f = rowFrom (frameHeard x content s).allClaims f := by
  have hr := restKept_frameHeard x content s
  rw [State.allClaims_congr hr.address hr.peers hr.holders, State.holderRow, hr.holders]
  exact formedClaims_row x content s h hf

theorem frameHeard_attendance (x : Nat) (content : FrameContent) (s : State) {f : Nat} (hf : f < 256) :
    ((frameHeard x content s).floor f).attendance = (givenFor content.lists f).getD (s.floor f).attendance := by
  rw [frameHeard_event, pictureEvent_given _ _ _ _ hf, (onlyTables_formedClaims x content s).floor]

theorem frameHeard_floor_cases (x : Nat) (content : FrameContent) (s : State) (f : Nat) :
    (frameHeard x content s).floor f = s.floor f ∨
    ((frameHeard x content s).floor f).changeNumber = wrapNext (s.floor f).changeNumber := by
  rw [frameHeard_event, ← (onlyTables_formedClaims x content s).floor]
  exact pictureEvent_floor_cases ..

/-- The labels follow the owners, those of the sender's floors retaken by a DIRECTORY (R40, R55, R59). -/
theorem frameHeard_labels (again : Option Source) (h : ∀ u : State, ∀ f < 256, givenFor (contentLabels x content u) f =
    u.ownerLabel (fun _ src => decide (again = some src)) f) : LabelsFollow again s (frameHeard x content s) := by
  rw [frameHeard_event]
  exact labelsFollow_event again (State.ownerOf_congr (toldReturn_holders x content s))
    (onlyTables_formedClaims x content s).floor (h _) ..

theorem contentLabels_none (h : ∀ d, content ≠ .directory d) (u : State) (f : Nat) (_ : f < 256) :
    givenFor (contentLabels x content u) f = u.ownerLabel (fun _ src => decide (none = some src)) f := by
  rw [State.ownerLabel_of_not (test := fun _ src => decide (none = some src)) fun _ _ => rfl]
  cases content with
  | directory d => exact absurd rfl (h d)
  | row _ => rfl
  | ack _ _ _ => rfl
  | attendance _ _ => rfl
  | other => rfl

/-- A content other than a row lets no line boost, and writes its entries. -/
theorem frameHeard_calm (h : ∀ p, content ≠ .row p) : (frameHeard x content s).zones = s.zones ∧
    (frameHeard x content s).rlc = s.rlc ∧
    ∀ o l, (frameHeard x content s).entry o l =
      (writeEntries (contentChanges x ((s.peer x).presence == .lost) content (s.formedClaims x content))
        (s.formedClaims x content)).entry o l := by
  have hu := onlyTables_formedClaims x content s
  obtain ⟨hz, hslot, hrlc⟩ := pictureEvent_quiet
    (contentLabels x content (s.formedClaims x content) ++
      changedOwnerLabels (s.toldReturn x content) (s.formedClaims x content)) content.lists
    (quietChanges_of_calm (calm_contentChanges (x := x) (lost := (s.peer x).presence == .lost) h
      (s := s.formedClaims x content)))
  rw [frameHeard_event]
  exact ⟨hz.trans hu.zones, hrlc.trans hu.rlc, fun o l => hslot _⟩

/-- Nothing beside the tables, the picture, the link and the notices is touched by a calm content. -/
theorem frameHeard_rest (h : ∀ p, content ≠ .row p) :
    { frameHeard x content s with
      rlc := s.rlc, peers := s.peers, holders := s.holders, picture := s.picture
      noticesA := s.noticesA, noticesB := s.noticesB } = s := by
  have hu := onlyTables_formedClaims x content s
  have hrest := rest_of_restKept (restKept_frameHeard x content s) ((frameHeard_calm h).1.trans hu.zones.symm)
  generalize frameHeard x content s = v at hrest
  generalize s.formedClaims x content = u at hu hrest
  have hrlc := hu.rlc
  have hpicture := hu.picture
  calc { v with
        rlc := s.rlc, peers := s.peers, holders := s.holders, picture := s.picture
        noticesA := s.noticesA, noticesB := s.noticesB }
      = { ({ v with rlc := u.rlc, picture := u.picture, noticesA := u.noticesA, noticesB := u.noticesB } : State) with
            rlc := s.rlc, peers := s.peers, holders := s.holders, picture := s.picture
            noticesA := s.noticesA, noticesB := s.noticesB } := rfl
    _ = { u with
            rlc := s.rlc, peers := s.peers, holders := s.holders, picture := s.picture
            noticesA := s.noticesA, noticesB := s.noticesB } := by rw [hrest]
    _ = { u with peers := s.peers, holders := s.holders, noticesA := s.noticesA, noticesB := s.noticesB } := by
      rw [← hrlc, ← hpicture]
    _ = s := hu.rest

/-- A return is told, and no later signal of the event takes its record away (R53, R167). -/
theorem frameHeard_station (h : ∀ p, content ≠ .row p) (hlaw : SummaryLaw s) (hlost : (s.peer x).presence = .lost) {p : Port}
    (ha : (s.port p).attached = true) (hroom : (s.notices p).queue.length < 32) :
    ∃ r, ((frameHeard x content s).notices p).find { level := 4, subject := .station x } = some r ∧ r.detail = 2 := by
  have hworst : WorstLaw (s.formedClaims x content) := fun f hf => by
    have hu := onlyTables_formedClaims x content s
    rw [hu.floor, hu.picture]
    exact worstLaw_of_summaryLaw hlaw f hf
  rw [frameHeard_event, find_pictureEvent _ _ (calm_contentChanges h) hworst (show 4 < 5 by decide)]
  exact formedClaims_station x content s hlost ha hroom

/-! ### The entries after a frame -/

/-- The entry after STALE has been cleared on a returning peer's row (R35). -/
def State.entryHeard (x o l : Nat) (s : State) : ZoneEntry :=
  { s.entry o l with stale := (s.entry o l).stale && !(decide (o = x) && decide ((s.peer x).presence = .lost)) }

theorem beq_eq_decide_lost (r : PeerRecord) : (r.presence == .lost) = decide (r.presence = .lost) := by
  cases h : r.presence <;> rfl

theorem writeEntries_cleared (hx : x ≤ 62) {o l : Nat} (hl : l ≤ 15) :
    (writeEntries (staleCleared x ((s.peer x).presence == .lost) (s.formedClaims x content))
      (s.formedClaims x content)).entry o l = s.entryHeard x o l := by
  rw [writeEntries_staleCleared hx _ _ hl, (onlyTables_formedClaims x content s).entry, beq_eq_decide_lost]
  rfl

theorem frameHeard_entry_other (hx : x ≤ 62) {o l : Nat} (hl : l ≤ 15) :
    (frameHeard x .other s).entry o l = s.entryHeard x o l := by
  rw [(frameHeard_calm (by simp)).2.2]
  exact writeEntries_cleared hx hl

theorem frameHeard_entry_attendance (hx : x ≤ 62) (f : Nat) (list : List Attendance) {o l : Nat} (hl : l ≤ 15) :
    (frameHeard x (.attendance f list) s).entry o l = s.entryHeard x o l := by
  rw [(frameHeard_calm (by simp)).2.2]
  exact writeEntries_cleared hx hl

theorem frameHeard_entry_ack (hx : x ≤ 62) {o l : Nat} (ho : o ≤ 62) (hl : l ≤ 15) (a : Ack) {q m : Nat} (hm : m ≤ 15) :
    (frameHeard x (.ack o l a) s).entry q m =
      if (q, m) = (o, l) then (s.entryHeard x q m).acked a else s.entryHeard x q m := by
  rw [(frameHeard_calm (by simp)).2.2]
  refine (writeEntries_withAck ho hl _ a _ hm).trans ?_
  rw [writeEntries_cleared hx hm]

theorem frameHeard_entry_directory (hx : x ≤ 62) (d : PeerDirectory) {o l : Nat} (hl : l ≤ 15) :
    (frameHeard x (.directory d) s).entry o l =
      if o = x then (s.entryHeard x o l).relabel (d.zoneLabels.getD l []) else s.entry o l := by
  rw [(frameHeard_calm (by simp)).2.2]
  refine (writeEntries_rowChanges hx (fun l e =>
    (if (s.peer x).presence == .lost then e.clearStale else e).relabel (d.zoneLabels.getD l [])) _ hl).trans ?_
  rw [(onlyTables_formedClaims x (.directory d) s).entry, beq_eq_decide_lost]
  refine if_ctx_congr Iff.rfl (fun ho => ?_) fun _ => rfl
  rw [State.entryHeard, decide_eq_true ho, Bool.true_and]
  by_cases hlost : (s.peer x).presence = .lost
  · rw [if_pos (decide_eq_true hlost), decide_eq_true hlost, Bool.not_true, Bool.and_false]
    rfl
  · rw [if_neg (by simpa using hlost), decide_eq_false hlost, Bool.not_false, Bool.and_true]

/-- A row replaced: each entry as its record gives it (R32). -/
theorem frameHeard_entry_row (hx : x ≤ 62) (payload : List Byte) {o l : Nat} (hl : l ≤ 15) (ho : o ≠ s.ownOrigin) :
    (frameHeard x (.row payload) s).entry o l =
      if o = x then ((recordOfLine payload l).map (replaceEntry s.clock (s.entry o l))).getD (s.entry o l)
      else s.entry o l := by
  have hu := onlyTables_formedClaims x (.row payload) s
  have hslot := pictureEvent_slot
    (contentChanges x ((s.peer x).presence == .lost) (.row payload) (s.formedClaims x (.row payload)))
    (contentLabels x (.row payload) (s.formedClaims x (.row payload)) ++
      changedOwnerLabels (s.toldReturn x (.row payload)) (s.formedClaims x (.row payload)))
    (FrameContent.row payload).lists (s.formedClaims x (.row payload)) (n := entryIndex o l)
    fun i hi => by rw [hu.ownOrigin]; exact entryIndex_ne (by omega) hi ho
  rw [frameHeard_event]
  refine hslot.trans ?_
  rw [← State.entry_eq_slot, contentChanges, rowReplacement_eq, writeEntries_rowOf hx _ _ hl, hu.clock, hu.entry, hu.entry]
  refine if_ctx_congr Iff.rfl (fun h => ?_) fun _ => rfl
  rw [h]

/-- Each own line and its entry after a frame heard are as they were but for a calm change, or the line has boosted. -/
theorem frameHeard_lines (x : Nat) (content : FrameContent) (s : State) {i : Nat} (hi : i < 16) :
    LineKept i (writeEntries (contentChanges x ((s.peer x).presence == .lost) content (s.formedClaims x content))
      (s.formedClaims x content)) (frameHeard x content s) ∨
    LineBoosted i (writeEntries (contentChanges x ((s.peer x).presence == .lost) content (s.formedClaims x content))
      (s.formedClaims x content)) (frameHeard x content s) := by
  rw [frameHeard_event]
  exact pictureEvent_lines _ _ _ _ hi

end

/-! ### The loss of a peer, whole -/

section

variable (x : Nat) (s : State)

/-- A loss is an event of the picture in that state (R34, R52). -/
theorem peerLost_event : peerLost x s = pictureEvent (rowChanges x (fun _ e => e.makeStale) (s.lossTold x))
    (changedOwnerLabels ((s.setPeer x (s.peer x).lose).notifyBoth fun n => n.takeStation s.clock x false) (s.lossTold x)) []
    (s.lossTold x) := rfl

theorem restKept_peerLost : RestKept (s.lossTold x) (peerLost x s) := by
  rw [peerLost_event]
  exact restKept_pictureEvent ..

theorem peerLost_peers : (peerLost x s).peers = (s.setPeer x (s.peer x).lose).peers :=
  (restKept_peerLost x s).peers.trans (lossTold_peers x s)

theorem peerLost_address : (peerLost x s).address = s.address :=
  (restKept_peerLost x s).address.trans (onlyTables_lossTold x s).address

theorem peerLost_quiet : (peerLost x s).zones = s.zones ∧ (peerLost x s).rlc = s.rlc ∧
    ∀ o l, (peerLost x s).entry o l =
      (writeEntries (rowChanges x (fun _ e => e.makeStale) (s.lossTold x)) (s.lossTold x)).entry o l := by
  have hu := onlyTables_lossTold x s
  have hcalm := calm_rowChanges (x := x) (fun _ => ZoneEntry.core_makeStale) (s := s.lossTold x)
  rw [peerLost_event]
  generalize changedOwnerLabels _ _ = labels
  obtain ⟨hz, hslot, hrlc⟩ := pictureEvent_quiet labels [] (quietChanges_of_calm hcalm)
  exact ⟨hz.trans hu.zones, hrlc.trans hu.rlc, fun o l => hslot _⟩

variable {x s}

theorem peerLost_entry (hx : x ≤ 62) {o l : Nat} (hl : l ≤ 15) :
    (peerLost x s).entry o l = if o = x then (s.entry o l).makeStale else s.entry o l := by
  rw [(peerLost_quiet x s).2.2, writeEntries_rowChanges hx _ _ hl, (onlyTables_lossTold x s).entry]

end

end Sys2Proof.Machine
end

section
/-! SUPPORT. The laws of the attendance lists (R41), of STALE (R36) and of the acknowledgements of remote entries (R26): what
the commands do to what they look at keeps them. -/

namespace Sys2Proof.Machine

open Sys2Proof

/-! ### The attendance lists (R41) -/

/-- An attendance list as R41 has it. -/
def AttendanceList (l : List Attendance) : Prop :=
  l.length ≤ 4 ∧ l.Pairwise fun a b => ¬(a.station = b.station ∧ a.port = b.port)

theorem Attendance.isOf_iff (station : Nat) (p : Port) (a : Attendance) :
    a.isOf station p = true ↔ a.station = station ∧ a.port = p := by
  simp [Attendance.isOf]

/-- The list without the entry of a station and port holds no such entry. -/
theorem not_mem_attendOffList {station : Nat} {p : Port} {l : List Attendance} :
    ∀ b ∈ attendOffList station p l, ¬(b.station = station ∧ b.port = p) := fun b hb => by
  have h := (List.mem_filter.mp hb).2
  rw [Bool.not_eq_true', Bool.eq_false_iff, Ne, Attendance.isOf_iff] at h
  exact h

theorem AttendanceList.off {l : List Attendance} (h : AttendanceList l) (station : Nat) (p : Port) :
    AttendanceList (attendOffList station p l) :=
  ⟨(List.length_filter_le ..).trans h.1, h.2.filter _⟩

theorem attendanceList_append {l : List Attendance} {a : Attendance} (hlen : l.length ≤ 3)
    (hpair : l.Pairwise fun a b => ¬(a.station = b.station ∧ a.port = b.port))
    (hnew : ∀ b ∈ l, ¬(b.station = a.station ∧ b.port = a.port)) : AttendanceList (l ++ [a]) := by
  refine ⟨by rw [List.length_append, List.length_singleton]; omega, List.pairwise_append.mpr
    ⟨hpair, List.pairwise_singleton _ _, fun b hb c hc => ?_⟩⟩
  rw [List.mem_singleton.mp hc]
  exact hnew b hb

/-- An entry refreshed is removed first; a new one finds room or takes the place of the oldest (R71). -/
theorem AttendanceList.on {l : List Attendance} (h : AttendanceList l) (a : Attendance) : AttendanceList (attendOnList a l) := by
  obtain ⟨hlen, hpair⟩ := h
  unfold attendOnList
  split
  · rename_i hany
    obtain ⟨b, hb, hof⟩ := List.any_eq_true.mp hany
    have hless : (attendOffList a.station a.port l).length < l.length := by
      refine List.length_filter_lt_length_iff_exists.mpr ⟨b, hb, ?_⟩
      rw [hof]
      exact Bool.noConfusion
    exact attendanceList_append (show (attendOffList a.station a.port l).length ≤ 3 by omega) (hpair.filter _)
      not_mem_attendOffList
  · rename_i hnone
    have hnew : ∀ b ∈ l, ¬(b.station = a.station ∧ b.port = a.port) := fun b hb hof =>
      hnone (List.any_eq_true.mpr ⟨b, hb, (Attendance.isOf_iff ..).mpr hof⟩)
    split
    · rename_i hroom
      exact attendanceList_append (Nat.le_of_lt_succ hroom) hpair hnew
    · exact attendanceList_append (by rw [List.length_drop]; omega) (hpair.sublist (List.drop_sublist ..))
        fun b hb => hnew b (List.mem_of_mem_drop hb)

theorem attendanceLaw_congr {s t : State} (h : ∀ f < 256, (t.floor f).attendance = (s.floor f).attendance)
    (hs : AttendanceLaw s) : AttendanceLaw t := fun f hf => by
  rw [h f hf]
  exact hs f hf

/-- A floor given a lawful list leaves the law. -/
theorem attendanceLaw_setAttendance (f : Nat) {l : List Attendance} (hl : AttendanceList l) {s : State}
    (hs : AttendanceLaw s) : AttendanceLaw (setAttendance f l s) := fun g hg => by
  have hr : Recomputed _ _ _ s (setAttendance f l s) := recomputed_recomputeWith ..
  by_cases hgf : g = f
  · rw [hr.attendance g hg hgf]
    exact hl
  · rw [hr.untouched g hgf]
    exact hs g hg

/-- A floor beyond the table has no list. -/
theorem floor_beyond {f : Nat} (hf : ¬f < 256) (s : State) : s.floor f = FloorSummary.atReset := by
  rw [State.floor, tget, List.getD_eq_default _ _ (by simpa using hf)]

theorem attendanceList_floor (f : Nat) {s : State} (hs : AttendanceLaw s) : AttendanceList (s.floor f).attendance := by
  by_cases hf : f < 256
  · exact hs f hf
  · rw [floor_beyond hf]
    exact ⟨Nat.zero_le _, List.Pairwise.nil⟩

/-- The lists a content gives are lawful (R72). -/
theorem attendanceList_of_fits {content : FrameContent} {s : State} (hfit : content.Fits s) (hs : AttendanceLaw s) :
    ∀ x ∈ content.lists, AttendanceList x.2 := by
  cases content with
  | attendance f list =>
    intro x hx
    rw [List.mem_singleton.mp hx]
    rcases hfit with ⟨a, rfl⟩ | ⟨station, p, rfl⟩
    · exact AttendanceList.on (attendanceList_floor f hs) a
    · exact AttendanceList.off (attendanceList_floor f hs) station p
  | row _ => exact fun _ hx => absurd hx List.not_mem_nil
  | directory _ => exact fun _ hx => absurd hx List.not_mem_nil
  | ack _ _ _ => exact fun _ hx => absurd hx List.not_mem_nil
  | other => exact fun _ hx => absurd hx List.not_mem_nil

theorem attendanceLaw_frameHeard (x : Nat) {content : FrameContent} {s : State} (hfit : content.Fits s)
    (hs : AttendanceLaw s) : AttendanceLaw (frameHeard x content s) := fun f hf => by
  rw [frameHeard_attendance x content s hf]
  cases hg : givenFor content.lists f with
  | none => exact hs f hf
  | some l =>
    obtain ⟨y, hy, rfl⟩ := Option.map_eq_some_iff.mp hg
    exact attendanceList_of_fits hfit hs y (List.mem_of_find?_eq_some hy)

theorem raisedIf_picture (raised : Bool) (s : State) : (s.raisedIf raised).picture = s.picture := by
  cases raised <;> rfl

theorem raisedIf_peers (raised : Bool) (s : State) : (s.raisedIf raised).peers = s.peers := by
  cases raised <;> rfl

theorem raisedIf_address (raised : Bool) (s : State) : (s.raisedIf raised).address = s.address := by
  cases raised <;> rfl

theorem attendanceLaw_evaluateLine (i : Nat) {s : State} (hs : AttendanceLaw s) : AttendanceLaw (evaluateLine i s) := by
  unfold evaluateLine
  extract_lets old new
  rw [writeOwn_eq]
  refine attendanceLaw_congr (s := s) (fun f hf => ?_) hs
  rw [pictureEvent_attendance _ _ _ hf, State.floor_congr (raisedIf_picture ..)]
  rfl

theorem attendanceLaw_samplingReady {s : State} (hs : AttendanceLaw s) : AttendanceLaw (samplingReady s) :=
  attendanceLaw_congr (fun _ _ => by rw [samplingReady_floor]) hs

theorem configured_picture (x : StoreScan) (s : State) : (s.configured x).picture = s.picture := rfl

theorem configured_peers (x : StoreScan) (s : State) : (s.configured x).peers = s.peers := rfl

theorem configured_address (x : StoreScan) (s : State) : (s.configured x).address = s.address := rfl

theorem attendanceLaw_storeReady (x : StoreScan) {s : State} (hs : AttendanceLaw s) : AttendanceLaw (storeReady x s) := by
  rw [storeReady_eq]
  refine attendanceLaw_samplingReady (attendanceLaw_congr (s := s) (fun f hf => ?_) hs)
  rw [pictureEvent_attendance _ _ _ hf, State.floor_congr (configured_picture x s)]

theorem attendanceLaw_peerLost (x : Nat) {s : State} (hs : AttendanceLaw s) : AttendanceLaw (peerLost x s) :=
  attendanceLaw_congr (s := s) (fun f hf => by
    rw [peerLost_event, pictureEvent_attendance _ _ _ hf, (onlyTables_lossTold x s).floor f]) hs

theorem attendanceLaw_sampleLine (i v : Nat) {s : State} (hs : AttendanceLaw s) : AttendanceLaw (sampleLine i v s) :=
  sampleLine_induction v hs hs fun _ hu _ => attendanceLaw_evaluateLine i hu

theorem blind_attendanceLaw : Blind AttendanceLaw where
  ste _ _ h := h
  rlc _ _ h := h
  port p _ _ h := by cases p <;> exact h
  notices p _ _ h := by cases p <;> exact h
  store _ _ _ h := h

theorem attendanceLaw_resetStation (address : Nat) (maintenance held : Bool) (store : PlanStore) (draws : Nat) (s : State) :
    AttendanceLaw (resetStation address maintenance held store draws s) := fun f _ => by
  rw [show (resetStation address maintenance held store draws s).floor f = .atReset from tget_replicate 256 f _]
  exact ⟨Nat.zero_le _, List.Pairwise.nil⟩

/-- What the commands do to the attendance lists keeps R41. -/
theorem upheld_attendanceLaw : Upheld AttendanceLaw where
  toBlind := blind_attendanceLaw
  marks _ _ h := h
  unplaced _ _ h := h
  rejected _ _ h := h
  reports _ _ h := h
  flash _ _ h := h
  draws _ _ h := h
  attendOn f a _ h := attendanceLaw_setAttendance f ((attendanceList_floor f h).on a) h
  attendOff f station p _ h := attendanceLaw_setAttendance f ((attendanceList_floor f h).off station p) h
  ack _ _ _ s _ _ _ _ h := attendanceLaw_congr (s := s) (fun _ hf => pictureEvent_attendance _ _ s hf) h
  heard x _ _ _ hfit h := attendanceLaw_frameHeard x hfit h
  lost x s _ h := attendanceLaw_peerLost x h
  sampled i _ v s h := attendanceLaw_samplingReady (attendanceLaw_sampleLine i v h)
  startup slot scan begun bytes _ ha h := startupReadEnds_induction blind_attendanceLaw slot begun bytes ha h fun x =>
    attendanceLaw_storeReady x h
  reset _ _ s _ he := by
    cases he
    exact attendanceLaw_resetStation _ _ _ _ _ s
  asserted s _ he := by
    cases he
    exact attendanceLaw_resetStation _ _ _ _ _ s
  clock _ _ h := h
  pending _ _ h := h

/-! ### What the laws of remote entries look at -/

/-- No KNOWN entry of the own row is STALE. -/
def OwnFresh (s : State) : Prop := ∀ i < 16, (s.entry s.ownOrigin i).known = true → (s.entry s.ownOrigin i).stale = false

/-- A KNOWN entry of a peer's row is STALE exactly when the peer is LOST. -/
def RemoteStale (s : State) : Prop := ∀ o ≤ 62, ∀ l ≤ 15, s.isPeer o = true → (s.entry o l).known = true →
  ((s.entry o l).stale = true ↔ (s.peer o).presence = .lost)

theorem staleLaw_iff (s : State) : StaleLaw s ↔ OwnFresh s ∧ RemoteStale s := by
  constructor
  · intro h
    exact ⟨fun i hi hk => (h _ s.ownOrigin_le i (Nat.le_of_lt_succ hi) hk).1 rfl,
      fun o ho l hl hp hk => (h o ho l hl hk).2 hp⟩
  · rintro ⟨hown, hremote⟩ o ho l hl hk
    refine ⟨fun he => ?_, fun hp => hremote o ho l hl hp hk⟩
    subst he
    exact hown l (Nat.lt_succ_of_le hl) hk

/-- An entry's acknowledgement is one that R26 lets a remote entry carry. -/
def ZoneEntry.AckFits (e : ZoneEntry) : Prop := ∀ a, e.ack = some a → e.zstate.inEpisode = true ∧ a.change = e.changeNumber

theorem remoteAckLaw_iff (s : State) :
    RemoteAckLaw s ↔ ∀ o ≤ 62, ∀ l ≤ 15, s.isPeer o = true → (s.entry o l).AckFits := Iff.rfl

theorem isPeer_congr {s t : State} (h : t.address = s.address) (o : Nat) : t.isPeer o = s.isPeer o := by
  rw [State.isPeer, h, State.isPeer]

/-- Both laws of remote entries look at the peers and at the rows other than the own one. -/
theorem remote_congr {s t : State} (ha : t.address = s.address) (hp : t.peers = s.peers)
    (he : ∀ o ≤ 62, ∀ l ≤ 15, o ≠ s.ownOrigin → t.entry o l = s.entry o l) :
    (RemoteStale s → RemoteStale t) ∧ (RemoteAckLaw s → RemoteAckLaw t) := by
  refine ⟨fun h o ho l hl hpeer => ?_, fun h o ho l hl hpeer => ?_⟩
  all_goals
    rw [isPeer_congr ha] at hpeer
    rw [he o ho l hl (ownOrigin_ne_peer hpeer)]
  · rw [State.peer, hp]
    exact h o ho l hl hpeer
  · exact h o ho l hl hpeer

theorem ownFresh_congr {s t : State} (ha : t.address = s.address) (hp : t.picture = s.picture) (h : OwnFresh s) :
    OwnFresh t := fun i hi => by
  rw [State.entry_eq_slot, State.slot_congr hp, State.ownOrigin, ha]
  exact h i hi

/-- The own row stays fresh in an event that writes it fresh: a boost writes its own entry fresh too (R21, R23). -/
theorem ownFresh_pictureEvent {changes : List EntryChange} (labels : List (Nat × Text)) (lists : List (Nat × List Attendance))
    {s : State} (h : OwnFresh (writeEntries changes s)) : OwnFresh (pictureEvent changes labels lists s) := fun i hi hk => by
  have hr := restKept_pictureEvent changes labels lists s
  have hw := restKept_writeEntries changes s
  have hown : (pictureEvent changes labels lists s).ownOrigin = (writeEntries changes s).ownOrigin :=
    hr.ownOrigin.trans hw.ownOrigin.symm
  rw [hown, State.entry_eq_slot] at hk ⊢
  rcases pictureEvent_lines changes labels lists s hi with k | b
  · rw [k.entry] at hk ⊢
    exact h i hi hk
  · rw [b.entry]
    rfl

/-- A change of the own row that is EMPTY, fresh or as the entry was leaves the row fresh. -/
theorem ownFresh_writeEntries {changes : List EntryChange} {s : State} (h : OwnFresh s)
    (hc : ∀ c ∈ changes, ∀ i < 16, c.place = entryIndex s.ownOrigin i → c.new.known = true → c.new.stale = false) :
    OwnFresh (writeEntries changes s) := fun i hi hk => by
  rw [(restKept_writeEntries changes s).ownOrigin, State.entry_eq_slot] at hk ⊢
  rcases writeEntries_slot_cases changes (entryIndex s.ownOrigin i) s with hs | ⟨c, hmem, hplace, hs⟩
  · rw [hs] at hk ⊢
    exact h i hi hk
  · rw [hs] at hk ⊢
    exact hc c hmem i hi hplace hk

/-- Changes of the own row leave the others. -/
theorem pictureEvent_other_row {changes : List EntryChange} {s : State} (labels : List (Nat × Text))
    (lists : List (Nat × List Attendance)) (hc : ∀ c ∈ changes, c.origin = s.ownOrigin ∧ c.line < 16) {o l : Nat}
    (hl : l ≤ 15) (ho : o ≠ s.ownOrigin) : (pictureEvent changes labels lists s).entry o l = s.entry o l := by
  refine (pictureEvent_slot changes labels lists s fun i hi => entryIndex_ne (by omega) hi ho).trans ?_
  refine writeEntries_slot_other (fun c hmem => ?_) s
  obtain ⟨horigin, hline⟩ := hc c hmem
  rw [EntryChange.place, horigin]
  exact entryIndex_ne hline (by omega) (Ne.symm ho)

/-! ### Samples and the store-ready event -/

/-- An evaluation of a line keeps both laws: it writes its own entry fresh. -/
theorem staleLaw_evaluateLine {i : Nat} (hi : i < 16) {s : State} :
    (StaleLaw s → StaleLaw (evaluateLine i s)) ∧ (RemoteAckLaw s → RemoteAckLaw (evaluateLine i s)) := by
  unfold evaluateLine
  extract_lets old new
  rw [writeOwn_eq]
  generalize hu : (s.setLine i new).raisedIf (reportableDiffers old new) = u
  have hpicture : u.picture = s.picture := by rw [← hu]; exact raisedIf_picture ..
  have haddress : u.address = s.address := by rw [← hu]; exact raisedIf_address ..
  have hpeers : u.peers = s.peers := by rw [← hu]; exact raisedIf_peers ..
  have hown : (s.setLine i new).ownOrigin = u.ownOrigin := by rw [← hu]; exact (raisedIf_ownOrigin ..).symm
  rw [hown]
  generalize hc : ({ origin := u.ownOrigin, line := i, new := ownEntryOf _ _ _ _ } : EntryChange) = c
  have hrow : ∀ d ∈ [c], d.origin = u.ownOrigin ∧ d.line < 16 := fun d hd => by
    rw [List.mem_singleton.mp hd, ← hc]
    exact ⟨rfl, hi⟩
  have hfresh : ∀ d ∈ [c], d.new.stale = false := fun d hd => by
    rw [List.mem_singleton.mp hd, ← hc]
    rfl
  have hr := restKept_pictureEvent [c] [] [] u
  have hremote := remote_congr (s := s) (hr.address.trans haddress) (hr.peers.trans hpeers) fun o _ l hl ho => by
    rw [pictureEvent_other_row [] [] hrow hl (by rwa [State.ownOrigin, haddress]), State.entry_eq_slot,
      State.slot_congr hpicture]
    rfl
  refine ⟨fun h => ?_, hremote.2⟩
  obtain ⟨hf, hs⟩ := (staleLaw_iff s).mp h
  exact (staleLaw_iff _).mpr ⟨ownFresh_pictureEvent _ _ (ownFresh_writeEntries (ownFresh_congr haddress hpicture hf)
    fun d hd _ _ _ _ => hfresh d hd), hremote.1 hs⟩

theorem remote_samplingReady {s : State} :
    (StaleLaw s → StaleLaw (samplingReady s)) ∧ (RemoteAckLaw s → RemoteAckLaw (samplingReady s)) := by
  unfold samplingReady
  split
  · exact ⟨id, id⟩
  · exact ⟨id, id⟩

/-- The store-ready event leaves the peers and their rows. -/
theorem remote_storeReady (x : StoreScan) (s : State) :
    (RemoteStale s → RemoteStale (s.readied x)) ∧ (RemoteAckLaw s → RemoteAckLaw (s.readied x)) :=
  remote_congr ((readied_rest x s).address.trans (configured_address x s))
    ((readied_rest x s).peers.trans (configured_peers x s)) fun _ _ _ hl ho => readied_other x s ho (Nat.lt_succ_of_le hl)

/-- An own entry written EMPTY, or given its label, is as fresh as it was (R14, R23). -/
theorem ownFresh_readied (x : StoreScan) {s : State} (h : OwnFresh s) : OwnFresh (s.readied x) := fun i hi hk => by
  have ho : (s.readied x).ownOrigin = s.ownOrigin :=
    (readied_rest x s).ownOrigin.trans (by rw [State.ownOrigin, configured_address, State.ownOrigin])
  rw [ho, readied_ownEntry x s hi rfl] at hk ⊢
  split at hk
  · rename_i hz
    rw [if_pos hz]
    rfl
  · rename_i hz
    rw [if_neg hz]
    exact h i hi hk

theorem staleLaw_storeReady (x : StoreScan) {s : State} (h : StaleLaw s) : StaleLaw (storeReady x s) := by
  rw [storeReady_readied]
  obtain ⟨hown, hremote⟩ := (staleLaw_iff s).mp h
  exact remote_samplingReady.1 ((staleLaw_iff _).mpr ⟨ownFresh_readied x hown, (remote_storeReady x s).1 hremote⟩)

theorem remoteAckLaw_storeReady (x : StoreScan) {s : State} (h : RemoteAckLaw s) : RemoteAckLaw (storeReady x s) := by
  rw [storeReady_readied]
  exact remote_samplingReady.2 ((remote_storeReady x s).2 h)

end Sys2Proof.Machine
end

section
/-! SUPPORT. What the commands do to the remote entries keeps the laws of STALE (R36) and of their acknowledgements (R26). -/

namespace Sys2Proof.Machine

open Sys2Proof

/-! ### A good ZONE STATE has a record for each line (R31) -/

theorem linesDistinct_iff (l : List ZoneRecord) : linesDistinct l = true ↔ (l.map ZoneRecord.line).Nodup := by
  induction l with
  | nil => simp [linesDistinct]
  | cons r rest ih =>
    rw [linesDistinct, Bool.and_eq_true, ih, List.map_cons, List.nodup_cons, List.all_eq_true]
    refine and_congr_left fun _ => ⟨fun h hmem => ?_, fun h q hq => decide_eq_true fun he => h ?_⟩
    · obtain ⟨q, hq, he⟩ := List.mem_map.mp hmem
      exact of_decide_eq_true (h q hq) he
    · exact he ▸ List.mem_map_of_mem hq

theorem line_le_of_fits {r : ZoneRecord} (h : r.fits = true) : r.line ≤ 15 := by
  simp only [ZoneRecord.fits, Bool.and_eq_true, decide_eq_true_eq] at h
  exact h.1.1.1.1.1.1

/-- Sixteen records of distinct lines up to 15 leave no line out. -/
theorem recordOfLine_isSome {payload : List Byte} (h : zonePayloadGood payload = true) {l : Nat} (hl : l ≤ 15) :
    ∃ r, recordOfLine payload l = some r := by
  simp only [zonePayloadGood, Bool.and_eq_true, List.all_eq_true] at h
  obtain ⟨⟨-, hfits⟩, hdistinct⟩ := h
  have hlines : (zoneRecords payload).map ZoneRecord.line ⊆ List.range 16 := fun n hn => by
    obtain ⟨r, hr, rfl⟩ := List.mem_map.mp hn
    exact List.mem_range.mpr (Nat.lt_succ_of_le (line_le_of_fits (hfits r hr)))
  have hperm := (List.subperm_of_subset ((linesDistinct_iff _).mp hdistinct) hlines).perm_of_length_le
    (by simp [zoneRecords])
  obtain ⟨r, hr, hline⟩ := List.mem_map.mp (hperm.mem_iff.mpr (List.mem_range.mpr (Nat.lt_succ_of_le hl)))
  exact Option.isSome_iff_exists.mp (List.find?_isSome.mpr ⟨r, hr, decide_eq_true hline⟩)

theorem isPeer_le {x : Nat} {s : State} (h : s.isPeer x = true) : x ≤ 62 := by
  simp only [State.isPeer, validAddress, Bool.and_eq_true, decide_eq_true_eq] at h
  exact h.1.2

/-! ### The entries of a frame heard -/

section

variable {x : Nat} {content : FrameContent} {s : State}

/-- A content other than a row leaves an entry's fields, its label and acknowledgement excepted, and clears STALE on the
sender's row. -/
theorem frameHeard_entry_core (hx : x ≤ 62) (hrow : ∀ p, content ≠ .row p) (hfit : content.Fits s) {o l : Nat} (hl : l ≤ 15) :
    ((frameHeard x content s).entry o l).core = (s.entry o l).core ∧
    ((frameHeard x content s).entry o l).stale = (s.entryHeard x o l).stale ∧
    (((frameHeard x content s).entry o l).ack = (s.entry o l).ack ∨ ∃ a, content = .ack o l a ∧
      ((frameHeard x content s).entry o l).ack = some a) := by
  cases content with
  | row p => exact absurd rfl (hrow p)
  | other => rw [frameHeard_entry_other hx hl]; exact ⟨rfl, rfl, .inl rfl⟩
  | attendance f list => rw [frameHeard_entry_attendance hx f list hl]; exact ⟨rfl, rfl, .inl rfl⟩
  | directory d =>
    rw [frameHeard_entry_directory hx d hl]
    split
    · exact ⟨rfl, rfl, .inl rfl⟩
    · rename_i ho
      refine ⟨rfl, ?_, .inl rfl⟩
      rw [State.entryHeard, decide_eq_false ho, Bool.false_and, Bool.not_false, Bool.and_true]
  | ack p m a =>
    obtain ⟨hp, hm, -⟩ := hfit
    rw [frameHeard_entry_ack hx hp hm a hl]
    split
    · rename_i he
      obtain ⟨rfl, rfl⟩ := Prod.mk.injEq .. ▸ he
      exact ⟨rfl, rfl, .inr ⟨a, rfl, rfl⟩⟩
    · exact ⟨rfl, rfl, .inl rfl⟩

/-- The entries of a row that a good ZONE STATE replaces (R32). -/
theorem frameHeard_entry_replaced {payload : List Byte} (hgood : zonePayloadGood payload = true) (hpeer : s.isPeer x = true)
    {l : Nat} (hl : l ≤ 15) : ∃ r, recordOfLine payload l = some r ∧
      (frameHeard x (.row payload) s).entry x l = replaceEntry s.clock (s.entry x l) r := by
  obtain ⟨r, hr⟩ := recordOfLine_isSome hgood hl
  refine ⟨r, hr, ?_⟩
  rw [frameHeard_entry_row (isPeer_le hpeer) payload hl (ownOrigin_ne_peer hpeer), if_pos rfl, hr]
  rfl

end

/-! ### STALE (R36) -/

/-- A peer heard is PRESENT, and its record of STALE is cleared (R35, R50). -/
theorem frameHeard_presence (x : Nat) (hx : x ≤ 62) (content : FrameContent) (s : State) :
    ((frameHeard x content s).peer x).presence = .present := by
  rw [frameHeard_peer_same hx]
  cases content <;> rfl

/-- A law of the peers' rows is kept where the peers' records are, and on the sender's row where STALE is as it should be. -/
theorem remoteStale_of_row {x : Nat} {s t : State} (ha : t.address = s.address)
    (hpeer : ∀ o, o ≠ x → t.peer o = s.peer o)
    (hentry : ∀ o ≤ 62, ∀ l ≤ 15, s.isPeer o = true → o ≠ x → (t.entry o l).known = (s.entry o l).known ∧
      (t.entry o l).stale = (s.entry o l).stale)
    (hrow : ∀ l ≤ 15, (t.entry x l).known = true → ((t.entry x l).stale = true ↔ (t.peer x).presence = .lost))
    (hs : RemoteStale s) : RemoteStale t := fun o ho l hl hp hk => by
  rw [isPeer_congr ha] at hp
  by_cases hox : o = x
  · subst hox
    exact hrow l hl hk
  · obtain ⟨hknown, hstale⟩ := hentry o ho l hl hp hox
    rw [hpeer o hox, hstale]
    exact hs o ho l hl hp (hknown ▸ hk)

theorem ownOrigin_of_address {s t : State} (h : t.address = s.address) : t.ownOrigin = s.ownOrigin := by
  rw [State.ownOrigin, h, State.ownOrigin]

/-- On the row of a peer that is heard, what was STALE because the peer was LOST is so no longer. -/
theorem entryHeard_fresh {x l : Nat} {s : State} (hpeer : s.isPeer x = true) (hl : l ≤ 15) (hs : RemoteStale s)
    (hk : (s.entry x l).known = true) : (s.entryHeard x x l).stale = false := by
  have hiff := hs x (isPeer_le hpeer) l hl hpeer hk
  rw [State.entryHeard, decide_eq_true rfl, Bool.true_and]
  by_cases hlost : (s.peer x).presence = .lost
  · rw [decide_eq_true hlost, Bool.not_true, Bool.and_false]
  · rw [Bool.eq_false_iff.mpr fun hst => hlost (hiff.mp hst), Bool.false_and]

theorem entryHeard_stale_ne {x o l : Nat} {s : State} (ho : o ≠ x) : (s.entryHeard x o l).stale = (s.entry o l).stale := by
  rw [State.entryHeard, decide_eq_false ho, Bool.false_and, Bool.not_false, Bool.and_true]

/-- A row replaced is a peer's, and the own row is written by a boost alone. -/
theorem ownFresh_frameHeard_row {x : Nat} {s : State} (payload : List Byte) (hpeer : s.isPeer x = true) (hs : OwnFresh s) :
    OwnFresh (frameHeard x (.row payload) s) := by
  have hu := onlyTables_formedClaims x (.row payload) s
  rw [frameHeard_event]
  generalize s.formedClaims x (.row payload) = u at hu ⊢
  refine ownFresh_pictureEvent _ _ (ownFresh_writeEntries (fun i hi hk => ?_) fun c hc i _ hplace => ?_)
  · rw [hu.ownOrigin, hu.entry] at hk ⊢
    exact hs i hi hk
  · rw [contentChanges, rowReplacement_eq] at hc
    obtain ⟨horigin, hline, -⟩ := mem_rowOf.mp hc
    rw [EntryChange.place, horigin, hu.ownOrigin] at hplace
    exact absurd hplace (entryIndex_ne hline (by omega) (ownOrigin_ne_peer hpeer))

theorem staleLaw_frameHeard (x : Nat) {content : FrameContent} {s : State} (hpeer : s.isPeer x = true)
    (hfit : content.Fits s) (hs : StaleLaw s) : StaleLaw (frameHeard x content s) := by
  obtain ⟨hown, hremote⟩ := (staleLaw_iff s).mp hs
  have hx := isPeer_le hpeer
  have ha := frameHeard_address x content s
  have hpresent := frameHeard_presence x hx content s
  have hne : s.ownOrigin ≠ x := Ne.symm (ownOrigin_ne_peer hpeer)
  by_cases hrow : ∃ p, content = .row p
  · obtain ⟨payload, rfl⟩ := hrow
    refine (staleLaw_iff _).mpr ⟨?_, remoteStale_of_row (x := x) ha (fun o ho => frameHeard_peer_ne ho) (fun o _ l hl hp ho => ?_)
      (fun l hl _ => ?_) hremote⟩
    · exact ownFresh_frameHeard_row payload hpeer hown
    · rw [frameHeard_entry_row hx payload hl (ownOrigin_ne_peer hp), if_neg ho]
      exact ⟨rfl, rfl⟩
    · obtain ⟨r, -, hentry⟩ := frameHeard_entry_replaced hfit hpeer hl
      rw [hentry, hpresent]
      exact ⟨fun h => Bool.noConfusion h, fun h => nomatch h⟩
  · have hcalm : ∀ p, content ≠ .row p := fun p hp => hrow ⟨p, hp⟩
    have hcore := fun {o l : Nat} (hl : l ≤ 15) => frameHeard_entry_core hx hcalm hfit (o := o) hl
    refine (staleLaw_iff _).mpr ⟨fun i hi hk => ?_, remoteStale_of_row (x := x) ha (fun o ho => frameHeard_peer_ne ho)
      (fun o _ l hl _ ho => ?_) (fun l hl hk => ?_) hremote⟩
    · rw [ownOrigin_of_address ha] at hk ⊢
      obtain ⟨hfields, hstale, -⟩ := hcore (o := s.ownOrigin) (Nat.le_of_lt_succ hi)
      rw [ZoneEntry.known_of_core hfields] at hk
      rw [hstale, entryHeard_stale_ne hne]
      exact hown i hi hk
    · obtain ⟨hfields, hstale, -⟩ := hcore (o := o) hl
      exact ⟨ZoneEntry.known_of_core hfields, hstale.trans (entryHeard_stale_ne ho)⟩
    · obtain ⟨hfields, hstale, -⟩ := hcore (o := x) hl
      rw [ZoneEntry.known_of_core hfields] at hk
      rw [hstale, entryHeard_fresh hpeer hl hremote hk, hpresent]
      exact ⟨fun h => Bool.noConfusion h, fun h => nomatch h⟩

theorem ZoneEntry.makeStale_of_known {e : ZoneEntry} (h : e.known = true) : e.makeStale = { e with stale := true } :=
  if_pos h

theorem ZoneEntry.known_makeStale (e : ZoneEntry) : e.makeStale.known = e.known :=
  ZoneEntry.known_of_core e.core_makeStale

theorem staleLaw_peerLost (x : Nat) {s : State} (hpeer : s.isPeer x = true) (hs : StaleLaw s) : StaleLaw (peerLost x s) := by
  obtain ⟨hown, hremote⟩ := (staleLaw_iff s).mp hs
  have hx := isPeer_le hpeer
  have ha := peerLost_address x s
  have hlost : ((peerLost x s).peer x).presence = .lost := by
    rw [State.peer, peerLost_peers]
    exact congrArg PeerRecord.presence (State.setPeer_peer_same (by omega) ..)
  refine (staleLaw_iff _).mpr ⟨fun i hi => ?_, remoteStale_of_row (x := x) ha (fun o ho => ?_) (fun o _ l hl _ ho => ?_)
    (fun l hl hk => ?_) hremote⟩
  · rw [ownOrigin_of_address ha, peerLost_entry hx (Nat.le_of_lt_succ hi), if_neg (Ne.symm (ownOrigin_ne_peer hpeer))]
    exact hown i hi
  · rw [State.peer, peerLost_peers]
    exact State.setPeer_peer_ne (Ne.symm ho) ..
  · rw [peerLost_entry hx hl, if_neg ho]
    exact ⟨rfl, rfl⟩
  · rw [peerLost_entry hx hl, if_pos rfl, ZoneEntry.known_makeStale] at hk
    rw [peerLost_entry hx hl, if_pos rfl, ZoneEntry.makeStale_of_known hk, hlost]
    exact ⟨fun _ => rfl, fun _ => rfl⟩

/-! ### An acknowledgement placed (R46) -/

section

variable (o l : Nat) (a : Ack) (s : State)

theorem restKept_placeAck : RestKept s (placeAck o l a s) := restKept_pictureEvent ..

theorem calm_ack : ∀ c ∈ [({ origin := o, line := l, new := (s.entry o l).acked a } : EntryChange)], c.Calm s :=
  fun _ hc => List.mem_singleton.mp hc ▸ rfl

theorem placeAck_quiet : (placeAck o l a s).zones = s.zones ∧ (placeAck o l a s).rlc = s.rlc := by
  obtain ⟨hz, -, hrlc⟩ := pictureEvent_quiet [] [] (quietChanges_of_calm (calm_ack o l a s))
  exact ⟨hz, hrlc⟩

variable {o l a s}

/-- The acknowledgement stands on its entry, and no other entry changes. -/
theorem placeAck_entry (ho : o ≤ 62) (hl : l ≤ 15) {q m : Nat} (hm : m ≤ 15) : (placeAck o l a s).entry q m =
    if (q, m) = (o, l) then (s.entry q m).acked a else s.entry q m := by
  refine ((pictureEvent_quiet [] [] (quietChanges_of_calm (calm_ack o l a s))).2.1 _).trans ?_
  have hlt : entryIndex o l < 1008 := by unfold entryIndex; omega
  refine (State.slot_setEntry o l ((s.entry o l).acked a) s (entryIndex q m)).trans ?_
  refine if_ctx_congr ((and_iff_left_of_imp fun h => h ▸ hlt).trans (eq_comm.trans (entryIndex_inj hm hl))) (fun h => ?_)
    fun _ => rfl
  obtain ⟨rfl, rfl⟩ := Prod.mk.injEq .. ▸ h
  rfl

end

/-! ### What else the commands do to the laws' entries -/

theorem staleLaw_congr {s t : State} (ha : t.address = s.address) (hp : t.peers = s.peers)
    (he : ∀ o ≤ 62, ∀ l ≤ 15, (t.entry o l).known = (s.entry o l).known ∧ (t.entry o l).stale = (s.entry o l).stale)
    (hs : StaleLaw s) : StaleLaw t := fun o ho l hl hk => by
  obtain ⟨hknown, hstale⟩ := he o ho l hl
  rw [hstale, ownOrigin_of_address ha, isPeer_congr ha, State.peer, hp]
  exact hs o ho l hl (hknown ▸ hk)

theorem setAttendance_entry (f : Nat) (list : List Attendance) (s : State) (o l : Nat) :
    (setAttendance f list s).entry o l = s.entry o l := by
  have hr : Recomputed _ _ _ s (setAttendance f list s) := recomputed_recomputeWith ..
  rw [State.entry_eq_slot, State.slot, hr.entries]
  rfl

theorem restKept_setAttendance (f : Nat) (list : List Attendance) (s : State) : RestKept s (setAttendance f list s) :=
  (recomputed_recomputeWith ..).rest

theorem staleLaw_setAttendance (f : Nat) (list : List Attendance) {s : State} (hs : StaleLaw s) :
    StaleLaw (setAttendance f list s) :=
  staleLaw_congr (restKept_setAttendance f list s).address (restKept_setAttendance f list s).peers
    (fun o _ l _ => by rw [setAttendance_entry]; exact ⟨rfl, rfl⟩) hs

theorem staleLaw_placeAck {o l : Nat} (ho : o ≤ 62) (hl : l ≤ 15) (a : Ack) {s : State} (hs : StaleLaw s) :
    StaleLaw (placeAck o l a s) :=
  staleLaw_congr (restKept_placeAck o l a s).address (restKept_placeAck o l a s).peers (fun q _ m hm => by
    rw [placeAck_entry ho hl hm]
    split <;> exact ⟨rfl, rfl⟩) hs

theorem resetStation_entry (address : Nat) (maintenance held : Bool) (store : PlanStore) (draws : Nat) (s : State) (o l : Nat) :
    (resetStation address maintenance held store draws s).entry o l = ZoneEntry.empty := tget_replicate 1008 _ _

theorem staleLaw_resetStation (address : Nat) (maintenance held : Bool) (store : PlanStore) (draws : Nat) (s : State) :
    StaleLaw (resetStation address maintenance held store draws s) := fun o _ l _ hk => by
  rw [resetStation_entry] at hk
  exact Bool.noConfusion hk

theorem remoteAckLaw_resetStation (address : Nat) (maintenance held : Bool) (store : PlanStore) (draws : Nat) (s : State) :
    RemoteAckLaw (resetStation address maintenance held store draws s) := fun o _ l _ _ a ha => by
  rw [resetStation_entry] at ha
  exact nomatch ha

theorem blind_staleLaw : Blind StaleLaw where
  ste _ _ h := h
  rlc _ _ h := h
  port p _ _ h := by cases p <;> exact h
  notices p _ _ h := by cases p <;> exact h
  store _ _ _ h := h

/-- What the commands do to the entries and the peers keeps R36. -/
theorem upheld_staleLaw : Upheld StaleLaw where
  toBlind := blind_staleLaw
  marks _ _ h := h
  unplaced _ _ h := h
  rejected _ _ h := h
  reports _ _ h := h
  flash _ _ h := h
  draws _ _ h := h
  attendOn f a s h := staleLaw_setAttendance f _ h
  attendOff f station p s h := staleLaw_setAttendance f _ h
  ack _ _ a _ ho hl _ _ h := staleLaw_placeAck ho hl a h
  heard x _ _ hx hfit h := staleLaw_frameHeard x hx hfit h
  lost x _ hx h := staleLaw_peerLost x hx h
  sampled _ hi v _ h := remote_samplingReady.1 (sampleLine_induction v h h fun _ hu _ => (staleLaw_evaluateLine hi).1 hu)
  startup slot scan begun bytes _ ha h := startupReadEnds_induction blind_staleLaw slot begun bytes ha h fun x =>
    staleLaw_storeReady x h
  reset _ _ s _ he := by
    cases he
    exact staleLaw_resetStation _ _ _ _ _ s
  asserted s _ he := by
    cases he
    exact staleLaw_resetStation _ _ _ _ _ s
  clock _ _ h := h
  pending _ _ h := h

/-! ### Acknowledgements of remote entries (R26) -/

theorem ZoneEntry.ackFits_of_core {e f : ZoneEntry} (h : e.core = f.core) (ha : e.ack = f.ack) (hf : f.AckFits) : e.AckFits :=
  fun a he => by
    rw [ZoneEntry.zstate_of_core h, ZoneEntry.changeNumber_of_core h]
    exact hf a (ha ▸ he)

theorem ZoneEntry.ackFits_placed {e f : ZoneEntry} {a : Ack} (h : e.core = f.core) (ha : e.ack = some a)
    (hstate : f.zstate.inEpisode = true) (hnumber : a.change = f.changeNumber) : e.AckFits := fun b hb => by
  obtain rfl : a = b := Option.some.inj (ha.symm.trans hb)
  rw [ZoneEntry.zstate_of_core h, ZoneEntry.changeNumber_of_core h]
  exact ⟨hstate, hnumber⟩

/-- The acknowledgement a record gives is one R26 lets its entry carry. -/
theorem ackFits_replaceEntry (now : Nat) (old : ZoneEntry) (r : ZoneRecord) : (replaceEntry now old r).AckFits :=
  fun a ha => by
    have hr : recordAck old.ack r = some a := ha
    unfold recordAck at hr
    split at hr
    · rename_i hc
      obtain rfl := Option.some.inj hr
      exact ⟨hc.2.1, rfl⟩
    · exact nomatch hr

theorem remoteAckLaw_congr {s t : State} (ha : t.address = s.address)
    (he : ∀ o ≤ 62, ∀ l ≤ 15, s.isPeer o = true → (s.entry o l).AckFits → (t.entry o l).AckFits) (hs : RemoteAckLaw s) :
    RemoteAckLaw t := fun o ho l hl hp => by
  rw [isPeer_congr ha] at hp
  exact he o ho l hl hp (hs o ho l hl hp)

theorem remoteAckLaw_frameHeard (x : Nat) {content : FrameContent} {s : State} (hpeer : s.isPeer x = true)
    (hfit : content.Fits s) (hs : RemoteAckLaw s) : RemoteAckLaw (frameHeard x content s) := by
  have hx := isPeer_le hpeer
  refine remoteAckLaw_congr (s := s) (frameHeard_address x content s) (fun o ho l hl hp hold => ?_) hs
  by_cases hrow : ∃ p, content = .row p
  · obtain ⟨payload, rfl⟩ := hrow
    by_cases hox : o = x
    · subst hox
      obtain ⟨r, -, hentry⟩ := frameHeard_entry_replaced hfit hpeer hl
      rw [hentry]
      exact ackFits_replaceEntry s.clock _ r
    · rw [frameHeard_entry_row hx payload hl (ownOrigin_ne_peer hp), if_neg hox]
      exact hold
  · obtain ⟨hcore, -, hack⟩ := frameHeard_entry_core hx (fun p hp => hrow ⟨p, hp⟩) hfit (o := o) hl
    rcases hack with hack | ⟨a, rfl, hack⟩
    · exact ZoneEntry.ackFits_of_core hcore hack hold
    · obtain ⟨-, -, hstate, hnumber⟩ := hfit
      exact ZoneEntry.ackFits_placed hcore hack hstate hnumber

theorem remoteAckLaw_placeAck {o l : Nat} {a : Ack} {s : State} (ho : o ≤ 62) (hl : l ≤ 15)
    (hstate : (s.entry o l).zstate.inEpisode = true) (hnumber : a.change = (s.entry o l).changeNumber)
    (hs : RemoteAckLaw s) : RemoteAckLaw (placeAck o l a s) :=
  remoteAckLaw_congr (s := s) (restKept_placeAck o l a s).address (fun q _ m hm _ hold => by
    rw [placeAck_entry ho hl hm]
    split
    · rename_i he
      obtain ⟨rfl, rfl⟩ := Prod.mk.injEq .. ▸ he
      exact ZoneEntry.ackFits_placed (f := s.entry q m) rfl rfl hstate hnumber
    · exact hold) hs

theorem ZoneEntry.ack_makeStale (e : ZoneEntry) : e.makeStale.ack = e.ack := by
  unfold ZoneEntry.makeStale
  split <;> rfl

theorem remoteAckLaw_peerLost (x : Nat) {s : State} (hpeer : s.isPeer x = true) (hs : RemoteAckLaw s) :
    RemoteAckLaw (peerLost x s) :=
  remoteAckLaw_congr (s := s) (peerLost_address x s) (fun o _ l hl _ hold => by
    rw [peerLost_entry (isPeer_le hpeer) hl]
    split
    · exact ZoneEntry.ackFits_of_core (ZoneEntry.core_makeStale _) (ZoneEntry.ack_makeStale _) hold
    · exact hold) hs

theorem remoteAckLaw_setAttendance (f : Nat) (list : List Attendance) {s : State} (hs : RemoteAckLaw s) :
    RemoteAckLaw (setAttendance f list s) :=
  remoteAckLaw_congr (s := s) (restKept_setAttendance f list s).address
    (fun o _ l _ _ hold => by rw [setAttendance_entry]; exact hold) hs

theorem blind_remoteAckLaw : Blind RemoteAckLaw where
  ste _ _ h := h
  rlc _ _ h := h
  port p _ _ h := by cases p <;> exact h
  notices p _ _ h := by cases p <;> exact h
  store _ _ _ h := h

/-- What the commands do to the remote entries keeps R26. -/
theorem upheld_remoteAckLaw : Upheld RemoteAckLaw where
  toBlind := blind_remoteAckLaw
  marks _ _ h := h
  unplaced _ _ h := h
  rejected _ _ h := h
  reports _ _ h := h
  flash _ _ h := h
  draws _ _ h := h
  attendOn f a s h := remoteAckLaw_setAttendance f _ h
  attendOff f station p s h := remoteAckLaw_setAttendance f _ h
  ack _ _ _ _ ho hl hstate hnumber h := remoteAckLaw_placeAck ho hl hstate hnumber h
  heard x _ _ hx hfit h := remoteAckLaw_frameHeard x hx hfit h
  lost x _ hx h := remoteAckLaw_peerLost x hx h
  sampled _ hi v _ h := remote_samplingReady.2 (sampleLine_induction v h h fun _ hu _ => (staleLaw_evaluateLine hi).2 hu)
  startup slot scan begun bytes _ ha h := startupReadEnds_induction blind_remoteAckLaw slot begun bytes ha h fun x =>
    remoteAckLaw_storeReady x h
  reset _ _ s _ he := by
    cases he
    exact remoteAckLaw_resetStation _ _ _ _ _ s
  asserted s _ he := by
    cases he
    exact remoteAckLaw_resetStation _ _ _ _ _ s
  clock _ _ h := h
  pending _ _ h := h

/-- The station as the machine is made is one at its reset values. -/
theorem reset_isReset : State.reset =
    resetStation Config.resetAddress Config.resetMaintenance false (PlanStore.atReset []) 0 State.reset := rfl

end Sys2Proof.Machine

open Sys2Proof Sys2Proof.Machine

/-- Settles O9: a list grows by an entry of a new station and port, the oldest of four given up for it. -/
theorem attendanceLawKept : Obligations.AttendanceLawKept := fun _ _ h he => upheld_attendanceLaw.step h he

/-- Settles O11: STALE follows the peers' presence from the loss to the return, and an acknowledgement comes with a record
or a mark that names its entry's episode. -/
theorem remoteEntryLawsKept : Obligations.RemoteEntryLawsKept :=
  ⟨fun _ _ h he => upheld_staleLaw.step h he, fun _ _ h he => upheld_remoteAckLaw.step h he⟩

/-- Settles O5: at reset every table is at its reset values, which no law speaks against. -/
theorem lawsHoldAtReset : Obligations.LawsHoldAtReset := by
  have hsummary : SummaryLaw State.reset := reset_isReset ▸ summaryLaw_resetStation _ _ _ _ _ rfl
  have hzone : ZoneLaw State.reset := reset_isReset ▸ zoneLaw_resetStation _ _ _ _ _ rfl
  have hattendance : AttendanceLaw State.reset := reset_isReset ▸ attendanceLaw_resetStation _ _ _ _ _ _
  have hstale : StaleLaw State.reset := reset_isReset ▸ staleLaw_resetStation _ _ _ _ _ _
  have hack : RemoteAckLaw State.reset := reset_isReset ▸ remoteAckLaw_resetStation _ _ _ _ _ _
  have hlink : LinkLaw State.reset ∧ LinkLimits State.reset := by decide
  have hchannels : ChannelLimits State.reset := ⟨by decide, fun p => by cases p <;> decide⟩
  exact ⟨by decide, hlink.1, hlink.2, hattendance, by decide, hstale, hack, hsummary, hzone, hchannels⟩
end

section
/-! SUPPORT. A frame from a peer, accepted and heard, as the statements write it out (R50, R53, R62, R94). -/

namespace Sys2Proof.Machine

open Sys2Proof

/-! ### Accepted -/

/-- A frame for the station from a peer is accepted, and handed on in the state so reached (R94). -/
theorem frame_taken {x dest : Byte} {s : State} (h : s.canTake x.toNat) (kind : FrameKind) (payload : List Byte)
    (act : State → State) (hd : (frameOf kind x dest payload).misdirected = false)
    (ht : dest.toNat = s.address ∨ dest.toNat = 63) {yields : Bool}
    (hy : (decide (kind = .sheetTile) && tileMoreFollows payload && s.rlc.alarmPending && !s.rlc.blocks.any) = yields) :
    event (receiveFrame (frameOf kind x dest payload) act) s = .next (settle s (act (s.accepted kind.cls x.toNat yields))) := by
  have hvalid : validAddress x.toNat = true := (Bool.and_eq_true_iff.mp h.2.2).1
  subst hy
  rw [event_running h.1, receiveFrame_peer h _ _ rfl hd ht]
  congr 3
  simp only [State.countLink, State.modRlc, RiserLink.frameEnds, RiserLink.driverOff, frameOf, State.accepted, hvalid, if_pos]
  rfl

/-- A broadcast is for the station (R94). -/
theorem broadcast_taken {x : Byte} {s : State} (h : s.canTake x.toNat) {kind : FrameKind} (payload : List Byte)
    (act : State → State) (hk : kind.isBroadcast = true) :
    event (receiveFrame (frameOf kind x 63#8 payload) act) s = .next (settle s (act (s.accepted kind.cls x.toNat false))) := by
  refine frame_taken h kind payload act ?_ (.inr rfl) ?_
  · rw [Frame.misdirected, frameOf, hk]; rfl
  · have hne : kind ≠ .sheetTile := fun he => by
      rw [he] at hk
      exact nomatch hk
    rw [decide_eq_false hne]
    rfl

/-! ### Heard, of a peer that is PRESENT -/

theorem recompute_none {floors : List Nat} (h : floors = []) (label : Nat → Option Text) (list : Nat → Option (List Attendance))
    (s : State) (n : Nat) :
    (List.range n).foldl (fun t f => if floors.contains f then recompute f (label f) (list f) t else t) s = s := by
  subst h
  exact List.foldlRecOn _ _ (motive := (· = s)) rfl fun t ht _ _ => ht

theorem touchedFloors_nil (s : State) : touchedFloors s s [] = [] := by simp [touchedFloors]

theorem pictureEvent_nothing (s : State) : pictureEvent [] [] [] s = s := by
  unfold pictureEvent
  extract_lets written signalled floors
  have hfloors : floors = [] := congrArg (· ++ [] ++ []) (touchedFloors_nil s)
  exact recompute_none hfloors _ _ s 256

/-- An event that changes no entry recomputes the floors it gives labels or lists. -/
theorem pictureEvent_noChanges (labels : List (Nat × Text)) (lists : List (Nat × List Attendance)) (s : State) :
    Recomputed (fun f => f < 256 ∧ f ∈ labels.map (·.1) ++ lists.map (·.1))
      (fun f => if (givenFor labels f).isSome then givenFor labels f else (s.floor f).label)
      (fun f => (givenFor lists f).getD (s.floor f).attendance) s (pictureEvent [] labels lists s) := by
  obtain ⟨u, hu, hr⟩ := pictureEvent_recomputed [] labels lists s
  obtain rfl : u = s := hu
  rw [eventFloors, touchedFloors_nil, List.nil_append] at hr
  exact hr

section

variable {x : Nat} {s : State}

theorem formedClaims_present (hp : (s.peer x).presence = .present) {content : FrameContent}
    (hc : changesClaims (s.peer x) content = false) : s.formedClaims x content = s.tookFrame x content := by
  rw [State.formedClaims, hc, if_neg (by decide), State.toldReturn, hp]
  rfl

theorem changesClaims_present (hp : (s.peer x).presence = .present) {content : FrameContent}
    (hd : ∀ d, content ≠ .directory d) : changesClaims (s.peer x) content = false := by
  cases content with
  | directory d => exact absurd rfl (hd d)
  | row _ => exact decide_eq_false fun h => h hp
  | ack _ _ _ => exact decide_eq_false fun h => h hp
  | attendance _ _ => exact decide_eq_false fun h => h hp
  | other => exact decide_eq_false fun h => h hp

/-- A frame of a PRESENT peer that is no DIRECTORY brings the picture its entries and its list (R50). -/
theorem frameHeard_present (hp : (s.peer x).presence = .present) {content : FrameContent} (hd : ∀ d, content ≠ .directory d) :
    frameHeard x content s =
      pictureEvent (contentChanges x false content (s.setPeer x ((s.peer x).heard s.clock))) [] content.lists
        (s.setPeer x ((s.peer x).heard s.clock)) := by
  have hc := changesClaims_present hp hd
  have htook : s.tookFrame x content = s.setPeer x ((s.peer x).heard s.clock) := by
    cases content with
    | directory d => exact absurd rfl (hd d)
    | row _ => rfl
    | ack _ _ _ => rfl
    | attendance _ _ => rfl
    | other => rfl
  have hlabels : ∀ u, contentLabels x content u = [] := fun u => by
    cases content with
    | directory d => exact absurd rfl (hd d)
    | row _ => rfl
    | ack _ _ _ => rfl
    | attendance _ _ => rfl
    | other => rfl
  rw [frameHeard_event, formedClaims_present hp hc, hlabels, hp,
    show s.toldReturn x content = s.tookFrame x content by rw [State.toldReturn, hp]; rfl, changedOwnerLabels_self, htook]
  rfl

theorem frameHeard_other_present (hp : (s.peer x).presence = .present) :
    frameHeard x .other s = s.setPeer x ((s.peer x).heard s.clock) := by
  rw [frameHeard_present hp (by simp)]
  exact pictureEvent_nothing _

theorem heard_present {r : PeerRecord} (hp : r.presence = .present) (now : Nat) :
    r.heard now = { r with silence := some now, framesHeard := countUp r.framesHeard } := by
  unfold PeerRecord.heard
  rw [← hp]

theorem acceptedPresent_eq (hp : (s.peer x).presence = .present) (k : AccessClass) (yields : Bool) :
    (s.accepted k x yields).setPeer x ((s.peer x).heard s.clock) = s.acceptedPresent k x yields := by
  rw [heard_present hp]
  rfl

theorem labelsFollow_accepted {again : Option Source} {k : AccessClass} {yields : Bool} {v : State}
    (h : LabelsFollow again (s.accepted k x yields) v) : LabelsFollow again s v := ⟨h.kept, h.fromHeader, h.fromPeer⟩

/-- A frame accepted and heard, with a content that brings the picture nothing, is what the statements say of one. -/
theorem frameHeard_isHeard (k : AccessClass) (yields : Bool) (hpeer : s.isPeer x = true) :
    FrameHeard k x yields s (frameHeard x .other (s.accepted k x yields)) := by
  have hx := isPeer_le hpeer
  have hother : ∀ p, FrameContent.other ≠ .row p := by simp
  have hdir : ∀ d, FrameContent.other ≠ .directory d := by simp
  obtain ⟨-, hrlc, -⟩ := frameHeard_calm (x := x) (s := s.accepted k x yields) hother
  refine ⟨fun hp => ?_, hrlc, frameHeard_peers .., fun o _ l hl => ?_, fun hp f hf => ?_, ?_, fun f hf => ⟨?_, ?_⟩,
    fun hlaw hlost p ha hroom => ?_, ⟨frameHeard_own .., ?_⟩, ?_⟩
  · rw [frameHeard_other_present (s := s.accepted k x yields) hp]
    exact acceptedPresent_eq hp k yields
  · exact frameHeard_entry_other (s := s.accepted k x yields) hx hl
  · exact frameHeard_row (content := .other) (s := s.accepted k x yields) (decide_eq_true hp) hf
  · exact labelsFollow_accepted (frameHeard_labels (s := s.accepted k x yields) none (contentLabels_none hdir))
  · exact frameHeard_attendance x .other (s.accepted k x yields) hf
  · exact frameHeard_floor_cases x .other (s.accepted k x yields) f
  · exact frameHeard_station (s := s.accepted k x yields) hother (blind_summaryLaw.rlc (fun _ => (s.accepted k x yields).rlc) s hlaw) hlost
      (by cases p <;> exact ha) (by cases p <;> exact hroom)
  · exact (restKept_frameHeard x .other (s.accepted k x yields)).reports.trans
      (congrArg TowerPicture.rejectedReports (onlyTables_formedClaims x .other (s.accepted k x yields)).picture)
  · have hrest := frameHeard_rest (x := x) (s := s.accepted k x yields) hother
    exact congrArg (fun u : State => { u with rlc := s.rlc }) hrest

end

end Sys2Proof.Machine
end

section
/-! SUPPORT. The fields of a payload by their offsets (0.7). -/

namespace Sys2Proof.Machine

open Sys2Proof

theorem byteAt_lt (l : List Byte) (i : Nat) : byteAt l i < 256 := (l.getD i 0).isLt

/-- A slice within a layout holds its bytes by offset. -/
theorem slice_eq_map {l : List Byte} {i n : Nat} (h : i + n ≤ l.length) :
    slice l i n = (List.range n).map fun k => l.getD (i + k) 0 := by
  refine List.ext_getElem (by simp [slice]; omega) fun k hk hk' => ?_
  have hkn : k < n := by simpa using hk'
  simp [slice, List.getD_eq_getElem?_getD, List.getElem?_eq_getElem (show i + k < l.length by omega)]

theorem forall_mem_slice {l : List Byte} {i n : Nat} (h : i + n ≤ l.length) (P : Byte → Prop) :
    (∀ b ∈ slice l i n, P b) ↔ ∀ k < n, P (l.getD (i + k) 0) := by
  rw [slice_eq_map h]
  simp

theorem allPrintable_slice {l : List Byte} {i n : Nat} (h : i + n ≤ l.length) :
    allPrintable (slice l i n) = true ↔ ∀ k < n, 0x20 ≤ byteAt l (i + k) ∧ byteAt l (i + k) ≤ 0x7E := by
  rw [allPrintable, List.all_eq_true, forall_mem_slice h (fun b => printable b = true)]
  simp only [printable, Bool.and_eq_true, decide_eq_true_eq, byteAt]

theorem byte_eq_space (b : Byte) : (b == space) = true ↔ b.toNat = 0x20 := by
  rw [beq_iff_eq, ← BitVec.toNat_inj]
  rfl

/-- A text that is not all spaces has a byte that is none. -/
theorem not_all_space {l : List Byte} {i n : Nat} (h : i + n ≤ l.length) :
    (!(slice l i n).all (· == space)) = true ↔ ∃ k < n, byteAt l (i + k) ≠ 0x20 := by
  rw [Bool.not_eq_true', Bool.eq_false_iff, Ne, List.all_eq_true, forall_mem_slice h (fun b => (b == space) = true)]
  simp only [byte_eq_space, byteAt]
  push Not
  rfl

end Sys2Proof.Machine
end

section
/-! SUPPORT. A MARK from a peer: its checks, and what the picture takes of it (R62, R67 to R69, R72). -/

namespace Sys2Proof.Machine

open Sys2Proof

/-! ### The checks -/

theorem markGood_iff (x : Nat) (p : List Byte) : markGood x p = true ↔ p.length = 15 ∧
    (byteAt p 0 = 1 ∨ byteAt p 0 = 2 ∨ byteAt p 0 = 3) ∧
    (∀ n < 8, 0x20 ≤ byteAt p (1 + n) ∧ byteAt p (1 + n) ≤ 0x7E) ∧ (∃ n < 8, byteAt p (1 + n) ≠ 0x20) ∧
    byteAt p 9 = x ∧ (byteAt p 10 = 1 ∨ byteAt p 10 = 2) ∧
    (byteAt p 0 = 1 → 1 ≤ byteAt p 11 ∧ byteAt p 11 ≤ 62 ∧ byteAt p 12 ≤ 15) ∧
    (byteAt p 0 ≠ 1 → byteAt p 12 = 0 ∧ halfAt p 13 = 0) := by
  by_cases hlen : p.length = 15
  · have htail : (if byteAt p 0 = 1 then
          decide (1 ≤ byteAt p 11) && decide (byteAt p 11 ≤ 62) && decide (byteAt p 12 ≤ 15)
        else decide (byteAt p 12 = 0) && decide (halfAt p 13 = 0)) = true ↔
        (byteAt p 0 = 1 → 1 ≤ byteAt p 11 ∧ byteAt p 11 ≤ 62 ∧ byteAt p 12 ≤ 15) ∧
        (byteAt p 0 ≠ 1 → byteAt p 12 = 0 ∧ halfAt p 13 = 0) := by
      by_cases h : byteAt p 0 = 1 <;> simp [h, and_assoc]
    simp only [markGood, Bool.and_eq_true, Bool.or_eq_true, decide_eq_true_eq, allPrintable_slice (show 1 + 8 ≤ p.length by omega),
      not_all_space (show 1 + 8 ≤ p.length by omega), htail, and_assoc, or_assoc]
  · simp [markGood, hlen]

theorem origin_of_markGood {x : Nat} {p : List Byte} (h : markGood x p = true) : byteAt p 9 = x := by
  obtain ⟨-, -, -, -, horigin, -⟩ := (markGood_iff x p).mp h
  exact horigin

/-! ### Counted -/

theorem takeMark_bad {x : Nat} {p : List Byte} (h : markGood x p = false) (s : State) :
    takeMark x p s = countedMark x (fun m => { m with rejected := countUp m.rejected }) s := by
  rw [takeMark, h]; rfl

theorem frameHeard_marks {x : Nat} {content : FrameContent} (h : ∀ p, content ≠ .row p) (s : State) :
    (frameHeard x content s).marks = s.marks := by
  have hrest := frameHeard_rest (x := x) (s := s) h
  generalize frameHeard x content s = v at hrest ⊢
  have hmarks := congrArg State.marks hrest
  exact hmarks

/-! ### An acknowledgement -/

theorem takeMark_ack {x : Nat} {p : List Byte} (h : markGood x p = true) (hk : byteAt p 0 = 1) (s : State) :
    takeMark x p s = takeMarkAck x p s := by
  rw [takeMark, h, if_pos hk]; rfl

theorem ackApplies_iff (e : ZoneEntry) (change : Nat) : ackApplies e change = true ↔
    e.known = true ∧ e.changeNumber = change ∧ (e.zstate = .alarm ∨ e.zstate = .clearing) ∧ e.ack = none := by
  simp only [ackApplies, ZoneState.inEpisode, Bool.and_eq_true, Bool.or_eq_true, decide_eq_true_eq, Option.isNone_iff_eq_none]
  tauto

/-- The acknowledgement that a good MARK ACK from `x` brings (R68). -/
def ackOfMark (x : Nat) (p : List Byte) : Ack :=
  { label := trimText (slice p 1 8), station := x, port := some (if byteAt p 10 = 1 then .a else .b), change := halfAt p 13 }

theorem takeMark_placed {x : Nat} {p : List Byte} (h : markGood x p = true) (hk : byteAt p 0 = 1) {s : State}
    (ha : ackApplies (s.entry (byteAt p 11) (byteAt p 12)) (halfAt p 13) = true) :
    takeMark x p s = frameHeard x (.ack (byteAt p 11) (byteAt p 12) (ackOfMark x p)) s := by
  rw [takeMark_ack h hk, takeMarkAck, if_pos ha, origin_of_markGood h]
  rfl

theorem takeMark_discarded {x : Nat} {p : List Byte} (h : markGood x p = true) (hk : byteAt p 0 = 1) {s : State}
    (ha : ackApplies (s.entry (byteAt p 11) (byteAt p 12)) (halfAt p 13) = false) :
    takeMark x p s = countedMark x (fun m => { m with discarded := countUp m.discarded }) s := by
  rw [takeMark_ack h hk, takeMarkAck, ha]; rfl

section

variable {x o l : Nat} {a : Ack} {s : State}

/-- An acknowledgement is heard in the state in which any frame is. -/
theorem formedClaims_ack : s.formedClaims x (.ack o l a) = s.formedClaims x .other := rfl

/-- A frame that brings an acknowledgement differs from one heard in its entry, in the floors counted, and in the notices. -/
theorem onlyPicture_ack : OnlyPicture (frameHeard x .other s) (frameHeard x (.ack o l a) s) := by
  have hother := restKept_frameHeard x .other s
  have hack := restKept_frameHeard x (.ack o l a) s
  rw [formedClaims_ack] at hack
  refine ⟨hack.lasting.trans hother.lasting.symm, fun f hf => ?_, fun f hf => ?_⟩
  · rw [frameHeard_event, frameHeard_event, pictureEvent_label _ _ _ _ hf, pictureEvent_label _ _ _ _ hf]
    rfl
  · rw [frameHeard_attendance x _ s hf, frameHeard_attendance x _ s hf]
    rfl

end

/-! ### Attendance -/

theorem attendOffList_eq (who : Attendance) (l : List Attendance) : attendOffList who.station who.port l =
    l.filter fun a => !(decide (a.station = who.station) && decide (a.port = who.port)) := by
  refine congrArg (l.filter ·) (funext fun a => congrArg Bool.not ?_)
  rw [Bool.eq_iff_iff, Attendance.isOf_iff]
  simp

theorem attendOnList_eq (who : Attendance) (l : List Attendance) : attendOnList who l =
    if ∃ a ∈ l, a.station = who.station ∧ a.port = who.port then
      l.filter (fun a => !(decide (a.station = who.station) && decide (a.port = who.port))) ++ [who]
    else if l.length < 4 then l ++ [who] else l.drop 1 ++ [who] := by
  have hany : l.any (Attendance.isOf who.station who.port) = true ↔ ∃ a ∈ l, a.station = who.station ∧ a.port = who.port := by
    simp only [List.any_eq_true, Attendance.isOf_iff]
  rw [← attendOffList_eq]
  unfold attendOnList
  by_cases h : ∃ a ∈ l, a.station = who.station ∧ a.port = who.port
  · rw [if_pos (hany.mpr h), if_pos h]; rfl
  · rw [if_neg fun ha => h (hany.mp ha), if_neg h]; rfl

/-- A removal leaves the list alone exactly when it names no entry. -/
theorem attendOffList_eq_self {station : Nat} {p : Port} {l : List Attendance} :
    attendOffList station p l = l ↔ l.any (Attendance.isOf station p) = false := by
  simp only [attendOffList, List.filter_eq_self, List.any_eq_false, Bool.not_eq_true', Bool.not_eq_true]

/-- The list that a MARK ATTEND of `who` makes of a floor's list (R71, R72). -/
def markedList (p : List Byte) (who : Attendance) (old : List Attendance) : List Attendance :=
  if byteAt p 0 = 3 then attendOffList who.station who.port old else attendOnList who old

/-- The presence that a MARK ATTEND from `x` speaks of. -/
def presenceOfMark (x : Nat) (p : List Byte) (s : State) : Attendance :=
  { label := trimText (slice p 1 8), station := x, port := if byteAt p 10 = 1 then .a else .b, time := s.clock }

section

variable {x : Nat} {p : List Byte} {s : State}

/-- A good MARK ATTEND brings its floor the list it makes, but for a removal that names no entry (R47, R72). -/
theorem takeMark_attend (h : markGood x p = true) (hk : byteAt p 0 = 2 ∨ byteAt p 0 = 3) :
    takeMark x p s =
      if byteAt p 0 = 3 ∧ markedList p (presenceOfMark x p s) (s.floor (byteAt p 11)).attendance =
          (s.floor (byteAt p 11)).attendance then frameHeard x .other s
      else frameHeard x (.attendance (byteAt p 11)
        (markedList p (presenceOfMark x p s) (s.floor (byteAt p 11)).attendance)) s := by
  have horigin := origin_of_markGood h
  unfold takeMark
  rw [h, Bool.not_true, if_neg Bool.noConfusion, if_neg (by omega)]
  rcases hk with hk | hk
  · rw [if_pos hk, if_neg (by omega), takeMarkOn, markedList, if_neg (by omega), horigin]
    rfl
  · rw [if_neg (by omega), takeMarkOff, markedList, if_pos hk, horigin]
    by_cases hany : (s.floor (byteAt p 11)).attendance.any (Attendance.isOf x (markPort p)) = true
    · rw [if_pos hany, if_neg]
      · rfl
      · rintro ⟨-, hself⟩
        exact Bool.eq_false_iff.mp (attendOffList_eq_self.mp hself) hany
    · rw [if_neg hany, if_pos ⟨hk, attendOffList_eq_self.mpr (Bool.eq_false_iff.mpr hany)⟩]

/-- From any peer, PRESENT or not, the mark's list stands on its floor, and the other lists are kept. -/
theorem takeMark_attend_floor (h : markGood x p = true) (hk : byteAt p 0 = 2 ∨ byteAt p 0 = 3) {f : Nat} (hf : f < 256) :
    ((takeMark x p s).floor f).attendance =
      if f = byteAt p 11 then markedList p (presenceOfMark x p s) (s.floor f).attendance else (s.floor f).attendance := by
  rw [takeMark_attend h hk]
  split
  · rename_i hself
    rw [frameHeard_attendance x .other s hf]
    split
    · rename_i he
      rw [he]
      exact hself.2.symm
    · rfl
  · rw [frameHeard_attendance x _ s hf]
    split
    · rename_i he
      rw [he]
      exact congrArg (Option.getD · _) (givenFor_singleton_same ..)
    · rename_i hne
      exact congrArg (Option.getD · _) (givenFor_singleton_ne (Ne.symm hne) _)

/-- What a MARK ATTEND does is to hear a frame. -/
theorem takeMark_attend_heard (h : markGood x p = true) (hk : byteAt p 0 = 2 ∨ byteAt p 0 = 3) :
    ∃ content, takeMark x p s = frameHeard x content s ∧ (∀ q, content ≠ .row q) ∧ (∀ d, content ≠ .directory d) := by
  rw [takeMark_attend h hk]
  split
  · exact ⟨_, rfl, by simp, by simp⟩
  · exact ⟨_, rfl, by simp, by simp⟩

end

end Sys2Proof.Machine
end

section
/-! The MARK frames settled. -/

namespace Sys2Proof.Machine

open Sys2Proof

/-- A good MARK ACK placed: the entry, the other entries, and the rest (R42, R46, R68). -/
theorem markAck_placed {x : Nat} {p : List Byte} {s : State} (hx : s.isPeer x = true) (h : markGood x p = true)
    (hk : byteAt p 0 = 1) (ha : ackApplies (s.entry (byteAt p 11) (byteAt p 12)) (halfAt p 13) = true) :
    (takeMark x p s).entry (byteAt p 11) (byteAt p 12) =
      { (frameHeard x .other s).entry (byteAt p 11) (byteAt p 12) with ack := some (ackOfMark x p) } ∧
    (∀ o ≤ 62, ∀ l ≤ 15, (o, l) ≠ (byteAt p 11, byteAt p 12) →
      (takeMark x p s).entry o l = (frameHeard x .other s).entry o l) ∧
    (∀ f < 256, ((takeMark x p s).floor f).changeNumber = (s.floor f).changeNumber ∨
      ((takeMark x p s).floor f).changeNumber = ((s.floor f).changeNumber + 1) % 65536) ∧
    OnlyPicture (frameHeard x .other s) (takeMark x p s) ∧ (takeMark x p s).zones = s.zones ∧
    (takeMark x p s).rlc = s.rlc ∧ (takeMark x p s).marks = s.marks := by
  obtain ⟨-, -, -, -, -, -, hack, -⟩ := (markGood_iff x p).mp h
  obtain ⟨-, ho, hl⟩ := hack hk
  rw [takeMark_placed h hk ha]
  have hle := isPeer_le hx
  have hcalm : ∀ q, FrameContent.ack (byteAt p 11) (byteAt p 12) (ackOfMark x p) ≠ .row q := by simp
  obtain ⟨hzones, hrlc, -⟩ := frameHeard_calm (x := x) (s := s) hcalm
  refine ⟨?_, fun o ho' l hl' hne => ?_, fun f _ => ?_, onlyPicture_ack, hzones, hrlc, frameHeard_marks hcalm s⟩
  · rw [frameHeard_entry_ack hle ho hl _ hl, if_pos rfl, frameHeard_entry_other hle hl]
    rfl
  · rw [frameHeard_entry_ack hle ho hl _ hl', if_neg hne, frameHeard_entry_other hle hl']
  · exact (frameHeard_floor_cases x _ s f).imp (congrArg FloorSummary.changeNumber) id

theorem countedMark_eq (x : Nat) (f : MarkCounts → MarkCounts) (s : State) :
    countedMark x f s = { frameHeard x .other s with marks := f s.marks } := by
  have hmarks := frameHeard_marks (x := x) (content := .other) (by simp) s
  rw [countedMark, State.modMarks, hmarks]

/-- Between `s` and `u` peer `x` has been heard, and floor `f` has taken an attendance list. -/
structure ListTaken (x f : Nat) (list : List Attendance) (s u : State) : Prop where
  attendance : ∀ g < 256, (u.floor g).attendance = if g = f then list else (s.floor g).attendance
  counted : ∀ g, u.floor g = s.floor g ∨ (u.floor g).changeNumber = wrapNext (s.floor g).changeNumber
  marks : u.marks = s.marks
  peer : u.peer x = (s.peer x).heard s.clock

/-- Between `s` and `u` nothing of floor `f` but its list, and nothing of the other floors has changed. -/
structure OnlyFloor (f : Nat) (s u : State) : Prop where
  label : (u.floor f).label = (s.floor f).label
  others : ∀ g, g ≠ f → u.floor g = s.floor g
  entries : u.picture.entries = s.picture.entries
  rest : RestKept s u
  zones : u.zones = s.zones

namespace ListTaken

variable {x f : Nat} {list : List Attendance} {s u : State}

theorem ofAccepted {k : AccessClass} {yields : Bool} (h : ListTaken x f list (s.accepted k x yields) u) :
    ListTaken x f list s u := ⟨h.attendance, h.counted, h.marks, h.peer⟩

theorem here (h : ListTaken x f list s u) (hf : f < 256) : (u.floor f).attendance = list := by
  rw [h.attendance f hf, if_pos rfl]

theorem changeNumber (h : ListTaken x f list s u) : (u.floor f).attendance ≠ (s.floor f).attendance →
    (u.floor f).changeNumber = ((s.floor f).changeNumber + 1) % 65536 := changeNumber_of_attendance_ne (h.counted f)

theorem floors (h : ListTaken x f list s u) : ∀ g < 256,
    (g ≠ f → (u.floor g).attendance = (s.floor g).attendance) ∧
    ((u.floor g).changeNumber = (s.floor g).changeNumber ∨
      (u.floor g).changeNumber = ((s.floor g).changeNumber + 1) % 65536) := fun g hg =>
  ⟨fun hne => by rw [h.attendance g hg, if_neg hne], (h.counted g).imp (congrArg FloorSummary.changeNumber) id⟩

end ListTaken

section

variable {x : Nat} {p : List Byte} {s : State}

/-- A MARK ATTEND from any peer gives its floor the list it makes, counted on where it differs (R42, R47, R72). -/
theorem listTaken_takeMark (hx : x ≤ 62) (h : markGood x p = true) (hk : byteAt p 0 = 2 ∨ byteAt p 0 = 3) :
    ListTaken x (byteAt p 11) (markedList p (presenceOfMark x p s) (s.floor (byteAt p 11)).attendance) s (takeMark x p s) := by
  obtain ⟨content, he, hrow, hdir⟩ := takeMark_attend_heard (s := s) h hk
  refine ⟨fun g hg => ?_, fun g => ?_, ?_, ?_⟩
  · rw [takeMark_attend_floor h hk hg]
    exact if_ctx_congr Iff.rfl (fun hgf => by rw [hgf]) fun _ => rfl
  · rw [he]
    exact frameHeard_floor_cases ..
  · rw [he, frameHeard_marks hrow]
  · rw [he, frameHeard_peer_same hx]
    cases content with
    | directory d => exact absurd rfl (hdir d)
    | row q => exact absurd rfl (hrow q)
    | ack _ _ _ => rfl
    | attendance _ _ => rfl
    | other => rfl

/-- A MARK ATTEND of a PRESENT peer changes its floor alone (R47). -/
theorem onlyFloor_takeMark (h : markGood x p = true) (hk : byteAt p 0 = 2 ∨ byteAt p 0 = 3)
    (hp : (s.peer x).presence = .present) : OnlyFloor (byteAt p 11) (frameHeard x .other s) (takeMark x p s) := by
  rw [takeMark_attend h hk]
  split
  · exact ⟨rfl, fun _ _ => rfl, rfl, RestKept.refl _, rfl⟩
  · rw [frameHeard_other_present hp, frameHeard_present hp (by simp)]
    have hr := pictureEvent_noChanges [] [(byteAt p 11, markedList p (presenceOfMark x p s) (s.floor (byteAt p 11)).attendance)]
      (s.setPeer x ((s.peer x).heard s.clock))
    exact ⟨hr.label _ (byteAt_lt p 11) ⟨byteAt_lt p 11, by simp⟩,
      fun f hf => hr.untouched f fun hmem => hf (by simpa using hmem.2), hr.entries, hr.rest, hr.zones⟩

/-- A removal that changes no list is a frame heard, and no more (R47). -/
theorem takeMark_attend_same (h : markGood x p = true) (hk : byteAt p 0 = 3)
    (hsame : ((takeMark x p s).floor (byteAt p 11)).attendance = (s.floor (byteAt p 11)).attendance) :
    takeMark x p s = frameHeard x .other s := by
  rw [takeMark_attend_floor h (.inr hk) (byteAt_lt p 11), if_pos rfl] at hsame
  rw [takeMark_attend h (.inr hk), if_pos ⟨hk, hsame⟩]

end

end Sys2Proof.Machine

open Sys2Proof Sys2Proof.Machine

/-- Settles O37: the mark is taken in the state in which its frame is accepted, where the entry stands as before it. -/
theorem markAckTaken : Obligations.MarkAckTaken := by
  refine ⟨fun x p s h => ⟨_, frameHeard_isHeard .control false h.2.2, ?_⟩, markGood_iff⟩
  have hexec : exec (.markAck x 63#8 p) s = .next (settle s (takeMark x.toNat p (s.accepted .control x.toNat false))) :=
    broadcast_taken h (kind := .mark) p _ rfl
  rw [hexec]
  refine ⟨fun e hgood hk he hknown hnumber hstate hack => ⟨_, rfl, ?_⟩, fun e hgood hk he hnot => ?_, fun hbad => ?_⟩
  · have happlies := (ackApplies_iff e (halfAt p 13)).mpr ⟨hknown, hnumber, hstate, hack⟩
    rw [he] at happlies
    obtain ⟨hentry, hothers, hfloors, honly, hzones, hrlc, hmarks⟩ :=
      markAck_placed (s := s.accepted .control x.toNat false) h.2.2 hgood hk happlies
    have halarm := congrArg RiserLink.alarmPending hrlc
    exact ⟨hentry, hothers, hfloors, honly, hzones, halarm, hmarks⟩
  · have happlies : ackApplies ((s.accepted .control x.toNat false).entry (byteAt p 11) (byteAt p 12)) (halfAt p 13) = false :=
      Bool.eq_false_iff.mpr fun ha => hnot (he ▸ (ackApplies_iff _ _).mp ha)
    rw [takeMark_discarded hgood hk happlies, countedMark_eq]
    rfl
  · rw [takeMark_bad hbad, countedMark_eq]
    rfl

/-- Settles O38: the list is the floor's own, changed as R71 has it, in the event that hears the frame. -/
theorem markAttendTaken : Obligations.MarkAttendTaken := by
  rintro x p s old who h rfl hwho
  have hx := isPeer_le h.2.2
  have hexecOn : exec (.markAttendOn x 63#8 p) s = .next (settle s (takeMark x.toNat p (s.accepted .control x.toNat false))) :=
    broadcast_taken h (kind := .mark) p _ rfl
  have hexecOff : exec (.markAttendOff x 63#8 p) s = .next (settle s (takeMark x.toNat p (s.accepted .control x.toNat false))) :=
    broadcast_taken h (kind := .mark) p _ rfl
  have htaken := fun hgood hk => (listTaken_takeMark (s := s.accepted .control x.toNat false) hx (p := p) hgood hk).ofAccepted
  rw [show presenceOfMark x.toNat p (s.accepted .control x.toNat false) = who from hwho.symm,
    show ∀ f, (s.accepted .control x.toNat false).floor f = s.floor f from fun _ => rfl] at htaken
  refine ⟨fun v hp hv => ?_, fun c hc hgood => ?_⟩
  · have hheard : frameHeard x.toNat .other (s.accepted .control x.toNat false) = v :=
      (frameHeard_isHeard .control false h.2.2).present hp |>.trans hv.symm
    have honly := fun hgood hk => onlyFloor_takeMark (s := s.accepted .control x.toNat false) (p := p) hgood hk hp
    rw [hheard] at honly
    obtain rfl : v = _ := hv
    refine ⟨fun hgood hk => ⟨_, hexecOn, ?_⟩, fun hgood hk => ⟨_, hexecOff, ?_⟩, fun c hc hbad => ?_⟩
    · have ht := htaken hgood (.inl hk)
      have ho := honly hgood (.inl hk)
      rw [markedList, if_neg (by omega), attendOnList_eq] at ht
      exact ⟨ht.here (byteAt_lt p 11), ho.label, ht.changeNumber, fun f _ hf => ho.others f hf, ho.entries, ho.rest.lasting,
        ho.zones, ht.marks⟩
    · have ht := htaken hgood (.inr hk)
      have ho := honly hgood (.inr hk)
      rw [markedList, if_pos hk, attendOffList_eq] at ht
      exact ⟨ht.here (byteAt_lt p 11), ho.label, ht.changeNumber,
        fun hsame => (takeMark_attend_same hgood hk hsame).trans hheard, fun f _ hf => ho.others f hf, ho.entries,
        ho.rest.lasting, ho.zones, ht.marks⟩
    · have hexec : exec c s = .next (settle s (takeMark x.toNat p (s.accepted .control x.toNat false))) := by
        rcases hc with rfl | rfl
        · exact hexecOn
        · exact hexecOff
      rw [hexec, takeMark_bad hbad, countedMark_eq, hheard]
      rfl
  · have hkind : byteAt p 0 = 2 ∨ byteAt p 0 = 3 := hc.imp And.right And.right
    have ht := htaken hgood hkind
    have hexec : exec c s = .next (settle s (takeMark x.toNat p (s.accepted .control x.toNat false))) := by
      rcases hc with ⟨rfl, -⟩ | ⟨rfl, -⟩
      · exact hexecOn
      · exact hexecOff
    rw [markedList, attendOffList_eq, attendOnList_eq] at ht
    exact ⟨_, hexec, ht.peer, ht.here (byteAt_lt p 11), ht.changeNumber, ht.floors, ht.marks⟩
end

section
/-! SUPPORT. A ZONE STATE from a peer: its checks and its records by offset, and the row they replace (R31, R32). -/

namespace Sys2Proof.Machine

open Sys2Proof

/-! ### The records by offset -/

theorem byteAt_slice {i n j : Nat} (l : List Byte) (h : j < n) : byteAt (slice l i n) j = byteAt l (i + j) := by
  simp [byteAt, slice, List.getD_eq_getElem?_getD, h]

theorem halfAt_slice {i n j : Nat} (l : List Byte) (h : j + 1 < n) : halfAt (slice l i n) j = halfAt l (i + j) := by
  rw [halfAt, byteAt_slice l (by omega), byteAt_slice l h, halfAt, Nat.add_assoc]

theorem slice_slice {i n j m : Nat} (l : List Byte) (h : j + m ≤ n) : slice (slice l i n) j m = slice l (i + j) m := by
  rw [slice, slice, List.drop_take, List.take_take, List.drop_drop, slice, Nat.min_eq_left (by omega)]

theorem zoneRecordAt_eq (p : List Byte) (k : Nat) : zoneRecordAt p k =
    { line := byteAt p (23 * k), floor := byteAt p (23 * k + 1), ztype := byteAt p (23 * k + 2),
      zstate := byteAt p (23 * k + 3), trouble := byteAt p (23 * k + 4), flags := byteAt p (23 * k + 5),
      repeatCount := byteAt p (23 * k + 6), transientCount := byteAt p (23 * k + 7),
      resistance := halfAt p (23 * k + 8), changeNumber := halfAt p (23 * k + 10), age := halfAt p (23 * k + 12),
      label := slice p (23 * k + 14) 8, station := byteAt p (23 * k + 22) } := by
  simp only [zoneRecordAt, byteAt_slice p (show (0 : Nat) < 23 by omega), byteAt_slice p (show 1 < 23 by omega),
    byteAt_slice p (show 2 < 23 by omega), byteAt_slice p (show 3 < 23 by omega), byteAt_slice p (show 4 < 23 by omega),
    byteAt_slice p (show 5 < 23 by omega), byteAt_slice p (show 6 < 23 by omega), byteAt_slice p (show 7 < 23 by omega),
    byteAt_slice p (show 22 < 23 by omega), halfAt_slice p (show 8 + 1 < 23 by omega),
    halfAt_slice p (show 10 + 1 < 23 by omega), halfAt_slice p (show 12 + 1 < 23 by omega),
    slice_slice p (show 14 + 8 ≤ 23 by omega), Nat.add_zero]

/-! ### The checks -/

theorem fits_iff (r : ZoneRecord) : r.fits = true ↔ r.line ≤ 15 ∧ r.ztype ≤ 4 ∧ r.zstate ≤ 5 ∧ r.trouble ≤ 2 ∧ r.flags < 16 ∧
    r.repeatCount ≤ 15 ∧ (r.ztype = 0 ↔ r.zstate = 5) := by
  simp only [ZoneRecord.fits, Bool.and_eq_true, decide_eq_true_eq, and_assoc]

theorem mem_zoneRecords {p : List Byte} {r : ZoneRecord} : r ∈ zoneRecords p ↔ ∃ k < 16, zoneRecordAt p k = r := by
  simp [zoneRecords]

theorem nodup_map_range {α : Type} (n : Nat) (f : Nat → α) :
    ((List.range n).map f).Nodup ↔ ∀ j < n, ∀ k < n, j ≠ k → f j ≠ f k := by
  rw [List.nodup_map_iff_inj_on List.nodup_range]
  simp only [List.mem_range]
  exact ⟨fun h j hj k hk hne he => hne (h j hj k hk he), fun h j hj k hk he => by_contra fun hne => h j hj k hk hne he⟩

theorem zonePayloadGood_iff (p : List Byte) : zonePayloadGood p = true ↔ p.length = 368 ∧
    (∀ k < 16, byteAt p (23 * k) ≤ 15 ∧ byteAt p (23 * k + 2) ≤ 4 ∧ byteAt p (23 * k + 3) ≤ 5 ∧
      byteAt p (23 * k + 4) ≤ 2 ∧ byteAt p (23 * k + 5) < 16 ∧ byteAt p (23 * k + 6) ≤ 15 ∧
      (byteAt p (23 * k + 2) = 0 ↔ byteAt p (23 * k + 3) = 5)) ∧
    ∀ j < 16, ∀ k < 16, j ≠ k → byteAt p (23 * j) ≠ byteAt p (23 * k) := by
  have hlines : (zoneRecords p).map ZoneRecord.line = (List.range 16).map fun k => byteAt p (23 * k) := by
    simp only [zoneRecords, List.map_map, Function.comp_def, zoneRecordAt_eq]
  simp only [zonePayloadGood, Bool.and_eq_true, decide_eq_true_eq, List.all_eq_true, linesDistinct_iff, hlines,
    nodup_map_range, mem_zoneRecords, and_assoc]
  refine and_congr_right fun _ => and_congr_left fun _ => ⟨fun h k hk => ?_, fun h r hr => ?_⟩
  · have hfits := (fits_iff _).mp (h _ ⟨k, hk, rfl⟩)
    rwa [zoneRecordAt_eq] at hfits
  · obtain ⟨k, hk, rfl⟩ := hr
    rw [fits_iff, zoneRecordAt_eq]
    exact h k hk

theorem fits_of_good {p : List Byte} (h : zonePayloadGood p = true) {k : Nat} (hk : k < 16) :
    (zoneRecordAt p k).fits = true := by
  obtain ⟨-, hall, -⟩ := (zonePayloadGood_iff p).mp h
  rw [fits_iff, zoneRecordAt_eq]
  exact hall k hk

/-- Each record of a good payload is the one its line is looked up by. -/
theorem recordOfLine_of_good {p : List Byte} (h : zonePayloadGood p = true) {k : Nat} (hk : k < 16) :
    recordOfLine p (zoneRecordAt p k).line = some (zoneRecordAt p k) := by
  obtain ⟨-, -, hdistinct⟩ := (zonePayloadGood_iff p).mp h
  cases hr : recordOfLine p (zoneRecordAt p k).line with
  | none =>
    refine absurd (decide_eq_true rfl) (List.find?_eq_none.mp hr (zoneRecordAt p k) (mem_zoneRecords.mpr ⟨k, hk, rfl⟩))
  | some r =>
    obtain ⟨j, hj, rfl⟩ := mem_zoneRecords.mp (List.mem_of_find?_eq_some hr)
    have hline : (zoneRecordAt p j).line = (zoneRecordAt p k).line := by
      have hfound := List.find?_some hr
      exact of_decide_eq_true hfound
    by_cases hjk : j = k
    · rw [hjk]
    · simp only [zoneRecordAt_eq] at hline
      exact absurd hline (hdistinct j hj k hk hjk)

/-! ### The codes -/

theorem ZoneType.code_ofCode {n : Nat} (h : n ≤ 4) : (ZoneType.ofCode n).code = n := by
  interval_cases n <;> rfl

theorem ZoneState.code_ofCode {n : Nat} (h : n ≤ 5) : (ZoneState.ofCode n).code = n := by
  interval_cases n <;> rfl

theorem ZoneState.ofCode_eq {n : Nat} (h : n ≤ 5) (z : ZoneState) : ZoneState.ofCode n = z ↔ n = z.code := by
  constructor
  · rintro rfl
    exact (ZoneState.code_ofCode h).symm
  · rintro rfl
    cases z <;> rfl

theorem inEpisode_ofCode {n : Nat} (h : n ≤ 5) : (ZoneState.ofCode n).inEpisode = true ↔ n = 2 ∨ n = 3 := by
  simp only [ZoneState.inEpisode, Bool.or_eq_true, decide_eq_true_eq, ZoneState.ofCode_eq h]
  rfl

/-! ### The entry that a record gives -/

/-- The acknowledgement of a record that carries one: its port is kept from an equal one held before, and unknown otherwise
(R32). -/
theorem recordAck_some {old : Option Ack} {r : ZoneRecord} (hz : r.zstate ≤ 5) (hflags : r.flags < 16) (hack : 8 ≤ r.flags)
    (hepisode : r.zstate = 2 ∨ r.zstate = 3) (hstation : 1 ≤ r.station ∧ r.station ≤ 62) :
    ∃ a, recordAck old r = some a ∧ a.label = trimText r.label ∧ a.station = r.station ∧ a.change = r.changeNumber ∧
      (∀ b, old = some b → b.label = a.label → b.station = a.station → b.change = a.change → a.port = b.port) ∧
      ((∀ b, old = some b → b.label ≠ a.label ∨ b.station ≠ a.station ∨ b.change ≠ a.change) → a.port = none) := by
  have hcond : 8 ≤ r.flags % 16 ∧ (ZoneState.ofCode r.zstate).inEpisode ∧ validAddress r.station := by
    refine ⟨by omega, (inEpisode_ofCode hz).mpr hepisode, ?_⟩
    rw [validAddress, decide_eq_true hstation.1, decide_eq_true hstation.2]
    rfl
  rw [recordAck, if_pos hcond]
  refine ⟨_, rfl, rfl, rfl, rfl, fun b hb hlabel hst hchange => ?_, fun hnone => ?_⟩
  · subst hb
    exact if_pos ⟨hlabel, hst, hchange⟩
  · cases old with
    | none => rfl
    | some b =>
      refine if_neg fun hsame => ?_
      obtain ⟨hlabel, hst, hchange⟩ := hsame
      rcases hnone b rfl with h | h | h
      · exact h hlabel
      · exact h hst
      · exact h hchange

theorem recordAck_none {old : Option Ack} {r : ZoneRecord} (hz : r.zstate ≤ 5) (hflags : r.flags < 16)
    (h : ¬(8 ≤ r.flags ∧ (r.zstate = 2 ∨ r.zstate = 3) ∧ 1 ≤ r.station ∧ r.station ≤ 62)) : recordAck old r = none := by
  refine if_neg fun hcond => h ?_
  obtain ⟨hack, hepisode, hstation⟩ := hcond
  simp only [validAddress, Bool.and_eq_true, decide_eq_true_eq] at hstation
  exact ⟨by omega, (inEpisode_ofCode hz).mp hepisode, hstation⟩

/-- What the statement says of the entry `e` that a record `r` gives in the place of `old`, taken at `now` (R32). -/
structure RecordTaken (r : ZoneRecord) (old e : ZoneEntry) (now : Nat) : Prop where
  known : e.known = true
  stale : e.stale = false
  floor : e.floor = r.floor
  ztype : e.ztype.code = r.ztype
  zstate : e.zstate.code = r.zstate
  repeatCount : e.repeatCount = r.repeatCount
  transientCount : e.transientCount = r.transientCount
  resistance : e.resistance = r.resistance
  changeNumber : e.changeNumber = r.changeNumber
  label : e.label = old.label
  lastHeard : e.lastHeard = some now
  trouble : e.trouble = if r.zstate = 4 ∨ (r.zstate = 2 ∧ r.flags / 2 % 2 = 1) then troubleOfCode r.trouble else none
  recurring : e.recurring = (decide (r.flags % 2 = 1) && decide (1 ≤ r.repeatCount))
  lineLost : e.lineLost = (decide (r.flags / 2 % 2 = 1) && decide (r.zstate = 2))
  boosted : e.boosted = (decide (r.flags / 4 % 2 = 1) && decide (r.zstate = 1))
  age : e.age = if r.zstate = 2 ∨ r.zstate = 3 then .remote r.age now else .absent
  ack : e.ack = recordAck old.ack r

theorem recordTaken_replaceEntry {r : ZoneRecord} (h : r.fits = true) (old : ZoneEntry) (now : Nat) :
    RecordTaken r old (replaceEntry now old r) now := by
  obtain ⟨-, htype, hstate, -⟩ := (fits_iff r).mp h
  have his : ∀ z : ZoneState, (ZoneState.ofCode r.zstate == z) = decide (r.zstate = z.code) := fun z => by
    rw [Bool.eq_iff_iff, beq_iff_eq, decide_eq_true_eq, ZoneState.ofCode_eq hstate]
  have hflag : ∀ n m : Nat, (n == m) = decide (n = m) := fun n m => by rw [Bool.eq_iff_iff, beq_iff_eq, decide_eq_true_eq]
  refine
    { known := rfl, stale := rfl, floor := rfl, ztype := ZoneType.code_ofCode htype, zstate := ZoneState.code_ofCode hstate,
      repeatCount := rfl, transientCount := rfl, resistance := rfl, changeNumber := rfl, label := rfl, lastHeard := rfl
      trouble := ?_, recurring := ?_, lineLost := ?_, boosted := ?_, age := ?_, ack := rfl }
  · refine if_ctx_congr ?_ (fun _ => rfl) fun _ => rfl
    rw [ZoneState.ofCode_eq hstate, ZoneState.ofCode_eq hstate, beq_iff_eq]
    rfl
  · exact congrArg (· && _) (hflag _ _)
  · exact (congrArg (_ && ·) (his .alarm)).trans (congrArg (· && _) (hflag _ _))
  · exact (congrArg (_ && ·) (his .pending)).trans (congrArg (· && _) (hflag _ _))
  · exact if_ctx_congr (inEpisode_ofCode hstate) (fun _ => rfl) fun _ => rfl

/-! ### The row replaced -/

section

variable {x : Nat} {payload : List Byte} {s : State}

/-- A row replaced leaves each own line and its entry, but for a boost (R21, R23). -/
theorem frameHeard_row_lines (hx : s.isPeer x = true) {i : Nat} (hi : i < 16) :
    ((frameHeard x (.row payload) s).line i = s.line i ∧
      (frameHeard x (.row payload) s).entry s.ownOrigin i = s.entry s.ownOrigin i) ∨
    ((frameHeard x (.row payload) s).line i = (s.line i).boost ∧ (s.line i).zstate = .pending ∧
      (s.line i).boosted = false) := by
  have hu := onlyTables_formedClaims x (.row payload) s
  have hcase := frameHeard_lines x (.row payload) s hi
  obtain ⟨w, hw⟩ : ∃ w, w = writeEntries (contentChanges x ((s.peer x).presence == .lost) (.row payload)
    (s.formedClaims x (.row payload))) (s.formedClaims x (.row payload)) := ⟨_, rfl⟩
  have hkept := restKept_writeEntries (contentChanges x ((s.peer x).presence == .lost) (.row payload)
    (s.formedClaims x (.row payload))) (s.formedClaims x (.row payload))
  rw [← hw] at hcase hkept
  have hown : w.ownOrigin = s.ownOrigin := hkept.ownOrigin.trans hu.ownOrigin
  have hline : w.line i = s.line i := by
    refine State.line_congr (Eq.trans ?_ hu.zones) i
    obtain ⟨entries, he⟩ := writeEntries_rest (contentChanges x ((s.peer x).presence == .lost) (.row payload)
      (s.formedClaims x (.row payload))) (s.formedClaims x (.row payload))
    rw [hw, he]
  have hslot : w.slot (entryIndex s.ownOrigin i) = s.entry s.ownOrigin i := by
    rw [hw, contentChanges, rowReplacement_eq]
    refine (writeEntries_rowOf (isPeer_le hx) _ _ (Nat.le_of_lt_succ hi)).trans ?_
    rw [if_neg (Ne.symm (ownOrigin_ne_peer hx)), hu.entry]
  rcases hcase with hk | hb
  · refine .inl ⟨hk.line.trans hline, ?_⟩
    have hentry := hk.entry
    rw [hown, hslot] at hentry
    exact hentry
  · refine .inr ⟨hb.line.trans (by rw [hline]), ?_, ?_⟩
    · rw [← hline]; exact hb.can.pending
    · rw [← hline]; exact hb.can.unboosted

/-- A record's entry stands as the record gives it (R32). -/
theorem frameHeard_row_record (hx : s.isPeer x = true) (hgood : zonePayloadGood payload = true) {k : Nat} (hk : k < 16) :
    RecordTaken (zoneRecordAt payload k) (s.entry x (zoneRecordAt payload k).line)
      ((frameHeard x (.row payload) s).entry x (zoneRecordAt payload k).line) s.clock := by
  have hfits := fits_of_good hgood hk
  rw [frameHeard_entry_row (isPeer_le hx) payload (line_le_of_fits hfits) (ownOrigin_ne_peer hx), if_pos rfl,
    recordOfLine_of_good hgood hk]
  exact recordTaken_replaceEntry hfits _ _

/-- What a frame heard leaves of the parts that no picture holds. -/
structure PartsKept (s u : State) : Prop where
  store : u.store = s.store
  ste : u.ste = s.ste
  marks : u.marks = s.marks
  portA : u.portA = s.portA
  portB : u.portB = s.portB
  own : u.holders.own = s.holders.own
  clock : u.clock = s.clock
  pending : u.pending = s.pending
  counters : u.rlc.counters = s.rlc.counters
  lastOrigins : u.rlc.lastOrigins = s.rlc.lastOrigins

theorem partsKept_frameHeard (x : Nat) (content : FrameContent) (s : State) : PartsKept s (frameHeard x content s) := by
  have hr := restKept_frameHeard x content s
  have hu := onlyTables_formedClaims x content s
  have hcounters : (frameHeard x content s).rlc.counters = (s.formedClaims x content).rlc.counters :=
    congrArg (·.rlc.counters) hr
  have horigins : (frameHeard x content s).rlc.lastOrigins = (s.formedClaims x content).rlc.lastOrigins :=
    congrArg (·.rlc.lastOrigins) hr
  exact ⟨hr.store.trans hu.store, hr.ste.trans hu.ste, hr.marks.trans hu.marks, hr.portA.trans hu.portA,
    hr.portB.trans hu.portB, frameHeard_own x content s, hr.clock.trans hu.clock, hr.pending.trans hu.pending,
    hcounters.trans (congrArg RiserLink.counters hu.rlc), horigins.trans (congrArg RiserLink.lastOrigins hu.rlc)⟩

end

theorem takeZoneState_good {p : List Byte} (h : zonePayloadGood p = true) (x : Nat) (s : State) :
    takeZoneState x p s = frameHeard x (.row p) s := by rw [takeZoneState, if_pos h]

theorem takeZoneState_bad {p : List Byte} (h : zonePayloadGood p = false) (x : Nat) (s : State) :
    takeZoneState x p s =
      (frameHeard x .other s).modPicture fun p => { p with rejectedReports := countUp p.rejectedReports } := by
  rw [takeZoneState, h]; rfl

theorem reportKind_cls (cls : ReportClass) : (reportKind cls).cls = if cls = .alarm then .alarm else .routine := by
  cases cls <;> rfl

end Sys2Proof.Machine

open Sys2Proof Sys2Proof.Machine

/-- Settles O33: the row is replaced in the state in which the frame is accepted, which has the picture and the tables of the
state before it. -/
theorem zoneStateReplacesRow : Obligations.ZoneStateReplacesRow := by
  refine ⟨fun cls x payload s h => ?_, zonePayloadGood_iff, zoneRecordAt_eq, rfl, rfl, rfl, rfl, rfl⟩
  have hx := isPeer_le h.2.2
  have hexec : exec (.zoneState cls x 63#8 payload) s = .next (settle s (takeZoneState x.toNat payload
      (s.accepted (if cls = .alarm then .alarm else .routine) x.toNat false))) := by
    rw [← reportKind_cls]
    exact broadcast_taken h payload _ (by cases cls <;> rfl)
  generalize (if cls = .alarm then AccessClass.alarm else .routine) = k at hexec ⊢
  rw [hexec]
  refine ⟨fun hgood => ?_, fun hbad => ⟨_, frameHeard_isHeard k false h.2.2, ?_⟩⟩
  · rw [takeZoneState_good hgood]
    have hparts := partsKept_frameHeard x.toNat (.row payload) (s.accepted k x.toNat false)
    refine ⟨_, rfl, frameHeard_peer_same (s := s.accepted k x.toNat false) hx,
      fun y _ hy => frameHeard_peer_ne (s := s.accepted k x.toNat false) hy, fun hp f hf => ?_, fun hp => ?_,
      labelsFollow_accepted (frameHeard_labels (s := s.accepted k x.toNat false) none (contentLabels_none (by simp))),
      hparts.counters, hparts.lastOrigins, fun n hn r e old hr he hold => ?_, fun o _ hox hown l hl => ?_,
      fun i hi => frameHeard_row_lines (s := s.accepted k x.toNat false) h.2.2 hi,
      fun f hf => frameHeard_attendance x.toNat (.row payload) (s.accepted k x.toNat false) hf, hparts.store, hparts.ste,
      hparts.marks, hparts.portA, hparts.portB, hparts.own, hparts.clock, hparts.pending⟩
    · exact frameHeard_row (content := .row payload) (s := s.accepted k x.toNat false) (decide_eq_true hp) hf
    · exact frameHeard_holders (content := .row payload) (s := s.accepted k x.toNat false)
        (changesClaims_present hp (by simp))
    · have hfits : r.fits = true := hr ▸ fits_of_good hgood hn
      obtain ⟨-, -, hstate, -, hflags, -⟩ := (fits_iff r).mp hfits
      have ht : RecordTaken r old e s.clock := by
        rw [he, hold, hr]
        exact frameHeard_row_record (s := s.accepted k x.toNat false) h.2.2 hgood hn
      refine ⟨ht.known, ht.stale, ht.floor, ht.ztype, ht.zstate, ht.repeatCount, ht.transientCount, ht.resistance,
        ht.changeNumber, ht.label, ht.lastHeard, ht.trouble, ht.recurring, ht.lineLost, ht.boosted, ht.age,
        fun hack hepisode hstation => ?_, fun hnone => ht.ack.trans (recordAck_none hstate hflags hnone)⟩
      rw [ht.ack]
      exact recordAck_some hstate hflags hack hepisode hstation
    · exact (frameHeard_entry_row (s := s.accepted k x.toNat false) hx payload hl hown).trans (if_neg hox)
  · rw [takeZoneState_bad hbad, State.modPicture, ((frameHeard_isHeard k false h.2.2).own).2]
    rfl
end

section
/-! SUPPORT. The tile buffers and the read requests of a channel given back (R108, R111, R117, R118, R120, R142). -/

namespace Sys2Proof.Machine

open Sys2Proof

/-! ### States that differ in their tile buffers -/

def State.withBuffers (buffers : Vector TileBuffer 16) (s : State) : State :=
  { s with ste := { s.ste with buffers := buffers } }

theorem withBuffers_buffer (buffers : Vector TileBuffer 16) (s : State) (b : Nat) :
    (s.withBuffers buffers).buffer b = tget TileBuffer.freed buffers b := rfl

/-- A pass over the buffers that sets those which meet a test on the buffer alone. -/
theorem foldl_setBuffer {op : State → Nat → State} {test : State → Nat → Bool} {x : TileBuffer}
    (hop : ∀ s b, op s b = if test s b then s.setBuffer b x else s)
    (htest : ∀ s b buffers, tget TileBuffer.freed buffers b = s.buffer b → test (s.withBuffers buffers) b = test s b)
    (s : State) (n : Nat) (hn : n ≤ 16) : ∃ buffers, (List.range n).foldl op s = s.withBuffers buffers ∧
      ∀ b, tget TileBuffer.freed buffers b = if b < n ∧ test s b = true then x else s.buffer b := by
  induction n with
  | zero => exact ⟨s.ste.buffers, rfl, fun b => (if_neg fun h => Nat.not_lt_zero b h.1).symm⟩
  | succ n ih =>
    obtain ⟨before, heq, hbefore⟩ := ih (by omega)
    have hsame : test (s.withBuffers before) n = test s n :=
      htest s n before ((hbefore n).trans (if_neg fun h => Nat.lt_irrefl n h.1))
    rw [List.range_succ, List.foldl_append, heq, List.foldl_cons, List.foldl_nil, hop, hsame]
    have hgrow : ∀ b, b ≠ n → (b < n + 1 ∧ test s b = true ↔ b < n ∧ test s b = true) := fun b hb =>
      and_congr_left fun _ => by omega
    split
    · rename_i ht
      refine ⟨tset before n x, rfl, fun b => ?_⟩
      by_cases hbn : b = n
      · subst hbn
        rw [tget_tset_same _ _ (by omega), if_pos ⟨Nat.lt_succ_self b, ht⟩]
      · rw [tget_tset_ne _ _ (Ne.symm hbn), hbefore]
        exact if_congr (hgrow b hbn).symm rfl rfl
    · rename_i ht
      refine ⟨before, rfl, fun b => ?_⟩
      by_cases hbn : b = n
      · subst hbn
        rw [hbefore, if_neg fun h => ht h.2, if_neg fun h => ht h.2]
      · rw [hbefore]
        exact if_congr (hgrow b hbn).symm rfl rfl

/-! ### Buffers released and tiles discarded -/

/-- A channel's buffers are released, but for the busy ones. -/
theorem releaseBuffers_eq (c : Nat) (s : State) : ∃ buffers, releaseBuffers c s = s.withBuffers buffers ∧
    ∀ b < 16, tget TileBuffer.freed buffers b =
      if (s.buffer b).holder = some c ∧ s.bufferBusy b = false then TileBuffer.freed else s.buffer b := by
  obtain ⟨buffers, heq, hb⟩ := foldl_setBuffer (op := releaseBuffer c) (x := TileBuffer.freed)
    (test := fun s b => decide ((s.buffer b).holder = some c) && !s.bufferBusy b) (fun _ _ => rfl)
    (fun s b buffers h => by rw [withBuffers_buffer, h]; rfl) s 16 (Nat.le_refl _)
  refine ⟨buffers, heq, fun b hlt => (hb b).trans (if_congr ?_ rfl rfl)⟩
  simp [hlt]

/-- The buffer holds a tile of a channel that its discarding takes. -/
def State.discards (c : Nat) (test : Nat → Bool) (s : State) (b : Nat) : Bool :=
  match (s.buffer b).state with
  | .full t _ => decide ((s.buffer b).holder = some c) && test t && !decide (s.rlc.sendingFrom = some b)
  | .empty => false
  | .reading _ => false

theorem discardTile_eq (c : Nat) (test : Nat → Bool) (s : State) (b : Nat) : discardTile c test s b =
    if s.discards c test b then s.setBuffer b { holder := some c, state := .empty } else s := by
  unfold discardTile State.discards
  generalize (s.buffer b).state = x
  cases x <;> rfl

theorem discards_iff (c : Nat) (s : State) (b : Nat) : s.discards c (fun _ => true) b = true ↔
    (∃ n d, s.buffer b = { holder := some c, state := .full n d }) ∧ s.rlc.sendingFrom ≠ some b := by
  obtain ⟨x, hx⟩ : ∃ x, x = s.buffer b := ⟨_, rfl⟩
  rw [State.discards, ← hx]
  obtain ⟨holder, state⟩ := x
  cases state <;> simp

/-- A channel's full tiles are discarded, but for one under a frame in transmission. -/
theorem discardTiles_eq (c : Nat) (s : State) : ∃ buffers, discardTiles c (fun _ => true) s = s.withBuffers buffers ∧
    ∀ b < 16, tget TileBuffer.freed buffers b =
      if s.discards c (fun _ => true) b = true then { holder := some c, state := .empty } else s.buffer b := by
  have hlocal : ∀ (s : State) b buffers, tget TileBuffer.freed buffers b = s.buffer b →
      (s.withBuffers buffers).discards c (fun _ => true) b = s.discards c (fun _ => true) b := fun s b buffers h => by
    rw [State.discards, withBuffers_buffer, h]
    rfl
  obtain ⟨buffers, heq, hb⟩ := foldl_setBuffer (op := discardTile c fun _ => true)
    (test := fun s b => s.discards c (fun _ => true) b) (x := { holder := some c, state := .empty })
    (discardTile_eq c _) hlocal s 16 (Nat.le_refl _)
  exact ⟨buffers, heq, fun b hlt => (hb b).trans (if_congr (and_iff_right hlt) rfl rfl)⟩

/-! ### Reads withdrawn -/

theorem emptyReads_eq (l : List TileRead) (s : State) : ∃ buffers, l.foldl emptyRead s = s.withBuffers buffers ∧
    ∀ b < 16, tget TileBuffer.freed buffers b =
      if ∃ r ∈ l, r.buffer = b then { s.buffer b with state := .empty } else s.buffer b := by
  induction l generalizing s with
  | nil => exact ⟨s.ste.buffers, rfl, fun b _ => (if_neg (by simp)).symm⟩
  | cons r rest ih =>
    obtain ⟨buffers, heq, hb⟩ := ih (emptyRead s r)
    refine ⟨buffers, heq, fun b hlt => (hb b hlt).trans ?_⟩
    have hread : (emptyRead s r).buffer b =
        if r.buffer = b then { s.buffer b with state := .empty } else s.buffer b := by
      by_cases h : r.buffer = b
      · subst h
        rw [if_pos rfl]
        exact State.setBuffer_buffer_same hlt ..
      · rw [if_neg h]
        exact State.setBuffer_buffer_ne h ..
    rw [hread]
    by_cases h : r.buffer = b
    · rw [if_pos h]
      exact (ite_self _).trans (if_pos ⟨r, List.mem_cons_self, h⟩).symm
    · rw [if_neg h]
      refine if_congr ?_ rfl rfl
      simp [h]

/-- The state with a channel's reads withdrawn, but for the buffers. -/
def State.readsGone (c : Nat) (s : State) : State :=
  { s with store := { s.store with lists := tset s.store.lists c [], access := s.store.access.withdraw c } }

/-- A channel's read requests leave the list, and their buffers are empty again (R108). -/
theorem withdrawReads_eq (c : Nat) (s : State) : ∃ buffers, withdrawReads c s = (s.readsGone c).withBuffers buffers ∧
    ∀ b < 16, tget TileBuffer.freed buffers b =
      if ∃ r ∈ s.readList c, r.buffer = b then { s.buffer b with state := .empty } else s.buffer b := by
  obtain ⟨buffers, heq, hb⟩ := emptyReads_eq (s.readList c) s
  refine ⟨buffers, ?_, hb⟩
  unfold withdrawReads
  rw [heq]
  rfl

theorem withdraw_access (c : Nat) (a : FlashAccess) :
    (∀ r begun w, a = .tile r begun w → a.withdraw c = .tile r begun (w || decide (r.channel = c))) ∧
    ((∀ r begun w, a ≠ .tile r begun w) → a.withdraw c = a) := by
  cases a with
  | tile r begun w => exact ⟨fun _ _ _ h => by cases h; rfl, fun h => absurd rfl (h r begun w)⟩
  | free => exact ⟨fun _ _ _ h => (nomatch h), fun _ => rfl⟩
  | startup _ _ _ => exact ⟨fun _ _ _ h => (nomatch h), fun _ => rfl⟩
  | write _ _ _ _ => exact ⟨fun _ _ _ h => (nomatch h), fun _ => rfl⟩
  | erase _ _ _ => exact ⟨fun _ _ _ h => (nomatch h), fun _ => rfl⟩
  | check _ _ _ _ => exact ⟨fun _ _ _ h => (nomatch h), fun _ => rfl⟩

/-- A read in progress stays in its buffer (R111). -/
theorem bufferBusy_readsGone (c : Nat) (buffers : Vector TileBuffer 16) (s : State) (b : Nat) :
    ((s.readsGone c).withBuffers buffers).bufferBusy b = s.bufferBusy b := by
  have h : ((s.readsGone c).withBuffers buffers).store.readingInto = s.store.readingInto := by
    unfold State.readsGone State.withBuffers PlanStore.readingInto
    cases s.store.access <;> rfl
  rw [State.bufferBusy, h]
  rfl

theorem readsGone_readList {c : Nat} (hc : c < 6) (s : State) :
    (s.readsGone c).readList c = [] ∧ ∀ d, d ≠ c → (s.readsGone c).readList d = s.readList d :=
  ⟨tget_tset_same _ _ hc _, fun _ hd => tget_tset_ne _ _ (Ne.symm hd) _⟩

/-! ### The two ways in which a channel gives up what it holds -/

/-- Reads withdrawn and tiles discarded (R142). -/
theorem tilesDropped {c : Nat} (hc : c < 6) (v : State) : TilesDropped c v (discardTiles c (fun _ => true) (withdrawReads c v)) := by
  obtain ⟨before, hw, hbefore⟩ := withdrawReads_eq c v
  obtain ⟨after, hd, hafter⟩ := discardTiles_eq c (withdrawReads c v)
  rw [hd, hw]
  have hbuffer : ∀ b < 16, tget TileBuffer.freed after b = if ((v.readsGone c).withBuffers before).discards c (fun _ => true) b = true
      then { holder := some c, state := .empty } else tget TileBuffer.freed before b := fun b hb => by
    rw [hafter b hb, hw]; rfl
  have hempty : ∀ b < 16, (∃ r ∈ v.readList c, r.buffer = b) →
      tget TileBuffer.freed after b = { v.buffer b with state := .empty } := fun b hb h => by
    have hread := (hbefore b hb).trans (if_pos h)
    rw [hbuffer b hb, if_neg, hread]
    rw [discards_iff, withBuffers_buffer, hread]
    rintro ⟨⟨n, d, hfull⟩, -⟩
    exact nomatch congrArg TileBuffer.state hfull
  have hheld : ∀ b < 16, ¬(∃ r ∈ v.readList c, r.buffer = b) → tget TileBuffer.freed after b =
      if v.discards c (fun _ => true) b = true then { holder := some c, state := .empty } else v.buffer b :=
      fun b hb h => by
    have hsame := (hbefore b hb).trans (if_neg h)
    rw [hbuffer b hb, hsame]
    refine if_congr ?_ rfl rfl
    rw [discards_iff, discards_iff, withBuffers_buffer, hsame]
    exact Iff.rfl
  obtain ⟨hlist, hlists⟩ := readsGone_readList hc v
  refine ⟨⟨hlist, fun d _ hd => hlists d hd⟩, fun r hr hb => hempty _ hb ⟨r, hr, rfl⟩, fun b hb hfull hsend => ?_,
    fun b hb hno hkeep => ?_, withdraw_access c v.store.access, rfl⟩
  · by_cases h : ∃ r ∈ v.readList c, r.buffer = b
    · obtain ⟨n, d, hfull⟩ := hfull
      exact (hempty b hb h).trans (by rw [hfull])
    · exact (hheld b hb h).trans (if_pos ((discards_iff ..).mpr ⟨hfull, hsend⟩))
  · refine (hheld b hb fun ⟨r, hr, he⟩ => hno r hr he).trans (if_neg fun hdisc => ?_)
    obtain ⟨⟨n, d, hfull⟩, hsend⟩ := (discards_iff ..).mp hdisc
    rcases hkeep with h | h
    · exact h n d hfull
    · exact hsend h

theorem orphan_line (c : Nat) (r : RiserLink) (x : Transmission) (hx : r.tx = some x) :
    ((∃ b, x.source = .tile c b) → (r.orphan c).tx = some { x with serviceLive := false }) ∧
    ((∀ b, x.source ≠ .tile c b) → (r.orphan c).tx = some x) := by
  have hmap : (r.orphan c).tx = r.tx.map fun t =>
      match t.source with
      | .tile k _ => if k = c then { t with serviceLive := false } else t
      | _ => t := rfl
  rw [hmap, hx, Option.map_some]
  refine ⟨fun ⟨b, hb⟩ => ?_, fun hne => ?_⟩
  · simp only [hb, if_pos]
  · cases hsource : x.source with
    | tile d b => exact congrArg some (if_neg fun hd => hne b (by rw [hsource, hd]))
    | zoneState => rfl
    | control => rfl
    | directory => rfl
    | yieldMark => rfl

theorem orphan_rest (c : Nat) (r : RiserLink) : { r.orphan c with tx := r.tx } = r := rfl

/-- The state of a channel closed, from its buffers and its reads given back. -/
theorem closeChannel_eq (c : Nat) (v : State) : ∃ buffers, closeChannel c v =
    (((v.readsGone c).withBuffers buffers).modRlc (RiserLink.orphan c)).setChannel c Channel.freed ∧
    (∀ b < 16, (v.buffer b).holder = some c → v.bufferBusy b = false → tget TileBuffer.freed buffers b = TileBuffer.freed) ∧
    ∀ b < 16, (∀ r ∈ v.readList c, r.buffer ≠ b) → ((v.buffer b).holder ≠ some c ∨ v.bufferBusy b = true) →
      tget TileBuffer.freed buffers b = v.buffer b := by
  obtain ⟨before, hw, hbefore⟩ := withdrawReads_eq c v
  obtain ⟨after, hr, hafter⟩ := releaseBuffers_eq c (withdrawReads c v)
  refine ⟨after, ?_, fun b hb hholds hfree => ?_, fun b hb hno hkeep => ?_⟩
  · rw [closeChannel, hr, hw]
    rfl
  all_goals
    have hbuffer := hafter b hb
    rw [hw, bufferBusy_readsGone, withBuffers_buffer] at hbuffer
    have hholder : (tget TileBuffer.freed before b).holder = (v.buffer b).holder := by
      rw [hbefore b hb]
      split <;> rfl
    rw [hbuffer, hholder]
  · exact if_pos ⟨hholds, hfree⟩
  · rw [if_neg, hbefore b hb, if_neg fun ⟨r, hr, he⟩ => hno r hr he]
    rintro ⟨hholds, hfree⟩
    rcases hkeep with h | h
    · exact h hholds
    · rw [h] at hfree
      exact Bool.noConfusion hfree

/-- The parts of the state in which a closed channel shows. -/
theorem closed_parts (c : Nat) (buffers : Vector TileBuffer 16) (v : State) :
    (((v.readsGone c).withBuffers buffers).modRlc (RiserLink.orphan c)).setChannel c Channel.freed =
      { v with
        ste := { v.ste with channels := tset v.ste.channels c Channel.freed, buffers := buffers }
        store := { v.store with lists := tset v.store.lists c [], access := v.store.access.withdraw c }
        rlc := v.rlc.orphan c } := rfl

/-- With those parts put back the state is the one before. -/
theorem rest_of_parts {u v : State} (channels : Vector Channel 6) (buffers : Vector TileBuffer 16)
    (lists : Vector (List TileRead) 6) (access : FlashAccess) {r : RiserLink} (hr : { r with tx := v.rlc.tx } = v.rlc)
    (hu : u = { v with
      ste := { v.ste with channels := channels, buffers := buffers }
      store := { v.store with lists := lists, access := access }
      rlc := r }) :
    { u with
      ste := { u.ste with channels := v.ste.channels, buffers := v.ste.buffers }
      store := { u.store with lists := v.store.lists, access := v.store.access }
      rlc := { u.rlc with tx := v.rlc.tx } } = v := by
  subst hu
  exact congrArg (fun r : RiserLink => { v with rlc := r }) hr

/-- A channel closed (R117, R118, R137, R142). -/
theorem channelClosed {c : Nat} (hc : c < 6) (v : State) : ChannelClosed c v (closeChannel c v) := by
  obtain ⟨buffers, hu, hfreed, hkept⟩ := closeChannel_eq c v
  obtain ⟨hlist, hlists⟩ := readsGone_readList hc v
  rw [closed_parts] at hu
  have hrest := rest_of_parts _ _ _ _ (orphan_rest c v.rlc) hu
  rw [hu] at hrest ⊢
  exact
    { freed := ⟨tget_tset_same _ _ hc _, hlist⟩
      others := fun d _ hd => ⟨tget_tset_ne _ _ (Ne.symm hd) _, hlists d hd⟩
      released := hfreed
      kept := hkept
      access := withdraw_access c v.store.access
      line := orphan_line c v.rlc
      rest := hrest }

end Sys2Proof.Machine
end

section
/-! SUPPORT. What an inner operation leaves, and the loss of a peer whole (R34, R40, R52, R59, R135, R142). -/

namespace Sys2Proof.Machine

open Sys2Proof

/-! ### What an inner operation leaves -/

namespace Inner

variable {s t : State}

theorem peers (h : Inner s t) : t.peers = s.peers := congrArg (·.peers) h.lasting

theorem picture (h : Inner s t) : t.picture = s.picture := congrArg (·.picture) h.lasting

theorem holders (h : Inner s t) : t.holders = s.holders := congrArg (·.holders) h.lasting

theorem zones (h : Inner s t) : t.zones = s.zones := congrArg (·.zones) h.lasting

theorem marks (h : Inner s t) : t.marks = s.marks := congrArg (·.marks) h.lasting

theorem clock (h : Inner s t) : t.clock = s.clock := congrArg (·.clock) h.lasting

theorem address (h : Inner s t) : t.address = s.address := congrArg (·.address) h.lasting

theorem pending (h : Inner s t) : t.pending = s.pending := congrArg (·.pending) h.lasting

theorem memory (h : Inner s t) : t.store.memory = s.store.memory := congrArg (·.store.memory) h.lasting

theorem image (h : Inner s t) : t.store.image = s.store.image := congrArg (·.store.image) h.lasting

theorem notices (h : Inner s t) (p : Port) : (t.notices p).lasting = (s.notices p).lasting := by
  cases p with
  | a => exact congrArg (·.noticesA) h.lasting
  | b => exact congrArg (·.noticesB) h.lasting

end Inner

theorem NoticeController.find_lasting {k : NoticeKey} (hk : k.level < 7) (n : NoticeController) :
    n.lasting.find k = n.find k := by
  simp only [NoticeController.find, NoticeController.lasting, List.find?_filter]
  congr 1
  funext r
  by_cases hr : r.key = k
  · simp [hr, hk]
  · simp [hr]

theorem Inner.find {s t : State} (h : Inner s t) {k : NoticeKey} (hk : k.level < 7) (p : Port) :
    (t.notices p).find k = (s.notices p).find k := by
  rw [← NoticeController.find_lasting hk, h.notices p, NoticeController.find_lasting hk]

theorem LabelsFollow.inner {again : Option Source} {s u v : State} (h : LabelsFollow again s u) (g : Inner u v) :
    LabelsFollow again s v := by
  have howner := State.ownerOf_congr g.holders
  refine ⟨fun f hf hc => ?_, fun f hf i l ho hor hi => ?_, fun f hf a d l ho hor hd => ?_⟩
  · rw [howner] at hc
    rw [State.floor_congr g.picture]
    exact h.kept f hf hc
  · rw [howner] at ho
    rw [g.image] at hi
    rw [State.floor_congr g.picture]
    exact h.fromHeader f hf i l ho hor hi
  · rw [howner] at ho
    rw [State.peer, g.peers] at hd
    rw [State.floor_congr g.picture]
    exact h.fromPeer f hf a d l ho hor hd

/-! ### The engine's part of a loss -/

theorem inner_loseHolder (x : Nat) (s : State) (c : Nat) : Inner s (loseHolder x s c) := by
  unfold loseHolder
  split
  · exact inner_moveNext c false s
  · exact Inner.refl s

theorem inner_loseRequester (x : Nat) (s : State) (c : Nat) : Inner s (loseRequester x s c) := by
  unfold loseRequester
  split
  · exact inner_closeChannel c s
  · exact Inner.refl s

theorem inner_holderLoss (x : Nat) (s : State) : Inner s (holderLoss x s) :=
  (Inner.foldl (inner_loseHolder x) _ s).trans (Inner.foldl (inner_loseRequester x) _ _)

/-- Channel `c` serves peer `x`. -/
def State.ServesPeer (x : Nat) (s : State) (c : Nat) : Prop :=
  (s.channel c).state = .serve ∧ (s.channel c).requester.1 = x

theorem loseRequester_channel (x : Nat) (s : State) {c : Nat} (hc : c < 6) :
    ¬(loseRequester x s c).ServesPeer x c ∧ ∀ d < 6, d ≠ c → (loseRequester x s c).channel d = s.channel d := by
  unfold loseRequester
  split
  · have hclosed := channelClosed hc s
    refine ⟨fun h => ?_, fun d hd hne => (hclosed.others d hd hne).1⟩
    rw [State.ServesPeer, endService, hclosed.freed.1] at h
    exact nomatch h.1
  · rename_i h
    exact ⟨h, fun _ _ _ => rfl⟩

/-- No service of a lost requester is left (R142). -/
theorem loseRequesters_none (x : Nat) (s : State) (n : Nat) (hn : n ≤ 6) :
    ∀ c < n, ¬((List.range n).foldl (loseRequester x) s).ServesPeer x c := by
  induction n with
  | zero => exact fun c hc => absurd hc (Nat.not_lt_zero c)
  | succ n ih =>
    obtain ⟨hlast, hothers⟩ := loseRequester_channel x ((List.range n).foldl (loseRequester x) s) (show n < 6 by omega)
    rw [List.range_succ, List.foldl_append, List.foldl_cons, List.foldl_nil]
    intro c hc
    by_cases hcn : c = n
    · exact hcn ▸ hlast
    · rw [State.ServesPeer, hothers c (by omega) hcn]
      exact ih (by omega) c (by omega)

/-! ### The loss -/

theorem peerLost_labels (x : Nat) (s : State) : LabelsFollow none s (peerLost x s) := by
  rw [peerLost_event]
  refine labelsFollow_event none (s := s) (State.ownerOf_congr ?_) (onlyTables_lossTold x s).floor (given := [])
    (fun f _ => ?_) ..
  · exact notifyBoth_holders ..
  · rw [State.ownerLabel_of_not (test := fun _ src => decide (none = some src)) fun _ _ => rfl]
    rfl

theorem peerLost_row (x : Nat) (s : State) {f : Nat} (hf : f < 256) :
    (peerLost x s).holderRow f = rowFrom (peerLost x s).allClaims f := by
  have hr := restKept_peerLost x s
  rw [State.allClaims_congr hr.address hr.peers hr.holders, State.holderRow, hr.holders]
  exact lossTold_row x s hf

theorem peerLost_station {x : Nat} {s : State} (hlaw : SummaryLaw s) {p : Port} (ha : (s.port p).attached = true)
    (hroom : (s.notices p).queue.length < 32) :
    ∃ r, ((peerLost x s).notices p).find { level := 4, subject := .station x } = some r ∧ r.detail = 1 := by
  have hworst : WorstLaw (s.lossTold x) := fun f hf => by
    have hu := onlyTables_lossTold x s
    rw [hu.floor, hu.picture]
    exact worstLaw_of_summaryLaw hlaw f hf
  rw [peerLost_event, find_pictureEvent _ _ (calm_rowChanges fun _ => ZoneEntry.core_makeStale) hworst (show 4 < 5 by decide)]
  exact lossTold_station x s ha hroom

theorem partsKept_peerLost (x : Nat) (s : State) : PartsKept s (peerLost x s) := by
  have hr := restKept_peerLost x s
  have hu := onlyTables_lossTold x s
  have hrlc := (peerLost_quiet x s).2.1
  exact ⟨hr.store.trans hu.store, hr.ste.trans hu.ste, hr.marks.trans hu.marks, hr.portA.trans hu.portA,
    hr.portB.trans hu.portB, (congrArg (·.own) hr.holders).trans hu.own, hr.clock.trans hu.clock,
    hr.pending.trans hu.pending, by rw [hrlc], by rw [hrlc]⟩

theorem ZoneEntry.makeStale_eq (e : ZoneEntry) : e.makeStale = { e with stale := e.stale || e.known } := by
  unfold ZoneEntry.makeStale
  cases h : e.known
  · rw [if_neg Bool.noConfusion, Bool.or_false, ← h]
  · rw [if_pos rfl, Bool.or_true, ← h]

end Sys2Proof.Machine

open Sys2Proof Sys2Proof.Machine

/-- Settles O39: the loss is taken by the tables and the picture, and the engine changes after it only what the end of an
event may change. -/
theorem silenceLosesPeer : Obligations.SilenceLosesPeer := by
  intro x s begun hlaw hheld hpeer hpresent hsilence hdue
  have hx := isPeer_le hpeer
  have hexec : exec (.silenceTimerExpiry x) s = .next (settle s (holderLoss x.toNat (peerLost x.toNat s))) := by
    have hwhen : silenceExpiry x.toNat s = holderLoss x.toNat (peerLost x.toNat s) := by
      refine if_pos ?_
      rw [State.present, hpeer, hpresent, hsilence]
      exact decide_eq_true hdue
    exact (event_running hheld).trans (by rw [hwhen])
  have hi := inner_holderLoss x.toNat (peerLost x.toNat s)
  have hparts := partsKept_peerLost x.toNat s
  have hserve := loseRequesters_none x.toNat ((List.range 6).foldl (loseHolder x.toNat) (peerLost x.toNat s)) 6 (by omega)
  have hentry : ∀ o l, (holderLoss x.toNat (peerLost x.toNat s)).entry o l = (peerLost x.toNat s).entry o l := fun o l =>
    State.slot_congr hi.picture _
  have hpeers := hi.peers.trans (peerLost_peers x.toNat s)
  refine ⟨_, hexec, ?_, fun y _ hy => ?_, fun l hl => ?_, fun o _ ho l hl => ?_, fun f hf => ?_, ?_,
    (peerLost_labels x.toNat s).inner hi, fun p ha hroom => ?_, hserve, fun f hf => ?_, hi.zones.trans (peerLost_quiet x.toNat s).1,
    hi.memory.trans (congrArg PlanStore.memory hparts.store), hi.marks.trans hparts.marks, hi.clock.trans hparts.clock,
    hi.portA.trans hparts.portA, hi.portB.trans hparts.portB, hi.pending.trans hparts.pending⟩
  · rw [State.peer, hpeers]
    exact State.setPeer_peer_same (by omega) ..
  · rw [State.peer, hpeers]
    exact State.setPeer_peer_ne (Ne.symm hy) ..
  · rw [hentry, peerLost_entry hx hl, if_pos rfl, ZoneEntry.makeStale_eq]
  · rw [hentry, peerLost_entry hx hl, if_neg ho]
  · rw [State.allClaims_congr hi.address hi.peers hi.holders, State.holderRow, hi.holders]
    exact peerLost_row x.toNat s hf
  · rw [hi.holders]
    exact hparts.own
  · rw [hi.find (show 4 < 7 by decide)]
    exact peerLost_station hlaw ha hroom
  · rw [State.floor_congr hi.picture, peerLost_event, pictureEvent_attendance _ _ _ hf, (onlyTables_lossTold x.toNat s).floor]
end

section
/-! SUPPORT. The holdings, the claims, the rows of the Holder Table and the candidates (R56 to R60). -/

namespace Sys2Proof.Machine

open Sys2Proof

/-! ### Lists by floor -/

theorem insertByFloor_perm (x : Nat × KindSet) (l : List (Nat × KindSet)) : (insertByFloor x l).Perm (x :: l) := by
  induction l with
  | nil => exact List.Perm.refl _
  | cons y rest ih =>
    unfold insertByFloor
    split
    · exact List.Perm.refl _
    · exact (ih.cons y).trans (List.Perm.swap x y rest)

theorem insertByFloor_sorted (x : Nat × KindSet) {l : List (Nat × KindSet)} (h : l.Pairwise fun a b => a.1 ≤ b.1) :
    (insertByFloor x l).Pairwise fun a b => a.1 ≤ b.1 := by
  induction l with
  | nil => exact List.pairwise_singleton _ _
  | cons y rest ih =>
    obtain ⟨hy, hrest⟩ := List.pairwise_cons.mp h
    unfold insertByFloor
    split
    · rename_i hxy
      exact List.pairwise_cons.mpr ⟨fun z hz => (List.mem_cons.mp hz).elim (fun he => he ▸ hxy) fun hz => hxy.trans (hy z hz), h⟩
    · rename_i hxy
      refine List.pairwise_cons.mpr ⟨fun z hz => ?_, ih hrest⟩
      rcases List.mem_cons.mp ((insertByFloor_perm x rest).mem_iff.mp hz) with rfl | hz
      · omega
      · exact hy z hz

theorem sortByFloor_perm (l : List (Nat × KindSet)) : (sortByFloor l).Perm l := by
  induction l with
  | nil => exact List.Perm.refl _
  | cons x rest ih => exact (insertByFloor_perm x (sortByFloor rest)).trans (ih.cons x)

theorem sortByFloor_sorted (l : List (Nat × KindSet)) : (sortByFloor l).Pairwise fun a b => a.1 ≤ b.1 := by
  induction l with
  | nil => exact List.Pairwise.nil
  | cons x rest ih => exact insertByFloor_sorted x ih

/-- Of distinct floors the order is strict. -/
theorem sortByFloor_strict {l : List (Nat × KindSet)} (h : (l.map (·.1)).Nodup) :
    (sortByFloor l).Pairwise fun a b => a.1 < b.1 := by
  have hnodup : ((sortByFloor l).map (·.1)).Nodup := ((sortByFloor_perm l).map _).nodup_iff.mpr h
  refine ((sortByFloor_sorted l).and (List.pairwise_map.mp hnodup)).imp fun {a b} hab => ?_
  exact lt_of_le_of_ne hab.1 hab.2

theorem kindsAt_eq (l : List (Nat × KindSet)) (f : Nat) :
    kindsAt l f = ((l.find? fun r => decide (r.1 = f)).map (·.2)).getD 0#6 := by
  have hbeq : (fun r : Nat × KindSet => r.1 == f) = fun r => decide (r.1 = f) := by
    funext r
    rw [Bool.eq_iff_iff, beq_iff_eq, decide_eq_true_eq]
  rw [kindsAt, hbeq]
  cases l.find? fun r => decide (r.1 = f) <;> rfl

/-- Where floors are distinct, a floor's kinds are those of its entry. -/
theorem kindsAt_of_mem {l : List (Nat × KindSet)} (h : (l.map (·.1)).Nodup) {x : Nat × KindSet} (hx : x ∈ l) :
    kindsAt l x.1 = x.2 := by
  have hfound : l.find? (fun r => decide (r.1 = x.1)) = some x := by
    cases hr : l.find? (fun r => decide (r.1 = x.1)) with
    | none => exact absurd (decide_eq_true rfl) (List.find?_eq_none.mp hr x hx)
    | some y =>
      have hfloor : y.1 = x.1 := of_decide_eq_true (List.find?_some (p := fun r : Nat × KindSet => decide (r.1 = x.1)) hr)
      exact congrArg some (List.inj_on_of_nodup_map h (List.mem_of_find?_eq_some hr) hx hfloor)
  rw [kindsAt_eq, hfound]
  rfl

/-! ### The own holdings (R56) -/

/-- Bit `j` of the union of the records' kinds. -/
theorem foldl_kinds_getLsbD (l : List SheetRecord) (k : KindSet) {j : Nat} (hj : j < 6) :
    (l.foldl (fun k r => k ||| BitVec.ofNat 6 (2 ^ r.kind)) k).getLsbD j = true ↔
      k.getLsbD j = true ∨ ∃ r ∈ l, r.kind = j := by
  induction l generalizing k with
  | nil => simp
  | cons r rest ih =>
    have hbit : (BitVec.ofNat 6 (2 ^ r.kind)).getLsbD j = true ↔ r.kind = j := by
      rw [BitVec.getLsbD_ofNat, decide_eq_true hj, Bool.true_and, Nat.testBit_two_pow, decide_eq_true_eq]
    rw [List.foldl_cons, ih, BitVec.getLsbD_or, Bool.or_eq_true, hbit]
    simp [or_assoc]

/-- A floor's kinds are those of its accepted records. -/
theorem kindsOfFloor_iff (sheets : List SheetRecord) (f : Nat) {j : Nat} (hj : j < 6) :
    (kindsOfFloor sheets f).getLsbD j = true ↔ ∃ r ∈ sheets, r.floor = f ∧ r.kind = j := by
  rw [kindsOfFloor, foldl_kinds_getLsbD _ _ hj]
  simp [and_assoc]

theorem foldl_firstOccurrences (l acc : List Nat) (hacc : acc.Nodup) :
    (l.foldl (fun acc x => if acc.contains x then acc else acc ++ [x]) acc).Nodup ∧
    ∀ f, f ∈ l.foldl (fun acc x => if acc.contains x then acc else acc ++ [x]) acc ↔ f ∈ acc ∨ f ∈ l := by
  induction l generalizing acc with
  | nil => exact ⟨hacc, fun f => by simp⟩
  | cons x rest ih =>
    rw [List.foldl_cons]
    split
    · rename_i hx
      rw [List.contains_iff_mem] at hx
      obtain ⟨hnodup, hmem⟩ := ih acc hacc
      refine ⟨hnodup, fun f => (hmem f).trans ?_⟩
      rw [List.mem_cons]
      exact ⟨fun h => h.imp id .inr, fun h => h.elim .inl fun h => h.elim (fun he => .inl (he ▸ hx)) .inr⟩
    · rename_i hx
      rw [List.contains_iff_mem] at hx
      obtain ⟨hnodup, hmem⟩ := ih (acc ++ [x])
        (List.nodup_append.mpr ⟨hacc, List.nodup_singleton x, fun a ha b hb hab => hx (by
          rw [← List.mem_singleton.mp hb, ← hab]; exact ha)⟩)
      refine ⟨hnodup, fun f => (hmem f).trans ?_⟩
      rw [List.mem_append, List.mem_singleton, List.mem_cons, or_assoc]

theorem firstOccurrences_nodup (l : List Nat) : (firstOccurrences l).Nodup := (foldl_firstOccurrences l [] List.nodup_nil).1

theorem mem_firstOccurrences {l : List Nat} {f : Nat} : f ∈ firstOccurrences l ↔ f ∈ l := by
  refine ((foldl_firstOccurrences l [] List.nodup_nil).2 f).trans ?_
  simp

theorem covers_iff (first count f : Nat) : covers first count f = true ↔ first ≤ f ∧ f < first + count := by
  simp [covers]

/-- The own holdings of a header image: its covered floors, and its listed floors not covered, once, ascending (R56). -/
theorem ownHoldingsOf_some (h : HeaderImage) (sheets : List SheetRecord) :
    (ownHoldingsOf (some h) sheets).owned.length = h.floorCount ∧
    (∀ k < h.floorCount, ∀ j < 6, ((ownHoldingsOf (some h) sheets).owned.getD k 0#6).getLsbD j = true ↔
      ∃ r ∈ sheets, r.floor = h.firstFloor + k ∧ r.kind = j) ∧
    (∀ f, f ∈ (ownHoldingsOf (some h) sheets).replicas.map (·.1) ↔
      f ∈ h.replicas ∧ ¬(h.firstFloor ≤ f ∧ f < h.firstFloor + h.floorCount)) ∧
    (ownHoldingsOf (some h) sheets).replicas.Pairwise (fun x y => x.1 < y.1) ∧
    ∀ x ∈ (ownHoldingsOf (some h) sheets).replicas, ∀ j < 6, x.2.getLsbD j = true ↔
      ∃ r ∈ sheets, r.floor = x.1 ∧ r.kind = j := by
  obtain ⟨floors, hfloors⟩ : ∃ floors, floors =
    (firstOccurrences h.replicas).filter (fun f => !(covers h.firstFloor h.floorCount f)) := ⟨_, rfl⟩
  have hreplicas : (ownHoldingsOf (some h) sheets).replicas =
      sortByFloor (floors.map fun f => (f, kindsOfFloor sheets f)) := by rw [hfloors]; rfl
  have hmap : (floors.map fun f => (f, kindsOfFloor sheets f)).map (·.1) = floors := by
    rw [List.map_map]
    exact List.map_id floors
  rw [hreplicas]
  refine ⟨by simp [ownHoldingsOf], fun k hk j hj => ?_, fun f => ?_, sortByFloor_strict ?_, fun x hx j hj => ?_⟩
  · have hk' : (ownHoldingsOf (some h) sheets).owned.getD k 0#6 = kindsOfFloor sheets (h.firstFloor + k) := by
      simp [ownHoldingsOf, List.getD_eq_getElem?_getD, hk]
    rw [hk', kindsOfFloor_iff _ _ hj]
  · rw [((sortByFloor_perm _).map _).mem_iff, hmap, hfloors, List.mem_filter, mem_firstOccurrences, Bool.not_eq_true',
      Bool.eq_false_iff, Ne, covers_iff]
  · rw [hmap, hfloors]
    exact (firstOccurrences_nodup _).filter _
  · obtain ⟨f, -, rfl⟩ := List.mem_map.mp ((sortByFloor_perm _).mem_iff.mp hx)
    exact kindsOfFloor_iff _ _ hj

/-! ### The claims (R57) -/

/-- The rank of a source: a peer's address; the station's own, or 64 where it is 0 or 63. -/
def State.rankOf (s : State) : Source → Nat
  | .peer a => a
  | .self => if 1 ≤ s.address ∧ s.address ≤ 62 then s.address else 64

theorem ownRank_eq (s : State) : s.ownRank = s.rankOf .self := by
  simp only [State.ownRank, State.rankOf, validAddress, Bool.and_eq_true, decide_eq_true_eq]

/-- What a peer's claim is (R49, R57). -/
theorem peerClaim_iff {s : State} {a : Nat} {x : Claim} : s.peerClaim a = some x ↔ x.source = .peer a ∧
    ∃ d, s.isPeer a = true ∧ (s.peer a).presence = .present ∧ (s.peer a).directory = some d ∧
      x.firstFloor = d.firstFloor ∧ x.floorCount = d.floorCount ∧ x.owned = d.owned ∧ x.replicas = d.replicas := by
  unfold State.peerClaim
  dsimp only
  by_cases hp : s.isPeer a = true ∧ (s.peer a).presence = .present
  · rw [if_pos (by rw [hp.1, hp.2]; rfl), Option.map_eq_some_iff]
    constructor
    · rintro ⟨d, hd, rfl⟩
      exact ⟨rfl, d, hp.1, hp.2, hd, rfl, rfl, rfl, rfl⟩
    · rintro ⟨hs, d, -, -, hd, h1, h2, h3, h4⟩
      exact ⟨d, hd, by rw [← hs, ← h1, ← h2, ← h3, ← h4]⟩
  · rw [if_neg]
    · exact ⟨fun h => (nomatch h), fun ⟨_, d, h1, h2, _⟩ => absurd ⟨h1, h2⟩ hp⟩
    · simpa using hp

theorem mem_peerClaims {s : State} {low high : Nat} {x : Claim} : x ∈ s.peerClaims low high ↔
    ∃ a < 63, low ≤ a ∧ a < high ∧ s.peerClaim a = some x := by
  simp only [State.peerClaims, List.mem_filterMap, List.mem_range]
  refine exists_congr fun a => and_congr_right fun _ => ?_
  by_cases h : low ≤ a ∧ a < high
  · rw [if_pos h, ← and_assoc, and_iff_right h]
  · rw [if_neg h, ← and_assoc]
    exact ⟨fun hn => (nomatch hn), fun hn => absurd hn.1 h⟩

theorem mem_ownClaim {s : State} {x : Claim} : x ∈ s.ownClaim ↔ x.source = .self ∧ s.holders.own = some
    { firstFloor := x.firstFloor, floorCount := x.floorCount, owned := x.owned, replicas := x.replicas } := by
  unfold State.ownClaim
  cases ho : s.holders.own with
  | none => exact ⟨fun h => absurd h List.not_mem_nil, fun h => nomatch h.2⟩
  | some o =>
    rw [List.mem_singleton]
    constructor
    · rintro rfl
      exact ⟨rfl, rfl⟩
    · rintro ⟨hs, h⟩
      obtain rfl := Option.some.inj h
      rw [← hs]

theorem isPeer_iff (s : State) (a : Nat) : s.isPeer a = true ↔ 1 ≤ a ∧ a ≤ 62 ∧ a ≠ s.address := by
  simp [State.isPeer, validAddress, and_assoc]

/-- A peer ranks below or above the station, never with it. -/
theorem rankOf_self_ne {s : State} {a : Nat} (h : s.isPeer a = true) : a ≠ s.rankOf .self := by
  obtain ⟨-, hle, hne⟩ := (isPeer_iff s a).mp h
  unfold State.rankOf
  dsimp only
  split
  · exact hne
  · omega

/-- The claims are the own holdings and those of the PRESENT peers with a DIRECTORY. -/
theorem mem_allClaims {s : State} {x : Claim} : x ∈ s.allClaims ↔
    (x.source = .self ∧ s.holders.own = some
      { firstFloor := x.firstFloor, floorCount := x.floorCount, owned := x.owned, replicas := x.replicas }) ∨
    ∃ a d, x.source = .peer a ∧ 1 ≤ a ∧ a ≤ 62 ∧ a ≠ s.address ∧ (s.peer a).presence = .present ∧
      (s.peer a).directory = some d ∧ x.firstFloor = d.firstFloor ∧ x.floorCount = d.floorCount ∧ x.owned = d.owned ∧
      x.replicas = d.replicas := by
  rw [State.allClaims, List.mem_append, List.mem_append, mem_ownClaim, mem_peerClaims, mem_peerClaims]
  constructor
  · have hpeer : ∀ a, s.peerClaim a = some x → ∃ a d, x.source = .peer a ∧ 1 ≤ a ∧ a ≤ 62 ∧ a ≠ s.address ∧
        (s.peer a).presence = .present ∧ (s.peer a).directory = some d ∧ x.firstFloor = d.firstFloor ∧
        x.floorCount = d.floorCount ∧ x.owned = d.owned ∧ x.replicas = d.replicas := fun a h => by
      obtain ⟨hs, d, hp, hrest⟩ := peerClaim_iff.mp h
      obtain ⟨h1, h2, h3⟩ := (isPeer_iff s a).mp hp
      exact ⟨a, d, hs, h1, h2, h3, hrest⟩
    rintro ((⟨a, -, -, -, h⟩ | h) | ⟨a, -, -, -, h⟩)
    · exact .inr (hpeer a h)
    · exact .inl h
    · exact .inr (hpeer a h)
  · rintro (h | ⟨a, d, hs, h1, h2, h3, hrest⟩)
    · exact .inl (.inr h)
    · have hp := (isPeer_iff s a).mpr ⟨h1, h2, h3⟩
      have hclaim : s.peerClaim a = some x := peerClaim_iff.mpr ⟨hs, d, hp, hrest⟩
      have hrank : a ≠ s.ownRank := by rw [ownRank_eq]; exact rankOf_self_ne hp
      rcases Nat.lt_or_gt_of_ne hrank with hlow | hhigh
      · exact .inl (.inl ⟨a, by omega, Nat.zero_le a, hlow, hclaim⟩)
      · exact .inr ⟨a, by omega, Nat.le_of_lt hhigh, by omega, hclaim⟩

theorem rank_of_peerClaims {s : State} {low high : Nat} {x : Claim} (h : x ∈ s.peerClaims low high) :
    low ≤ s.rankOf x.source ∧ s.rankOf x.source < high := by
  obtain ⟨a, -, hlow, hhigh, hclaim⟩ := mem_peerClaims.mp h
  rw [(peerClaim_iff.mp hclaim).1]
  exact ⟨hlow, hhigh⟩

theorem peerClaims_ascending (s : State) (low high : Nat) :
    (s.peerClaims low high).Pairwise fun x y => s.rankOf x.source < s.rankOf y.source := by
  refine List.pairwise_filterMap.mpr (List.pairwise_lt_range.imp fun {a b} hab x hx y hy => ?_)
  have hrank : ∀ (c : Nat) (z : Claim), (if low ≤ c ∧ c < high then s.peerClaim c else none) = some z →
      s.rankOf z.source = c := fun c z hz => by
    split at hz
    · rw [(peerClaim_iff.mp hz).1]; rfl
    · exact nomatch hz
  rw [hrank a x hx, hrank b y hy]
  exact hab

/-- The claims stand in rising rank. -/
theorem allClaims_ascending (s : State) : s.allClaims.Pairwise fun x y => s.rankOf x.source < s.rankOf y.source := by
  have hown : ∀ x ∈ s.ownClaim, s.rankOf x.source = s.ownRank := fun x hx => by
    rw [(mem_ownClaim.mp hx).1, ownRank_eq]
  have hsingle : s.ownClaim.Pairwise fun x y => s.rankOf x.source < s.rankOf y.source := by
    unfold State.ownClaim
    split
    · exact List.Pairwise.nil
    · exact List.pairwise_singleton _ _
  have hpeer : ∀ x ∈ s.peerClaims s.ownRank 63, s.ownRank < s.rankOf x.source := fun x hx => by
    obtain ⟨a, -, hlow, -, hclaim⟩ := mem_peerClaims.mp hx
    obtain ⟨hsource, d, hp, -⟩ := peerClaim_iff.mp hclaim
    rw [hsource]
    exact lt_of_le_of_ne hlow (Ne.symm (by rw [ownRank_eq]; exact rankOf_self_ne hp))
  refine List.pairwise_append.mpr ⟨List.pairwise_append.mpr ⟨peerClaims_ascending .., hsingle, fun x hx y hy => ?_⟩,
    peerClaims_ascending .., fun x hx y hy => ?_⟩
  · rw [hown y hy]
    exact (rank_of_peerClaims hx).2
  · refine Nat.lt_of_le_of_lt ?_ (hpeer y hy)
    rcases List.mem_append.mp hx with hx | hx
    · exact Nat.le_of_lt (rank_of_peerClaims hx).2
    · exact Nat.le_of_eq (hown x hx)

/-! ### The rows (R57, R58) -/

theorem Claim.owns_eq (x : Claim) (f : Nat) : x.owns f = decide (x.firstFloor ≤ f ∧ f < x.firstFloor + x.floorCount) := by
  rw [Bool.eq_iff_iff, Claim.owns, covers_iff, decide_eq_true_eq]

theorem Claim.claims_eq (x : Claim) (f : Nat) : x.claims f = (x.owns f || decide (f ∈ x.replicas.map (·.1))) := by
  rw [Claim.claims, Bool.eq_iff_iff, Bool.or_eq_true, Bool.or_eq_true, List.any_eq_true, decide_eq_true_eq, List.mem_map]
  simp only [beq_iff_eq]

theorem Claim.kinds_eq (x : Claim) (f : Nat) : x.kinds f =
    if x.owns f = true then x.owned.getD (f - x.firstFloor) 0#6
    else ((x.replicas.find? fun r => decide (r.1 = f)).map (·.2)).getD 0#6 := by
  rw [Claim.kinds, kindsAt_eq]

/-- A claim as the holder of a row. -/
def Claim.holder (f : Nat) (x : Claim) : Holder := { source := x.source, kinds := x.kinds f }

theorem rowFrom_owner (claims : List Claim) (f : Nat) :
    (rowFrom claims f).owner = (claims.find? fun x => x.owns f).map (Claim.holder f) := rfl

theorem rowFrom_replicas (claims : List Claim) (f : Nat) : (rowFrom claims f).replicas =
    ((claims.filter fun x => x.claims f && decide ((rowFrom claims f).owner.map (·.source) ≠ some x.source)).take 2).map
      (Claim.holder f) := by
  rw [rowFrom_owner]
  unfold rowFrom
  dsimp only
  cases claims.find? fun x => x.owns f with
  | none => rfl
  | some o =>
    refine congrArg (fun l => (List.take 2 l).map (Claim.holder f)) (List.filter_congr fun x _ => ?_)
    refine congrArg (x.claims f && ·) (decide_eq_decide.mpr ?_)
    exact ⟨fun h he => h (Option.some.inj he).symm, fun h he => h (congrArg some he.symm)⟩

/-! ### The candidates (R60) -/

/-- The sources of the holders of a kind that are not the station. -/
def othersWith (kind : Nat) (l : List Holder) : List Source :=
  (l.filter fun h => decide (h.source ≠ .self) && h.kinds.getLsbD kind).map (·.source)

theorem candidates_eq (s : State) (f kind : Nat) : s.candidates f kind =
    (if s.holdsItself f kind = true then [.self] else []) ++
      (match (s.holderRow f).owner with
        | some h => othersWith kind [h]
        | none => []) ++ othersWith kind (s.holderRow f).replicas := by
  unfold State.candidates
  dsimp only
  rw [List.filter_append, List.map_append, List.append_assoc]
  cases (s.holderRow f).owner <;> rfl

/-- The station's claim. -/
def OwnHoldings.claim (o : OwnHoldings) : Claim :=
  { source := .self, firstFloor := o.firstFloor, floorCount := o.floorCount, owned := o.owned, replicas := o.replicas }

theorem holdsItself_iff (s : State) (f kind : Nat) : s.holdsItself f kind = true ↔ ∃ o, s.holders.own = some o ∧
    ((o.firstFloor ≤ f ∧ f < o.firstFloor + o.floorCount ∧
        (o.owned.getD (f - o.firstFloor) 0#6).getLsbD kind = true) ∨
      (¬(o.firstFloor ≤ f ∧ f < o.firstFloor + o.floorCount) ∧
        ∃ x, o.replicas.find? (fun r => decide (r.1 = f)) = some x ∧ x.2.getLsbD kind = true)) := by
  unfold State.holdsItself State.ownClaim
  cases s.holders.own with
  | none => simp
  | some o =>
    obtain ⟨x, hx⟩ : ∃ x, x = o.claim := ⟨_, rfl⟩
    have howns : x.owns f = true ↔ o.firstFloor ≤ f ∧ f < o.firstFloor + o.floorCount := by
      rw [Claim.owns, covers_iff, hx]
      rfl
    have hlist : ([x].any fun c => c.claims f && hasKind (c.kinds f) kind) = (x.claims f && hasKind (x.kinds f) kind) := by
      simp
    dsimp only
    rw [← OwnHoldings.claim, ← hx, hlist, hasKind, Claim.kinds_eq]
    by_cases hown : x.owns f = true
    · have hcov := howns.mp hown
      rw [if_pos hown, Claim.claims, hown, Bool.true_or, Bool.true_and, hx]
      constructor
      · exact fun h => ⟨o, rfl, .inl ⟨hcov.1, hcov.2, h⟩⟩
      · rintro ⟨o', ho, h | h⟩
        · obtain rfl := Option.some.inj ho
          exact h.2.2
        · obtain rfl := Option.some.inj ho
          exact absurd hcov h.1
    · have hcov : ¬(o.firstFloor ≤ f ∧ f < o.firstFloor + o.floorCount) := fun h => hown (howns.mpr h)
      rw [if_neg hown, Claim.claims_eq, Bool.eq_false_iff.mpr hown, Bool.false_or, Bool.and_eq_true, decide_eq_true_eq, hx,
        show o.claim.replicas = o.replicas from rfl]
      constructor
      · rintro ⟨-, hbit⟩
        refine ⟨o, rfl, .inr ⟨hcov, ?_⟩⟩
        cases hfind : o.replicas.find? fun r => decide (r.1 = f) with
        | none => rw [hfind] at hbit; simp at hbit
        | some y => rw [hfind] at hbit; exact ⟨y, rfl, hbit⟩
      · rintro ⟨o', ho, h | ⟨-, y, hfind, hbit⟩⟩
        · obtain rfl := Option.some.inj ho
          exact absurd ⟨h.1, h.2.1⟩ hcov
        · obtain rfl := Option.some.inj ho
          rw [hfind]
          exact ⟨List.mem_map.mpr ⟨y, List.mem_of_find?_eq_some hfind,
            of_decide_eq_true (List.find?_some (p := fun r : Nat × KindSet => decide (r.1 = f)) hfind)⟩, hbit⟩

end Sys2Proof.Machine
end

section
/-! SUPPORT. A DIRECTORY from a peer: its checks by offset, and the record it gives (R54, R55, R59). -/

namespace Sys2Proof.Machine

open Sys2Proof

/-! ### The checks -/

theorem holdingFloorsDistinct_iff (l : List (Nat × Nat × Nat)) : holdingFloorsDistinct l = true ↔ (l.map (·.1)).Nodup := by
  induction l with
  | nil => simp [holdingFloorsDistinct]
  | cons h rest ih =>
    rw [holdingFloorsDistinct, Bool.and_eq_true, ih, List.map_cons, List.nodup_cons, List.all_eq_true]
    refine and_congr_left fun _ => ⟨fun hall hmem => ?_, fun hnot g hg => decide_eq_true fun he => hnot ?_⟩
    · obtain ⟨g, hg, he⟩ := List.mem_map.mp hmem
      exact of_decide_eq_true (hall g hg) he
    · exact he ▸ List.mem_map_of_mem hg

theorem mem_holdingsOf {p : List Byte} {h : Nat × Nat × Nat} : h ∈ holdingsOf p ↔ ∃ k < byteAt p 148, holdingAt p k = h := by
  simp [holdingsOf]

theorem forall_mem_holdingsOf {p : List Byte} {P : Nat × Nat × Nat → Prop} :
    (∀ h ∈ holdingsOf p, P h) ↔ ∀ k < byteAt p 148, P (holdingAt p k) := by
  simp [holdingsOf]

theorem role_iff (p : List Byte) (k : Nat) :
    ((byteAt p (150 + 3 * k) = 1 ∨ byteAt p (150 + 3 * k) = 2) ∧ byteAt p (151 + 3 * k) < 64) ∧
      (if byteAt p (150 + 3 * k) = 1 then covers (byteAt p 2) (byteAt p 3) (byteAt p (149 + 3 * k))
        else !(covers (byteAt p 2) (byteAt p 3) (byteAt p (149 + 3 * k)))) = true ↔
    (byteAt p (150 + 3 * k) = 1 ∨ byteAt p (150 + 3 * k) = 2) ∧ byteAt p (151 + 3 * k) < 64 ∧
      (byteAt p (150 + 3 * k) = 1 ↔
        byteAt p 2 ≤ byteAt p (149 + 3 * k) ∧ byteAt p (149 + 3 * k) < byteAt p 2 + byteAt p 3) := by
  rw [and_assoc, ← covers_iff]
  refine and_congr_right fun _ => and_congr_right fun _ => ?_
  by_cases h : byteAt p (150 + 3 * k) = 1
  · rw [if_pos h]
    exact ⟨fun hc => ⟨fun _ => hc, fun _ => h⟩, fun hc => hc.mp h⟩
  · rw [if_neg h, Bool.not_eq_true']
    exact ⟨fun hc => ⟨fun h1 => absurd h1 h, fun h1 => absurd h1 (Bool.eq_false_iff.mp hc)⟩,
      fun hc => Bool.eq_false_iff.mpr fun h1 => h (hc.mpr h1)⟩

theorem directoryGood_iff (p : List Byte) (n : Nat) (hn : n = byteAt p 148) : directoryGood p = true ↔
    p.length = 149 + 3 * n ∧ n ≤ 12 ∧
    byteAt p 0 ≤ 4 ∧ byteAt p 1 ≤ 1 ∧ byteAt p 3 ≤ 4 ∧ byteAt p 2 + byteAt p 3 ≤ 256 ∧
    (∀ k < n, (byteAt p (150 + 3 * k) = 1 ∨ byteAt p (150 + 3 * k) = 2) ∧ byteAt p (151 + 3 * k) < 64 ∧
      (byteAt p (150 + 3 * k) = 1 ↔
        byteAt p 2 ≤ byteAt p (149 + 3 * k) ∧ byteAt p (149 + 3 * k) < byteAt p 2 + byteAt p 3)) ∧
    (∀ j < n, ∀ k < n, j ≠ k → byteAt p (149 + 3 * j) ≠ byteAt p (149 + 3 * k)) ∧
    ((List.range n).filter fun k => decide (byteAt p (150 + 3 * k) = 2)).length ≤ 8 := by
  subst hn
  have hfloors : (holdingsOf p).map (·.1) = (List.range (byteAt p 148)).map fun k => byteAt p (149 + 3 * k) := by
    simp [holdingsOf, holdingAt]
  have hcount : ((holdingsOf p).filter fun h => h.2.1 == 2).length =
      ((List.range (byteAt p 148)).filter fun k => decide (byteAt p (150 + 3 * k) = 2)).length := by
    rw [holdingsOf, List.filter_map, List.length_map]
    refine congrArg List.length (List.filter_congr fun k _ => ?_)
    rw [Function.comp_apply, Bool.eq_iff_iff, beq_iff_eq, decide_eq_true_eq]
    rfl
  have hrows : ((∀ k < byteAt p 148, (byteAt p (150 + 3 * k) = 1 ∨ byteAt p (150 + 3 * k) = 2) ∧ byteAt p (151 + 3 * k) < 64) ∧
      ∀ k < byteAt p 148, (if byteAt p (150 + 3 * k) = 1 then covers (byteAt p 2) (byteAt p 3) (byteAt p (149 + 3 * k))
        else !(covers (byteAt p 2) (byteAt p 3) (byteAt p (149 + 3 * k)))) = true) ↔
      ∀ k < byteAt p 148, (byteAt p (150 + 3 * k) = 1 ∨ byteAt p (150 + 3 * k) = 2) ∧ byteAt p (151 + 3 * k) < 64 ∧
      (byteAt p (150 + 3 * k) = 1 ↔
        byteAt p 2 ≤ byteAt p (149 + 3 * k) ∧ byteAt p (149 + 3 * k) < byteAt p 2 + byteAt p 3) := by
    rw [← forall₂_and]
    exact forall₂_congr fun k _ => role_iff p k
  unfold directoryGood
  simp only [Bool.and_eq_true, Bool.or_eq_true, decide_eq_true_eq, List.all_eq_true, holdingFloorsDistinct_iff, hfloors, hcount,
    forall_mem_holdingsOf, nodup_map_range, holdingAt, ← hrows, and_assoc]
  constructor
  · rintro ⟨-, h1, h2, hrest⟩
    exact ⟨h2, h1, hrest⟩
  · rintro ⟨h2, h1, hrest⟩
    exact ⟨by omega, h1, h2, hrest⟩

/-! ### The record -/

/-- The holdings of a role, by floor. -/
def roleHoldings (p : List Byte) (r : Nat) : List (Nat × KindSet) :=
  ((holdingsOf p).filter (fun h => h.2.1 == r)).map (fun h => (h.1, kindSet h.2.2))

theorem mem_roleHoldings {p : List Byte} {r : Nat} {x : Nat × KindSet} : x ∈ roleHoldings p r ↔
    ∃ k < byteAt p 148, byteAt p (150 + 3 * k) = r ∧ (byteAt p (149 + 3 * k), BitVec.ofNat 6 (byteAt p (151 + 3 * k))) = x := by
  simp only [roleHoldings, List.mem_map, List.mem_filter, mem_holdingsOf, beq_iff_eq]
  constructor
  · rintro ⟨h, ⟨⟨k, hk, rfl⟩, hr⟩, rfl⟩
    exact ⟨k, hk, hr, rfl⟩
  · rintro ⟨k, hk, hr, rfl⟩
    exact ⟨_, ⟨⟨k, hk, rfl⟩, hr⟩, rfl⟩

theorem roleHoldings_nodup {p : List Byte} (h : ∀ j < byteAt p 148, ∀ k < byteAt p 148, j ≠ k →
    byteAt p (149 + 3 * j) ≠ byteAt p (149 + 3 * k)) (r : Nat) : ((roleHoldings p r).map (·.1)).Nodup := by
  have hfloors : ((holdingsOf p).map (·.1)).Nodup := by
    have he : (holdingsOf p).map (·.1) = (List.range (byteAt p 148)).map fun k => byteAt p (149 + 3 * k) := by
      simp [holdingsOf, holdingAt]
    rw [he, nodup_map_range]
    exact h
  rw [roleHoldings, List.map_map]
  exact hfloors.sublist (List.filter_sublist.map _)

/-- What the statement says of the record that a good payload gives (R55). -/
structure DirectoryGiven (p : List Byte) (d : PeerDirectory) : Prop where
  condition : d.condition.code = byteAt p 0
  noConfig : d.noConfig = decide (byteAt p 1 = 1)
  firstFloor : d.firstFloor = byteAt p 2
  floorCount : d.floorCount = byteAt p 3
  floorLabels : ∀ k < byteAt p 3, d.floorLabels[k]? = some (slice p (4 + 4 * k) 4)
  zoneLabels : ∀ k < 16, d.zoneLabels[k]? = some (slice p (20 + 8 * k) 8)
  owned : ∀ k < byteAt p 148, byteAt p (150 + 3 * k) = 1 →
    d.owned[byteAt p (149 + 3 * k) - byteAt p 2]? = some (BitVec.ofNat 6 (byteAt p (151 + 3 * k)))
  replicas : ∀ k < byteAt p 148, byteAt p (150 + 3 * k) = 2 →
    (byteAt p (149 + 3 * k), BitVec.ofNat 6 (byteAt p (151 + 3 * k))) ∈ d.replicas
  sorted : d.replicas.Pairwise fun a b => a.1 ≤ b.1

theorem Condition.code_ofCode {n : Nat} (h : n ≤ 4) : (Condition.ofCode n).code = n := by
  interval_cases n <;> rfl

theorem directoryGiven {p : List Byte} (h : directoryGood p = true) : DirectoryGiven p (directoryOf p) := by
  obtain ⟨-, -, hcondition, -, -, -, hrows, hdistinct, -⟩ := (directoryGood_iff p _ rfl).mp h
  refine
    { condition := Condition.code_ofCode hcondition, noConfig := rfl, firstFloor := rfl, floorCount := rfl
      floorLabels := fun k hk => by simp [directoryOf, hk]
      zoneLabels := fun k hk => by simp [directoryOf, hk]
      owned := fun k hk hr => ?_
      replicas := fun k hk hr => (sortByFloor_perm _).mem_iff.mpr (mem_roleHoldings.mpr ⟨k, hk, hr, rfl⟩)
      sorted := sortByFloor_sorted _ }
  obtain ⟨-, -, hcovers⟩ := hrows k hk
  obtain ⟨hlow, hhigh⟩ := hcovers.mp hr
  have hkinds : kindsAt (roleHoldings p 1) (byteAt p (149 + 3 * k)) = BitVec.ofNat 6 (byteAt p (151 + 3 * k)) :=
    kindsAt_of_mem (roleHoldings_nodup hdistinct 1) (mem_roleHoldings.mpr ⟨k, hk, hr, rfl⟩)
  have howned : (directoryOf p).owned =
      (List.range (byteAt p 3)).map fun j => kindsAt (roleHoldings p 1) (byteAt p 2 + j) := rfl
  rw [howned, List.getElem?_map, List.getElem?_range (by omega), Option.map_some, Nat.add_sub_cancel' hlow, hkinds]

/-! ### The frame -/

theorem takeDirectory_good {p : List Byte} (h : directoryGood p = true) (x : Nat) (s : State) :
    takeDirectory x p s = frameHeard x (.directory (directoryOf p)) s := by rw [takeDirectory, if_pos h]

theorem takeDirectory_bad {p : List Byte} (h : directoryGood p = false) (x : Nat) (s : State) : takeDirectory x p s =
    (frameHeard x .other s).modPeers fun t => { t with rejectedDirectories := countUp t.rejectedDirectories } := by
  rw [takeDirectory, h]; rfl

section

variable {x : Nat} {d : PeerDirectory} {s : State}

/-- A DIRECTORY that says what the last one said, of a PRESENT peer, changes no claim (R59). -/
theorem changesClaims_directory_iff : changesClaims (s.peer x) (.directory d) = false ↔
    (s.peer x).presence = .present ∧ ∃ o, (s.peer x).directory = some o ∧ o.firstFloor = d.firstFloor ∧
      o.floorCount = d.floorCount ∧ o.owned = d.owned ∧ o.replicas = d.replicas := by
  rw [changesClaims, Bool.or_eq_false_iff, decide_eq_false_iff_not, decide_eq_false_iff_not, not_not, not_not,
    Option.map_eq_some_iff]
  simp only [PeerDirectory.claimFields, Prod.mk.injEq]

/-- The labels of the floors that its sender owns are taken again (R40, R55). -/
theorem frameHeard_directory_labels : LabelsFollow (some (.peer x)) s (frameHeard x (.directory d) s) := by
  refine frameHeard_labels _ fun u f hf => ?_
  have htest : (fun (_ : Nat) (src : Source) => decide (src = .peer x)) = fun _ src => decide (some (Source.peer x) = some src) := by
    funext _ src
    exact decide_eq_decide.mpr ⟨fun h => by rw [h], fun h => (Option.some.inj h).symm⟩
  rw [contentLabels, givenFor_ownerLabels _ u hf, htest]

theorem frameHeard_directory_entry (hx : x ≤ 62) {l : Nat} (hl : l ≤ 15) {label : Text} (hlabel : d.zoneLabels[l]? = some label) :
    (frameHeard x (.directory d) s).entry x l = { s.entry x l with
      label := some label
      stale := (s.entry x l).stale && decide ((s.peer x).presence ≠ .lost) } := by
  rw [frameHeard_entry_directory hx d hl, if_pos rfl, List.getD_eq_getElem?_getD, hlabel, State.entryHeard, decide_eq_true rfl,
    Bool.true_and, ← decide_not]
  rfl

end

end Sys2Proof.Machine

open Sys2Proof Sys2Proof.Machine

/-- Settles O34: the frame's record, labels and rows are those of the state in which it is accepted; the tables' own
statements are the definitions of the claims, the rows, the holdings and the candidates, read off. -/
theorem directoryReplacesRecord : Obligations.DirectoryReplacesRecord := by
  refine ⟨fun x payload s h => ?_, directoryGood_iff, rfl, fun s => ?_, fun claims further f => ?_, fun image sheets o ho => ?_,
    fun s f kind row itself hrow hitself => ?_⟩
  · have hx := isPeer_le h.2.2
    have hexec : exec (.directory x 63#8 payload) s = .next (settle s (takeDirectory x.toNat payload
        (s.accepted .routine x.toNat false))) := broadcast_taken h (kind := .directory) payload _ rfl
    rw [hexec]
    refine ⟨fun hgood => ?_, fun hbad => ⟨_, frameHeard_isHeard .routine false h.2.2, ?_⟩⟩
    · rw [takeDirectory_good hgood]
      obtain ⟨d, hd⟩ : ∃ d, d = directoryOf payload := ⟨_, rfl⟩
      have hgiven : DirectoryGiven payload d := hd ▸ directoryGiven hgood
      rw [← hd]
      have hparts := partsKept_frameHeard x.toNat (.directory d) (s.accepted .routine x.toNat false)
      obtain ⟨hzones, hrlc, -⟩ := frameHeard_calm (x := x.toNat) (s := s.accepted .routine x.toNat false)
        (content := .directory d) (by simp)
      have hlabels := labelsFollow_accepted
        (frameHeard_directory_labels (x := x.toNat) (d := d) (s := s.accepted .routine x.toNat false))
      have hpeer := frameHeard_peer_same (content := .directory d) (s := s.accepted .routine x.toNat false) hx
      refine ⟨_, d, rfl, hpeer, hgiven.condition, hgiven.noConfig, hgiven.firstFloor, hgiven.floorCount, hgiven.floorLabels,
        hgiven.zoneLabels, hgiven.owned, hgiven.replicas, hgiven.sorted, fun l hl => ?_, fun same hsame => ⟨fun hn f hf => ?_,
        fun hy => ?_⟩, hparts.own, fun y _ hy => frameHeard_peer_ne (s := s.accepted .routine x.toNat false) hy, hlabels,
        fun hlaw hlost p hp hroom => ?_, fun k hk hf howner => ?_, fun o _ ho l hl => ?_,
        fun f hf => frameHeard_attendance x.toNat (.directory d) (s.accepted .routine x.toNat false) hf, hrlc, hzones,
        hparts.store, hparts.ste, hparts.marks, hparts.portA, hparts.portB, hparts.clock, hparts.pending⟩
      · exact frameHeard_directory_entry (s := s.accepted .routine x.toNat false) hx hl
          (hgiven.zoneLabels l (Nat.lt_succ_of_le hl))
      · refine frameHeard_row (content := .directory d) (s := s.accepted .routine x.toNat false) ?_ hf
        exact Bool.eq_true_of_not_eq_false fun hc => hn (hsame.mpr (changesClaims_directory_iff.mp hc))
      · exact frameHeard_holders (content := .directory d) (s := s.accepted .routine x.toNat false)
          (changesClaims_directory_iff.mpr (hsame.mp hy))
      · exact frameHeard_station (s := s.accepted .routine x.toNat false) (by simp)
          (blind_summaryLaw.rlc (fun _ => (s.accepted .routine x.toNat false).rlc) s hlaw) hlost
          (by cases p <;> exact hp) (by cases p <;> exact hroom)
      · refine hlabels.fromPeer _ hf x.toNat d _ howner (.inr rfl) (by rw [hpeer]; rfl) ?_ ?_ ?_
        · rw [hgiven.firstFloor]; omega
        · rw [hgiven.firstFloor, hgiven.floorCount]; omega
        · rw [hgiven.firstFloor, Nat.add_sub_cancel_left]
          exact hgiven.floorLabels k hk
      · exact (frameHeard_entry_directory (s := s.accepted .routine x.toNat false) hx d hl).trans (if_neg ho)
    · have hpeers := (frameHeard_isHeard .routine false h.2.2).peers
      rw [takeDirectory_bad hbad, State.modPeers, hpeers]
      rfl
  · intro rank
    exact ⟨fun x => mem_allClaims, allClaims_ascending s⟩
  · intro owns kinds
    have howns : ∀ x : Claim, x.owns f = owns x := fun x => Claim.owns_eq x f
    have hholder : ∀ x : Claim, x.holder f = { source := x.source, kinds := kinds x } := fun x => by
      rw [Claim.holder, Claim.kinds_eq, howns]
    refine ⟨fun lower x higher hc hx hlower => ?_, fun hnone => ?_, fun hfurther => ?_⟩
    · rw [rowFrom_owner, hc, List.find?_append, List.find?_eq_none.mpr fun y hy => by simp [howns, hlower y hy], Option.none_or,
        List.find?_cons_of_pos (p := fun y : Claim => y.owns f) ((howns x).trans hx), Option.map_some, hholder]
    · rw [rowFrom_owner, List.find?_eq_none.mpr fun y hy => by simp [howns, hnone y hy]]
      rfl
    · rw [rowFrom_replicas, hfurther]
      simp only [Claim.claims_eq, howns]
      exact List.map_congr_left fun x _ => hholder x
  · subst ho
    intro holds
    refine ⟨fun hi => by rw [hi]; rfl, fun h hi => ?_⟩
    subst hi
    obtain ⟨hlen, howned, hfloors, hsorted, hreplicas⟩ := ownHoldingsOf_some h sheets
    exact ⟨rfl, rfl, hlen, howned, hfloors, hsorted, hreplicas⟩
  · intro others
    subst hrow
    have hself : itself = s.holdsItself f kind := by rw [Bool.eq_iff_iff, hitself, holdsItself_iff]
    rw [hself, candidates_eq]
    rfl
end

section
/-! SUPPORT. The Mark Handler's service of the crew ports (R64, R65, R71), and the records of a response by offset (8.2). -/

namespace Sys2Proof.Machine

open Sys2Proof

/-! ### Bytes -/

theorem byte_toNat (b : Byte) : byte b.toNat = b := by
  rw [byte, BitVec.ofNat_toNat, BitVec.setWidth_eq]

theorem byteAt_cons_zero (b : Byte) (l : List Byte) : byteAt (b :: l) 0 = b.toNat := rfl

/-- A two-byte field read back (0.7). -/
theorem halfAt_be16 {n : Nat} (h : n < 65536) (l : List Byte) : halfAt (be16 n ++ l) 0 = n := by
  have hbyte : ∀ m, (byte m).toNat = m % 256 := fun m => BitVec.toNat_ofNat ..
  simp only [halfAt, be16, byteAt, List.cons_append, List.nil_append, List.getD_cons_zero, List.getD_cons_succ, hbyte]
  omega

/-! ### The CONTROL queue's answer (R90) -/

theorem answer_queued {r : RiserLink} (hb : r.blocks.any = false) (hc : r.control.length < 8) : r.answer = .queued := by
  rw [RiserLink.answer, hb, if_neg Bool.noConfusion, if_neg (by simpa [controlLimit] using hc)]

theorem answer_refused {r : RiserLink} (h : r.blocks.any = true ∨ 8 ≤ r.control.length) : r.answer ≠ .queued := by
  unfold RiserLink.answer
  split
  · exact fun he => nomatch he
  · rename_i hb
    rw [if_pos (show controlLimit ≤ _ from h.resolve_left hb)]
    exact fun he => nomatch he

theorem submit_queued {r : RiserLink} (h : r.answer = .queued) (kind : FrameKind) (dest : Nat) (payload : List Byte)
    (who : Submitter) : r.submit kind dest payload who = { r with
      control := r.control ++ [{ kind := kind, dest := dest, payload := payload, submitter := who, withdrawn := false }] } := by
  rw [RiserLink.submit, h]

theorem submit_refused {r : RiserLink} (h : r.answer ≠ .queued) (kind : FrameKind) (dest : Nat) (payload : List Byte)
    (who : Submitter) : r.submit kind dest payload who = r := by
  unfold RiserLink.submit
  split
  · rename_i hq
    exact absurd hq h
  · rfl
  · rfl

theorem submitMark_queued {s : State} (h : s.rlc.answer = .queued) (payload : List Byte) :
    submitMark payload s = s.queueControl .mark 63 payload .mark := by
  rw [submitMark, if_pos h, State.modRlc, submit_queued h]
  rfl

theorem submitMark_refused {s : State} (h : s.rlc.answer ≠ .queued) (payload : List Byte) :
    submitMark payload s = s.modMarks MarkCounts.oneNotSent := by
  rw [submitMark, if_neg h]
  exact congrArg (fun r => { s.modMarks MarkCounts.oneNotSent with rlc := r }) (submit_refused h ..)

theorem submitMark_picture (payload : List Byte) (s : State) : (submitMark payload s).picture = s.picture := by
  unfold submitMark
  split <;> rfl

/-- A mark submitted changes the queue or its count, and no more. -/
theorem submitMark_rest (payload : List Byte) (s : State) :
    { submitMark payload s with rlc := s.rlc, marks := s.marks } = s := by
  unfold submitMark
  split <;> rfl

/-! ### A crew mark answered -/

/-- What the statements say of the state `u` in which port `p` has its answer to a mark made in state `s`. -/
structure MarkMade (p : Port) (payload : List Byte) (s u : State) : Prop where
  queued : s.rlc.blocks.any = false ∧ s.rlc.control.length < 8 →
    u.rlc = (s.queueControl .mark 63 payload .mark).rlc ∧ u.marks = s.marks
  refused : s.rlc.blocks.any = true ∨ 8 ≤ s.rlc.control.length →
    u.rlc = s.rlc ∧ u.marks = { s.marks with notSent := min 65535 (s.marks.notSent + 1) }
  zones : u.zones = s.zones
  peers : u.peers = s.peers
  store : u.store = s.store
  ste : u.ste = s.ste
  otherPort : ∀ q, q ≠ p → u.port q = s.port q
  clock : u.clock = s.clock
  pending : u.pending = s.pending
  address : u.address = s.address

/-- An event of the picture that leaves the lines and the link, a mark submitted after it, and an answer. -/
theorem markMade {p : Port} {s w : State} (hw : RestKept (s.hunting p) w) (hz : w.zones = s.zones) (hrlc : w.rlc = s.rlc)
    (payload : List Byte) (parts : List (List Byte)) : MarkMade p payload s ((submitMark payload w).answer p parts) := by
  have hmarks : w.marks = s.marks := hw.marks.trans (State.modPort_marks ..)
  have hrest := submitMark_rest payload w
  have hother : ∀ q, q ≠ p → w.port q = s.port q := fun q hq => by
    have hport : w.port q = (s.hunting p).port q := by
      cases q with
      | a => exact hw.portA
      | b => exact hw.portB
    exact hport.trans (State.modPort_port_ne hq ..)
  generalize hv : submitMark payload w = v at hrest
  refine
    { queued := fun h => ?_, refused := fun h => ?_
      zones := ?_, peers := ?_, store := ?_, ste := ?_, otherPort := fun q hq => ?_, clock := ?_, pending := ?_, address := ?_ }
  · rw [← hrlc] at h
    rw [State.answer, State.modPort_rlc, State.modPort_marks, ← hv, submitMark_queued (answer_queued h.1 h.2)]
    exact ⟨congrArg (fun r : RiserLink => (({ s with rlc := r } : State).queueControl .mark 63 payload .mark).rlc) hrlc, hmarks⟩
  · rw [← hrlc] at h
    rw [State.answer, State.modPort_rlc, State.modPort_marks, ← hv, submitMark_refused (answer_refused h)]
    exact ⟨hrlc, congrArg MarkCounts.oneNotSent hmarks⟩
  · exact (State.modPort_zones ..).trans ((congrArg State.zones hrest).trans hz)
  · exact (State.modPort_peers ..).trans ((congrArg State.peers hrest).trans (hw.peers.trans (State.modPort_peers ..)))
  · exact (State.modPort_store ..).trans ((congrArg State.store hrest).trans (hw.store.trans (State.modPort_store ..)))
  · exact (State.modPort_ste ..).trans ((congrArg State.ste hrest).trans (hw.ste.trans (State.modPort_ste ..)))
  · refine (State.modPort_port_ne hq ..).trans (Eq.trans ?_ (hother q hq))
    have hA := congrArg State.portA hrest
    have hB := congrArg State.portB hrest
    cases q with
    | a => exact hA
    | b => exact hB
  · exact (State.modPort_clock ..).trans ((congrArg State.clock hrest).trans (hw.clock.trans (State.modPort_clock ..)))
  · exact (State.modPort_pending ..).trans ((congrArg State.pending hrest).trans (hw.pending.trans (State.modPort_pending ..)))
  · exact (State.modPort_address ..).trans ((congrArg State.address hrest).trans (hw.address.trans (State.modPort_address ..)))

/-! ### The state that a request is served in -/

section

variable (p : Port) (s : State)

theorem hunting_picture : (s.hunting p).picture = s.picture := State.modPort_picture ..

theorem hunting_entry (o l : Nat) : (s.hunting p).entry o l = s.entry o l := State.slot_congr (hunting_picture p s) _

theorem hunting_floor (f : Nat) : (s.hunting p).floor f = s.floor f := State.floor_congr (hunting_picture p s) f

theorem hunting_address : (s.hunting p).address = s.address := State.modPort_address ..

theorem hunting_peers : (s.hunting p).peers = s.peers := State.modPort_peers ..

theorem hunting_clock : (s.hunting p).clock = s.clock := State.modPort_clock ..

theorem hunting_zones : (s.hunting p).zones = s.zones := State.modPort_zones ..

theorem hunting_rlc : (s.hunting p).rlc = s.rlc := State.modPort_rlc ..

theorem hunting_label : ((s.hunting p).port p).label = (s.port p).label := by rw [State.hunting_port]

end

theorem presenceCode_congr {s t : State} (ha : t.address = s.address) (hp : t.peers = s.peers) (a : Nat) :
    t.presenceCode a = s.presenceCode a := by
  rw [State.presenceCode, State.presenceCode, ownOrigin_of_address ha, ha, State.peer, State.peer, hp]

theorem entryBytes_congr {s t : State} (hc : t.clock = s.clock) (ha : t.address = s.address) (hp : t.peers = s.peers)
    (o l : Nat) : t.entryBytes o l = entryRecord s.clock o l (s.presenceCode o) (t.entry o l) := by
  rw [State.entryBytes, hc, presenceCode_congr ha hp]

theorem answer_picture (p : Port) (parts : List (List Byte)) (s : State) : (s.answer p parts).picture = s.picture :=
  State.modPort_picture ..

theorem validAddress_iff (a : Nat) : validAddress a = true ↔ 1 ≤ a ∧ a ≤ 62 := by
  rw [validAddress, Bool.and_eq_true, decide_eq_true_eq, decide_eq_true_eq]

theorem validAddress_not {a : Nat} (h : a = 0 ∨ 63 ≤ a) : validAddress a = false :=
  Bool.eq_false_iff.mpr fun hv => by
    have := (validAddress_iff a).mp hv
    omega

/-! ### ACK -/

section

variable {p : Port} {station line : Byte} {change : Half} {s : State}

/-- A request of a kind that needs no label, in form, is handed to its block (R151). -/
theorem dispatch_served {p : Port} {r : Request} {s : State} {k : RequestKind} (hk : s.kindServed p r.kind.toNat = some k)
    (hf : k.formatGood r.body = true) (hl : k.needsLabel = false) : dispatch p r s = serveKind p r.body s k := by
  unfold dispatch
  rw [hk]
  dsimp only
  rw [hf, hl]
  rfl

theorem dispatch_ack (p : Port) {body : List Byte} (h : body.length = 4) (s : State) : dispatch p { kind := 8, body := body } s =
    answerWith p 0x08 (takeAck p (byteAt body 0) (byteAt body 1) (halfAt body 2) s) :=
  dispatch_served (k := .ack) rfl (decide_eq_true h) rfl

/-- An ACK taken at once is answered as the Mark Handler answers it (R151). -/
theorem exec_ack (h : Ready p s) {w : State} {result : Result} {fields : List Byte}
    (ht : takeAck p station.toNat line.toNat change.toNat (s.hunting p) = (w, result, fields)) {part : List Byte}
    (hpart : [0x08#8, byte result.code, 1#8, 1#8] ++ fields = part) :
    exec (.ack p station line change) s = .next (settle s (w.answer p [part])) := by
  subst hpart
  refine crewEvent_ready h 0x08 (body := [station, line] ++ be16 change.toNat) (show 4 ≤ 299 by decide) ?_
    (.inr (by rw [State.answer_slot]; exact List.cons_ne_nil _ _))
  have hchange : halfAt ([station, line] ++ be16 change.toNat) 2 = change.toNat := halfAt_be16 change.isLt []
  rw [dispatch_ack p rfl, hchange]
  exact congrArg (answerWith p 0x08) ht

/-! ### What an ACK is answered -/

section

variable {t : State} {e : ZoneEntry} {st ln ch : Nat}

theorem takeAck_noLabel (h : (t.port p).label = none) : takeAck p st ln ch t = (t, .noLabel, []) := by rw [takeAck, h]

variable {label : Text} (h : (t.port p).label = some label)

include h

theorem takeAck_noPath (ha : validAddress t.address = false) : takeAck p st ln ch t = (t, .noPath, []) := by
  rw [takeAck, h]
  dsimp only
  rw [ha]
  rfl

theorem takeAck_noZone (ha : validAddress t.address = true)
    (hz : validAddress st = false ∨ 15 < ln ∨ (t.entry st ln).known = false) :
    takeAck p st ln ch t = (t, .noZone, []) := by
  rw [takeAck, h]
  dsimp only
  rw [ha, Bool.not_true, if_neg Bool.noConfusion, if_pos]
  rcases hz with hz | hz | hz <;> simp [hz]

variable (ha : validAddress t.address = true) (hs : validAddress st = true) (hl : ln ≤ 15) (he : t.entry st ln = e)
  (hk : e.known = true)

include ha hs hl he hk

theorem takeAck_notAlarm (hi : e.zstate.inEpisode = false) :
    takeAck p st ln ch t = (t, .notAlarm, t.entryBytes st ln) := by
  simp [takeAck, h, he, ha, hs, hk, Nat.not_lt.mpr hl, hi]

theorem takeAck_changed (hi : e.zstate.inEpisode = true) (hc : e.changeNumber ≠ ch) :
    takeAck p st ln ch t = (t, .changed, t.entryBytes st ln) := by
  simp [takeAck, h, he, ha, hs, hk, Nat.not_lt.mpr hl, hi, hc]

theorem takeAck_already (hi : e.zstate.inEpisode = true) (hc : e.changeNumber = ch) {a : Ack} (hack : e.ack = some a) :
    takeAck p st ln ch t = (t, .already, padTo 8 a.label ++ [byte a.station, byte (ackPortCode e.ack)]) := by
  simp [takeAck, h, he, ha, hs, hk, Nat.not_lt.mpr hl, hi, hc, hack]

theorem takeAck_accepted (hi : e.zstate.inEpisode = true) (hc : e.changeNumber = ch) (hack : e.ack = none) :
    takeAck p st ln ch t = (acceptAck p label st ln ch t, markResult .acked t.rlc.answer,
      (acceptAck p label st ln ch t).entryBytes st ln) := by
  simp [takeAck, h, he, ha, hs, hk, Nat.not_lt.mpr hl, hi, hc, hack]

end

theorem ackPort_byte {e : ZoneEntry} {a : Ack} (hack : e.ack = some a) : byte (ackPortCode e.ack) =
    if a.port = some .a then 1#8 else if a.port = some .b then 2#8 else 0#8 := by
  obtain ⟨label, station, port, change⟩ := a
  rw [hack]
  rcases port with _ | _ | _ <;> rfl

end

/-! ### The records (8.2) -/

theorem summaryRecord_eq (f : Nat) (x : FloorSummary) : summaryRecord f x =
    [byte f] ++ padTo 4 (x.label.getD []) ++ [byte x.counts.worst.code, byte (min 255 x.counts.fire),
      byte (min 255 x.counts.pending), byte (min 255 x.counts.clearing), byte (min 255 x.counts.supervisory),
      byte (min 255 x.counts.trouble), byte (min 255 x.counts.stale),
      byte ((if x.counts.anyRecurring then 1 else 0) + (if x.counts.anyLineLost then 2 else 0) +
        (if x.label = none then 0 else 4)), byte x.attendance.length] ++ be16 x.changeNumber := by
  have hlabel : bit 2 x.label.isSome = if x.label = none then 0 else 4 := by cases x.label <;> rfl
  rw [summaryRecord, hlabel]
  simp only [List.append_assoc, List.cons_append, List.nil_append]
  rfl

theorem bit_isSome {α : Type} (i : Nat) (o : Option α) [Decidable (o = none)] :
    bit i o.isSome = if o = none then 0 else 2 ^ i := by
  cases o <;> simp [bit]

theorem alarmAge_eq {now : Nat} {e : ZoneEntry} {age : Option Nat}
    (h : age = if e.zstate = .alarm ∨ e.zstate = .clearing then
        (match e.age with
          | .absent => none
          | .own start => some (min 65535 ((now - start) / 1000))
          | .remote reported receipt => some (min 65535 (reported + (now - receipt) / 1000)))
      else none) : e.alarmAge now = age := by
  rw [h, ZoneEntry.alarmAge]
  refine if_congr ?_ ?_ rfl
  · simp [ZoneState.inEpisode]
  · cases e.age <;> rfl

theorem entryRecord_known {now origin line presence : Nat} {e : ZoneEntry} {age : Option Nat} (hage : e.alarmAge now = age)
    (h : e.known = true) : entryRecord now origin line presence e =
      [byte origin, byte line, byte e.floor, byte e.ztype.code, byte e.zstate.code,
        if e.trouble = some .openLoop then 1#8 else if e.trouble = some .short then 2#8 else 0#8,
        byte ((if e.recurring then 1 else 0) + (if e.lineLost then 2 else 0) + (if e.boosted then 4 else 0) +
          (if e.stale then 8 else 0) + (if e.ack = none then 0 else 16) + (if age = none then 0 else 32) +
          (if e.label = none then 0 else 64)), byte e.repeatCount, byte e.transientCount,
        match e.ack with
          | none => 0#8
          | some a => if a.port = some .a then 1#8 else if a.port = some .b then 2#8 else 0#8] ++
        be16 e.resistance ++ be16 e.changeNumber ++ be16 (age.getD 0) ++
        be16 (match e.lastHeard with | none => 0 | some t => min 65535 ((now - t) / 1000)) ++
        padTo 8 (e.label.getD []) ++
        (match e.ack with
          | none => List.replicate 8 0x20#8 ++ [0#8]
          | some a => padTo 8 a.label ++ [byte a.station]) ++ [byte presence] := by
  have htrouble : byte (troubleCode e.trouble) =
      if e.trouble = some .openLoop then 1#8 else if e.trouble = some .short then 2#8 else 0#8 := by
    rcases e.trouble with _ | _ | _ <;> rfl
  have hflags : entryFlags now e = (if e.recurring then 1 else 0) + (if e.lineLost then 2 else 0) +
      (if e.boosted then 4 else 0) + (if e.stale then 8 else 0) + (if e.ack = none then 0 else 16) +
      (if age = none then 0 else 32) + (if e.label = none then 0 else 64) := by
    rw [entryFlags, if_pos h, hage, bit_isSome, bit_isSome, bit_isSome]
    rfl
  rw [entryRecord, if_pos h, htrouble, hflags, hage]
  cases hack : e.ack with
  | none => simp only [List.append_assoc, List.cons_append, List.nil_append]; rfl
  | some a =>
    rw [← hack, ackPort_byte hack, hack]
    simp only [List.append_assoc, List.cons_append, List.nil_append]
    rfl

theorem entryRecord_empty {e : ZoneEntry} (now origin line presence : Nat) (h : e.known = false) :
    entryRecord now origin line presence e =
      [byte origin, byte line, 0#8, 0#8, 0#8, 0#8, if e.label = none then 128#8 else 192#8] ++ List.replicate 11 0#8 ++
        padTo 8 (e.label.getD []) ++ List.replicate 10 0#8 := by
  have hflags : byte (entryFlags now e) = if e.label = none then 128#8 else 192#8 := by
    rw [entryFlags, h, if_neg Bool.noConfusion]
    cases e.label <;> rfl
  rw [entryRecord, h, if_neg Bool.noConfusion, hflags]
  rfl

/-! ### The picture after an acknowledgement, and the answers' codes -/

theorem placeAck_floor (o l : Nat) (a : Ack) (s : State) {f : Nat} (hf : f < 256) :
    ((placeAck o l a s).floor f).label = (s.floor f).label ∧
    ((placeAck o l a s).floor f).attendance = (s.floor f).attendance :=
  ⟨pictureEvent_label _ [] [] s hf, pictureEvent_attendance _ [] s hf⟩

theorem markResult_queued {r : RiserLink} (h : r.blocks.any = false ∧ r.control.length < 8) (result : Result) :
    markResult result r.answer = result := by rw [answer_queued h.1 h.2]; rfl

theorem markResult_refused {r : RiserLink} (h : r.blocks.any = true ∨ 8 ≤ r.control.length) (result : Result) :
    markResult result r.answer = .localOnly := by
  have hne := answer_refused h
  cases ha : r.answer with
  | queued => exact absurd ha hne
  | queueFull => rfl
  | noPath => rfl

theorem markPayload_eq (kind : Nat) (label : Text) (station : Nat) (p : Port) (target line : Byte) (change : Nat) :
    markPayload kind label station p target.toNat line.toNat change =
      [byte kind] ++ padTo 8 label ++ [byte station, if p = .a then 1#8 else 2#8, target, line] ++ be16 change := by
  rw [markPayload, byte_toNat, byte_toNat]
  cases p <;> rfl

/-- An ACK accepted and answered (R65). -/
theorem ack_made {p : Port} {station line : Byte} {change : Half} {s : State} {label : Text} (hst : station.toNat ≤ 62)
    (hln : line.toNat ≤ 15) {parts : List (List Byte)} {u : State}
    (hu : u = (acceptAck p label station.toNat line.toNat change.toNat (s.hunting p)).answer p parts) :
    MarkMade p ([1#8] ++ padTo 8 label ++ [byte s.address, if p = .a then 1#8 else 2#8, station, line] ++ be16 change.toNat)
      s u ∧
    u.entry station.toNat line.toNat = { s.entry station.toNat line.toNat with
      ack := some { label := label, station := s.address, port := some p, change := change.toNat } } ∧
    (∀ o ≤ 62, ∀ l ≤ 15, (o, l) ≠ (station.toNat, line.toNat) → u.entry o l = s.entry o l) ∧
    (∀ f < 256, (u.floor f).label = (s.floor f).label ∧ (u.floor f).attendance = (s.floor f).attendance) ∧
    (acceptAck p label station.toNat line.toNat change.toNat (s.hunting p)).entryBytes station.toNat line.toNat =
      entryRecord s.clock station.toNat line.toNat (s.presenceCode station.toNat) (u.entry station.toNat line.toNat) := by
  rw [acceptAck, markPayload_eq, hunting_address] at hu ⊢
  obtain ⟨a, ha⟩ : ∃ a : Ack, a = { label := label, station := s.address, port := some p, change := change.toNat } := ⟨_, rfl⟩
  rw [← ha] at hu ⊢
  obtain ⟨w, hw⟩ : ∃ w, w = placeAck station.toNat line.toNat a (s.hunting p) := ⟨_, rfl⟩
  rw [← hw] at hu ⊢
  have hrest : RestKept (s.hunting p) w := hw ▸ restKept_placeAck ..
  obtain ⟨hzones, hrlc⟩ := placeAck_quiet station.toNat line.toNat a (s.hunting p)
  rw [← hw] at hzones hrlc
  have hmade := markMade hrest (hzones.trans (hunting_zones p s)) (hrlc.trans (hunting_rlc p s))
  have hpicture : u.picture = w.picture := by
    rw [hu, answer_picture, submitMark_picture]
  have hentry : ∀ o l, u.entry o l = w.entry o l := fun o l => State.slot_congr hpicture _
  have hplaced : ∀ o, ∀ l ≤ 15, w.entry o l =
      if (o, l) = (station.toNat, line.toNat) then (s.entry o l).acked a else s.entry o l := fun o l hl => by
    rw [hw, placeAck_entry hst hln hl, hunting_entry]
  have hm := hmade ([byte 1] ++ padTo 8 label ++ [byte s.address, if p = .a then 1#8 else 2#8, station, line] ++
    be16 change.toNat) parts
  rw [← hu] at hm
  refine ⟨hm, ?_, fun o _ l hl hne => ?_, fun f hf => ?_, ?_⟩
  · rw [hentry, hplaced _ _ hln, if_pos rfl]
    rfl
  · rw [hentry, hplaced _ _ hl, if_neg hne]
  · rw [State.floor_congr hpicture, hw, ← hunting_floor p s]
    exact placeAck_floor _ _ _ _ hf
  · have hsent := submitMark_rest ([byte 1] ++ padTo 8 label ++ [byte s.address, if p = .a then 1#8 else 2#8, station, line] ++
      be16 change.toNat) w
    generalize hv : submitMark _ w = v at hsent hu
    have hclock := congrArg State.clock hsent
    have haddress := congrArg State.address hsent
    have hpeers := congrArg State.peers hsent
    have hsame : v.entry station.toNat line.toNat = u.entry station.toNat line.toNat := by
      rw [hu]
      exact (State.slot_congr (answer_picture p parts v) _).symm
    rw [← hsame]
    exact entryBytes_congr (hclock.trans (hrest.clock.trans (hunting_clock p s)))
      (haddress.trans (hrest.address.trans (hunting_address p s))) (hpeers.trans (hrest.peers.trans (hunting_peers p s))) _ _

end Sys2Proof.Machine

open Sys2Proof Sys2Proof.Machine

/-- Settles O53: the tests of R64 in their order, on the state in which the request is served; the acknowledgement placed is an
event of the picture that lets no line boost. -/
theorem ackPlacesAcknowledgement : Obligations.AckPlacesAcknowledgement := by
  refine ⟨fun p station line change s h e record hready hh he hrecord => ?_, fun f x one hone => ?_, rfl,
    fun now origin line presence e age hage => ⟨entryRecord_known (alarmAge_eq hage), entryRecord_empty now origin line presence⟩⟩
  · intro cmd
    have hentry : h.entry station.toNat line.toNat = e := by rw [hh, hunting_entry, he]
    have haddress : h.address = s.address := by rw [hh, hunting_address]
    have hbytes : h.entryBytes station.toNat line.toNat = record e := by
      rw [hrecord, hh, entryBytes_congr (hunting_clock p s) (hunting_address p s) (hunting_peers p s), hunting_entry, he]
    subst hh
    refine ⟨fun hnone => ?_, fun label hlabel => ?_⟩
    · exact exec_ack hready (takeAck_noLabel ((hunting_label p s).trans hnone)) rfl
    · have hl : ((s.hunting p).port p).label = some label := (hunting_label p s).trans hlabel
      refine ⟨fun ha => exec_ack hready (takeAck_noPath hl ?_) rfl, fun h1 h2 => ?_⟩
      · rw [haddress]
        exact validAddress_not ha
      have hvalid : validAddress (s.hunting p).address = true := by
        rw [haddress]
        exact (validAddress_iff _).mpr ⟨h1, h2⟩
      refine ⟨fun hz => exec_ack hready (takeAck_noZone hl hvalid ?_) rfl, fun hs1 hs2 hline hknown => ?_⟩
      · rw [hentry]
        rcases hz with hz | hz | hz | hz
        · exact .inl (by rw [hz]; rfl)
        · exact .inl (validAddress_not (.inr hz))
        · exact .inr (.inl hz)
        · exact .inr (.inr hz)
      have hstation : validAddress station.toNat = true := (validAddress_iff _).mpr ⟨hs1, hs2⟩
      refine ⟨fun hna hnc => ?_, fun hstate => ?_⟩
      · rw [← hbytes]
        exact exec_ack hready (takeAck_notAlarm hl hvalid hstation hline hentry hknown
          (by simp [ZoneState.inEpisode, hna, hnc])) rfl
      have hepisode : e.zstate.inEpisode = true := by
        rcases hstate with hs | hs <;> simp [ZoneState.inEpisode, hs]
      refine ⟨fun hchange => ?_, fun hchange => ⟨fun a hack => ?_, fun hack => ?_⟩⟩
      · rw [← hbytes]
        exact exec_ack hready (takeAck_changed hl hvalid hstation hline hentry hknown hepisode hchange) rfl
      · exact exec_ack hready (takeAck_already hl hvalid hstation hline hentry hknown hepisode hchange hack)
          (by rw [ackPort_byte hack, List.append_assoc]; rfl)
      · have hexec := exec_ack hready (takeAck_accepted hl hvalid hstation hline hentry hknown hepisode hchange hack) rfl
        generalize hu : State.answer p _ (acceptAck p label station.toNat line.toNat change.toNat (s.hunting p)) = u at hexec
        have hslot : (u.port p).responseSlot = _ := (congrArg (fun t : State => (t.port p).responseSlot) hu.symm).trans
          (State.answer_slot ..)
        obtain ⟨hm, hplaced, hothers, hfloors, hanswer⟩ := ack_made hs2 hline hu.symm
        rw [hanswer, hunting_rlc] at hslot
        refine ⟨u, hexec, by rw [he]; exact hplaced, hothers, fun hq => ⟨(hm.queued hq).1, (hm.queued hq).2, ?_⟩,
          fun hr => ⟨(hm.refused hr).1, (hm.refused hr).2, ?_⟩, hfloors, hm.zones, hm.peers, hm.store, hm.ste, hm.otherPort,
          hm.clock, hm.pending⟩
        · rw [hslot, markResult_queued hq, hrecord]
          rfl
        · rw [hslot, markResult_refused hr, hrecord]
          rfl
  · subst hone
    exact summaryRecord_eq f x
end

section
/-! SUPPORT. A crew member's ATTEND (R41, R47, R71). -/

namespace Sys2Proof.Machine

open Sys2Proof

theorem dispatch_attend (p : Port) {body : List Byte} (h : body.length = 2) (hon : byteAt body 1 ≤ 1) (s : State) :
    dispatch p { kind := 9, body := body } s =
      answerWith p 0x09 (if byteAt body 1 = 1 then takeAttendOn p (byteAt body 0) s else takeAttendOff p (byteAt body 0) s) :=
  dispatch_served (k := .attend) rfl (Bool.and_eq_true_iff.mpr ⟨decide_eq_true h, decide_eq_true hon⟩) rfl

section

variable {p : Port} {f : Byte} {s w : State} {result : Result} {fields part : List Byte}

theorem exec_attendOn (h : Ready p s) (ht : takeAttendOn p f.toNat (s.hunting p) = (w, result, fields))
    (hpart : [0x09#8, byte result.code, 1#8, 1#8] ++ fields = part) :
    exec (.attendOn p f) s = .next (settle s (w.answer p [part])) := by
  subst hpart
  refine crewEvent_ready h 0x09 (body := [f, 1]) (show 2 ≤ 299 by decide) ?_
    (.inr (by rw [State.answer_slot]; exact List.cons_ne_nil _ _))
  rw [dispatch_attend p (body := [f, 1]) rfl (Nat.le_refl 1)]
  exact congrArg (answerWith p 0x09) ht

theorem exec_attendOff (h : Ready p s) (ht : takeAttendOff p f.toNat (s.hunting p) = (w, result, fields))
    (hpart : [0x09#8, byte result.code, 1#8, 1#8] ++ fields = part) :
    exec (.attendOff p f) s = .next (settle s (w.answer p [part])) := by
  subst hpart
  refine crewEvent_ready h 0x09 (body := [f, 0]) (show 2 ≤ 299 by decide) ?_
    (.inr (by rw [State.answer_slot]; exact List.cons_ne_nil _ _))
  rw [dispatch_attend p (body := [f, 0]) rfl (Nat.zero_le 1)]
  exact congrArg (answerWith p 0x09) ht

end

/-! ### What an ATTEND is answered -/

section

variable {p : Port} {f : Nat} {t : State}

theorem takeAttend_noLabel (h : (t.port p).label = none) :
    takeAttendOn p f t = (t, .noLabel, []) ∧ takeAttendOff p f t = (t, .noLabel, []) := by
  rw [takeAttendOn, takeAttendOff, h]
  exact ⟨rfl, rfl⟩

variable {label : Text} (h : (t.port p).label = some label)

include h

theorem takeAttend_noPath (ha : validAddress t.address = false) :
    takeAttendOn p f t = (t, .noPath, []) ∧ takeAttendOff p f t = (t, .noPath, []) := by
  simp [takeAttendOn, takeAttendOff, h, ha]

theorem takeAttendOn_accepted (ha : validAddress t.address = true) : takeAttendOn p f t =
    (acceptAttendOn p label f t, markResult .attending t.rlc.answer, [byte f] ++ (acceptAttendOn p label f t).attendanceBytes f) := by
  simp [takeAttendOn, h, ha]

theorem takeAttendOff_accepted (ha : validAddress t.address = true) : takeAttendOff p f t =
    (acceptAttendOff p label f t, markResult .left t.rlc.answer, [byte f] ++ (acceptAttendOff p label f t).attendanceBytes f) := by
  simp [takeAttendOff, h, ha]

end

/-! ### The list changed -/

/-- Between `s` and `w` floor `f` has taken an attendance list, in one event (R47). -/
structure ListChanged (f : Nat) (list : List Attendance) (s w : State) : Prop where
  attendance : (w.floor f).attendance = list
  counted : w.floor f = s.floor f ∨ (w.floor f).changeNumber = wrapNext (s.floor f).changeNumber
  only : OnlyFloor f s w
  link : w.rlc = s.rlc

theorem listChanged_setAttendance {f : Nat} (hf : f < 256) (list : List Attendance) (s : State) :
    ListChanged f list s (setAttendance f list s) := by
  have hr : Recomputed _ _ _ s (setAttendance f list s) := recomputed_recomputeWith ..
  exact ⟨hr.attendance f hf rfl, recomputeWith_floor_cases .., ⟨hr.label f hf rfl, fun g hg => hr.untouched g hg, hr.entries,
    hr.rest, hr.zones⟩, hr.link⟩

theorem listChanged_attendOnFloor {f : Nat} (hf : f < 256) (label : Text) (station : Nat) (p : Port) (s : State) :
    ListChanged f (attendOnList { label := label, station := station, port := p, time := s.clock } (s.floor f).attendance) s
      (attendOnFloor f label station p s) := listChanged_setAttendance hf _ s

theorem listChanged_attendOffFloor {f : Nat} (hf : f < 256) (station : Nat) (p : Port) (s : State) :
    ListChanged f (attendOffList station p (s.floor f).attendance) s (attendOffFloor f station p s) := by
  unfold attendOffFloor
  split
  · exact listChanged_setAttendance hf _ s
  · rename_i hnone
    exact ⟨(attendOffList_eq_self.mpr (Bool.eq_false_iff.mpr hnone)).symm, .inl rfl,
      ⟨rfl, fun _ _ => rfl, rfl, RestKept.refl s, rfl⟩, rfl⟩

/-- An ATTEND accepted and answered: the floor, its mark, and the entries of the answer (R71). -/
theorem attend_made {p : Port} {f : Byte} {s w u v : State} {list : List Attendance} {payload : List Byte}
    {parts : List (List Byte)} (hw : ListChanged f.toNat list (s.hunting p) w) (hv : v = submitMark payload w)
    (hu : u = v.answer p parts) :
    MarkMade p payload s u ∧ (u.floor f.toNat).attendance = list ∧
    (u.floor f.toNat).label = (s.floor f.toNat).label ∧
    ((u.floor f.toNat).attendance ≠ (s.floor f.toNat).attendance →
      (u.floor f.toNat).changeNumber = ((s.floor f.toNat).changeNumber + 1) % 65536) ∧
    (∀ g, g ≠ f.toNat → u.floor g = s.floor g) ∧ u.picture.entries = s.picture.entries ∧
    v.attendanceBytes f.toNat = [byte (u.floor f.toNat).attendance.length] ++
      ((u.floor f.toNat).attendance.map fun a => attendanceRecord s.clock (s.presenceCode a.station) a).flatten := by
  have hm := markMade hw.only.rest (hw.only.zones.trans (hunting_zones p s)) (hw.link.trans (hunting_rlc p s)) payload parts
  rw [← hv, ← hu] at hm
  have hpicture : u.picture = w.picture := by rw [hu, answer_picture, hv, submitMark_picture]
  have hfloor : ∀ g, u.floor g = w.floor g := State.floor_congr hpicture
  have hbefore := hunting_floor p s
  have hsent := submitMark_rest payload w
  rw [← hv] at hsent
  have hclock : v.clock = s.clock := (congrArg State.clock hsent).trans (hw.only.rest.clock.trans (hunting_clock p s))
  have haddress : v.address = s.address := (congrArg State.address hsent).trans (hw.only.rest.address.trans (hunting_address p s))
  have hpeers : v.peers = s.peers := (congrArg State.peers hsent).trans (hw.only.rest.peers.trans (hunting_peers p s))
  have hsame : v.floor f.toNat = u.floor f.toNat := by
    rw [hu]
    exact (State.floor_congr (answer_picture p parts v) _).symm
  refine ⟨hm, by rw [hfloor]; exact hw.attendance, ?_, ?_, fun g hg => ?_, ?_, ?_⟩
  · rw [hfloor, hw.only.label, hbefore]
  · rw [hfloor, ← hbefore]
    exact changeNumber_of_attendance_ne hw.counted
  · rw [hfloor, hw.only.others g hg, hbefore]
  · rw [hpicture, hw.only.entries, hunting_picture]
  · unfold State.attendanceBytes
    dsimp only
    rw [hsame, hclock]
    simp only [presenceCode_congr haddress hpeers]

theorem markResult_code (r : RiserLink) (result : Result) : byte (markResult result r.answer).code =
    if r.blocks.any = true ∨ 8 ≤ r.control.length then 0x03#8 else byte result.code := by
  split
  · rename_i h
    rw [markResult_refused h]
    rfl
  · rename_i h
    rw [not_or, Bool.not_eq_true, Nat.not_le] at h
    rw [markResult_queued h]

/-- The state that an accepted ATTEND leaves, with its answer. -/
theorem attend_answered {p : Port} {f : Byte} {s w : State} {list : List Attendance} {payload : List Byte} {result : Result}
    {c : Instr} (hw : ListChanged f.toNat list (s.hunting p) w)
    (hexec : exec c s = .next (settle s ((submitMark payload w).answer p
      [[0x09#8, byte (markResult result (s.hunting p).rlc.answer).code, 1#8, 1#8] ++
        ([byte f.toNat] ++ (submitMark payload w).attendanceBytes f.toNat)]))) :
    ∃ u, exec c s = .next (settle s u) ∧ MarkMade p payload s u ∧ (u.floor f.toNat).attendance = list ∧
      (u.floor f.toNat).label = (s.floor f.toNat).label ∧
      ((u.floor f.toNat).attendance ≠ (s.floor f.toNat).attendance →
        (u.floor f.toNat).changeNumber = ((s.floor f.toNat).changeNumber + 1) % 65536) ∧
      (∀ g, g ≠ f.toNat → u.floor g = s.floor g) ∧ u.picture.entries = s.picture.entries ∧
      (u.port p).responseSlot = [[0x09#8,
          if s.rlc.blocks.any = true ∨ 8 ≤ s.rlc.control.length then 0x03#8 else byte result.code, 1#8, 1#8, f,
          byte (u.floor f.toNat).attendance.length] ++
        ((u.floor f.toNat).attendance.map fun a => attendanceRecord s.clock (s.presenceCode a.station) a).flatten] := by
  generalize hu : State.answer p _ (submitMark payload w) = u at hexec
  have hslot : (u.port p).responseSlot = _ := (congrArg (fun t : State => (t.port p).responseSlot) hu.symm).trans
    (State.answer_slot ..)
  obtain ⟨hm, hlist, hlabel, hnumber, hothers, hentries, hbytes⟩ := attend_made hw rfl hu.symm
  refine ⟨u, hexec, hm, hlist, hlabel, hnumber, hothers, hentries, ?_⟩
  rw [hslot, hbytes, hunting_rlc, markResult_code, byte_toNat]
  rfl

/-- The two lists of R71, by a test on the station and port. -/
theorem attendLists_own (who : Attendance) (l : List Attendance) :
    attendOffList who.station who.port l = l.filter (fun a => !(decide (a.station = who.station) && decide (a.port = who.port))) ∧
    attendOnList who l =
      if l.any (fun a => decide (a.station = who.station) && decide (a.port = who.port)) = true then
        l.filter (fun a => !(decide (a.station = who.station) && decide (a.port = who.port))) ++ [who]
      else if l.length < 4 then l ++ [who] else l.drop 1 ++ [who] := by
  refine ⟨attendOffList_eq who l, (attendOnList_eq who l).trans (if_congr ?_ rfl rfl)⟩
  simp

end Sys2Proof.Machine

open Sys2Proof Sys2Proof.Machine

/-- Settles O54: the list changes in one event of the picture on the state in which the request is served, and the mark is
submitted after it. -/
theorem attendChangesList : Obligations.AttendChangesList := by
  intro p f s h old hready hh hold
  subst hh hold
  have hf : f.toNat < 256 := f.isLt
  have haddress := hunting_address p s
  refine ⟨fun hnone => ?_, fun hsome ha => ?_, fun label who hlabel h1 h2 hwho c kind hc => ?_⟩
  · obtain ⟨hon, hoff⟩ := takeAttend_noLabel (f := f.toNat) ((hunting_label p s).trans hnone)
    exact ⟨exec_attendOn hready hon rfl, exec_attendOff hready hoff rfl⟩
  · obtain ⟨label, hlabel⟩ := Option.ne_none_iff_exists'.mp hsome
    obtain ⟨hon, hoff⟩ := takeAttend_noPath (f := f.toNat) ((hunting_label p s).trans hlabel)
      (by rw [haddress]; exact validAddress_not ha)
    exact ⟨exec_attendOn hready hon rfl, exec_attendOff hready hoff rfl⟩
  · have hl := (hunting_label p s).trans hlabel
    have hvalid : validAddress (s.hunting p).address = true := by
      rw [haddress]
      exact (validAddress_iff _).mpr ⟨h1, h2⟩
    have hpayload : ∀ k, markPayload k label (s.hunting p).address p f.toNat 0 0 =
        [byte k] ++ padTo 8 label ++ [byte s.address, if p = .a then 1#8 else 2#8, f, 0#8, 0#8, 0#8] := fun k => by
      have h := markPayload_eq k label (s.hunting p).address p f 0#8 0
      rw [haddress, List.append_assoc, List.append_assoc] at h
      rw [haddress, List.append_assoc]
      exact h
    obtain ⟨hoff, hon⟩ := attendLists_own who (s.floor f.toNat).attendance
    have hown : who.station = s.address ∧ who.port = p := by rw [hwho]; exact ⟨rfl, rfl⟩
    rw [hown.1, hown.2] at hoff hon
    rcases hc with hc | hc
    · obtain ⟨rfl, rfl⟩ := Prod.mk.inj hc
      have hne : ¬Instr.attendOn p f = .attendOff p f := fun he => nomatch he
      have hw := listChanged_attendOnFloor hf label (s.hunting p).address p (s.hunting p)
      rw [hunting_floor, hunting_clock, haddress, ← hwho] at hw
      have hexec := exec_attendOn hready (takeAttendOn_accepted (f := f.toNat) hl hvalid) rfl
      rw [acceptAttendOn, hpayload, haddress] at hexec
      obtain ⟨u, hu, hm, hlist, hlabel', hnumber, hothers, hentries, hslot⟩ := attend_answered hw hexec
      refine ⟨u, hu, ?_, hlabel', hnumber, fun g _ hg => hothers g hg, hentries, ?_, hm.queued, hm.refused, hm.zones, hm.peers,
        hm.store, hm.ste, hm.otherPort, hm.clock, hm.pending⟩
      · rw [hlist, if_neg hne]
        exact hon
      · rw [hslot, if_neg hne]
        rfl
    · obtain ⟨rfl, rfl⟩ := Prod.mk.inj hc
      have hw := listChanged_attendOffFloor hf (s.hunting p).address p (s.hunting p)
      rw [hunting_floor, haddress] at hw
      have hexec := exec_attendOff hready (takeAttendOff_accepted (f := f.toNat) hl hvalid) rfl
      rw [acceptAttendOff, hpayload, haddress] at hexec
      obtain ⟨u, hu, hm, hlist, hlabel', hnumber, hothers, hentries, hslot⟩ := attend_answered hw hexec
      refine ⟨u, hu, ?_, hlabel', hnumber, fun g _ hg => hothers g hg, hentries, ?_, hm.queued, hm.refused, hm.zones, hm.peers,
        hm.store, hm.ste, hm.otherPort, hm.clock, hm.pending⟩
      · rw [hlist, if_pos rfl]
        exact hoff
      · rw [hslot, if_pos rfl]
        rfl
end

section
/-! SUPPORT. A SHEET REQUEST from a peer (R139, R142). -/

namespace Sys2Proof.Machine

open Sys2Proof

/-! ### The payload by its fields -/

/-- The payload of a SHEET REQUEST (5.2). -/
def requestPayload (tag floor kind burst : Byte) (revision first last : Half) : List Byte :=
  [tag, floor, kind] ++ be16 revision.toNat ++ be16 first.toNat ++ be16 last.toNat ++ [burst]

theorem toNat_eq_one (b : Byte) : b.toNat = 1 ↔ b = 1#8 := ⟨fun h => BitVec.eq_of_toNat_eq h, fun h => congrArg BitVec.toNat h⟩

section

variable (tag floor kind burst : Byte) (revision first last : Half)

theorem requestPayload_fields :
    (requestPayload tag floor kind burst revision first last).length = 10 ∧
    byteAt (requestPayload tag floor kind burst revision first last) 0 = tag.toNat ∧
    byteAt (requestPayload tag floor kind burst revision first last) 1 = floor.toNat ∧
    byteAt (requestPayload tag floor kind burst revision first last) 2 = kind.toNat ∧
    halfAt (requestPayload tag floor kind burst revision first last) 3 = revision.toNat ∧
    halfAt (requestPayload tag floor kind burst revision first last) 5 = first.toNat ∧
    halfAt (requestPayload tag floor kind burst revision first last) 7 = last.toNat ∧
    byteAt (requestPayload tag floor kind burst revision first last) 9 = burst.toNat :=
  ⟨rfl, rfl, rfl, rfl, halfAt_be16 revision.isLt (be16 first.toNat ++ be16 last.toNat ++ [burst]),
    halfAt_be16 first.isLt (be16 last.toNat ++ [burst]), halfAt_be16 last.isLt [burst], rfl⟩

theorem requestPayload_good : sheetRequestGood (requestPayload tag floor kind burst revision first last) = true ↔
    kind.toNat ≤ 5 ∧ burst.toNat ≤ 1 ∧ tag ≠ 0#8 := by
  obtain ⟨hlen, htag, -, hkind, -, -, -, hburst⟩ := requestPayload_fields tag floor kind burst revision first last
  have hzero : tag.toNat = 0 ↔ tag = 0#8 := ⟨fun h => BitVec.eq_of_toNat_eq h, fun h => congrArg BitVec.toNat h⟩
  simp [sheetRequestGood, hlen, htag, hkind, hburst, hzero, and_assoc]

/-- The service of the window asked for (R139). -/
theorem requestPayload_service (x : Nat) (r : SheetRecord) (fast : Bool) :
    Channel.service x (requestPayload tag floor kind burst revision first last) r fast =
      { Channel.freed with
        state := .serve, owner := .peer x tag.toNat, floor := floor.toNat, kind := kind.toNat, record := some r,
        window := some (first.toNat, min last.toNat (min (r.tileCount - 1) (first.toNat + 3))),
        nextTile := first.toNat, fetch := first.toNat, burstMode := fast } := by
  obtain ⟨-, htag, hfloor, hkind, -, hfirst, hlast, -⟩ := requestPayload_fields tag floor kind burst revision first last
  rw [Channel.service, servedWindow, htag, hfloor, hkind, hfirst, hlast]

/-- The first of the checks NO_SHEET, REVISION and RANGE that fails (R139). -/
theorem requestCheck_payload (s : State) :
    s.requestCheck (requestPayload tag floor kind burst revision first last) =
      match s.lookup floor.toNat kind.toNat 0, s.lookup floor.toNat kind.toNat revision.toNat with
      | none, _ => .error .noSheet
      | some _, none => .error .revision
      | some _, some r => if last.toNat < first.toNat ∨ r.tileCount ≤ first.toNat then .error .range else .ok r := by
  obtain ⟨-, -, hfloor, hkind, hrevision, hfirst, hlast, -⟩ :=
    requestPayload_fields tag floor kind burst revision first last
  rw [State.requestCheck, hfloor, hkind, hrevision, hfirst, hlast]
  cases s.lookup floor.toNat kind.toNat 0 with
  | none => rfl
  | some _ => cases s.lookup floor.toNat kind.toNat revision.toNat <;> rfl

end

/-- A record of one revision is a record of any (R107). -/
theorem lookup_any {s : State} {floor kind revision : Nat} {r : SheetRecord} (h : s.lookup floor kind revision = some r) :
    s.lookup floor kind 0 ≠ none := by
  have hfit : ∃ q ∈ s.store.sheets, q.floor = floor ∧ q.kind = kind := by
    unfold State.lookup lookupSheet at h
    extract_lets fit at h
    have hmem : r ∈ fit := by
      split at h
      · rw [← Option.some.inj h]
        exact List.mem_of_find?_eq_some ‹_›
      · exact List.mem_of_head? h
    have := List.mem_filter.mp hmem
    simp only [Bool.and_eq_true, decide_eq_true_eq] at this
    exact ⟨r, this.1, this.2.1.1, this.2.1.2⟩
  obtain ⟨q, hq, hf, hk⟩ := hfit
  unfold State.lookup lookupSheet
  extract_lets fit
  have hmem : q ∈ fit := List.mem_filter.mpr ⟨hq, by simp [hf, hk]⟩
  split
  · exact Option.some_ne_none _
  · rw [Ne, List.head?_eq_none_iff]
    exact List.ne_nil_of_mem hmem

/-! ### What the answer reads of the state -/

section

variable {s v : State}

theorem serviceOf_congr (h : v.ste = s.ste) (a tag : Nat) : v.serviceOf a tag = s.serviceOf a tag := by
  unfold State.serviceOf State.channel; rw [h]

theorem buffersWhere_congr {f : TileBuffer → Bool} (h : ∀ b < 16, f (v.buffer b) = f (s.buffer b)) :
    v.buffersWhere f = s.buffersWhere f := List.filter_congr fun b hb => h b (List.mem_range.mp hb)

theorem heldBy_congr {c : Nat} (h : ∀ b < 16, (v.buffer b).holder = (s.buffer b).holder) : v.heldBy c = s.heldBy c :=
  congrArg List.length (buffersWhere_congr (f := fun x => x.holder == some c) fun b hb => by rw [h b hb])

theorem freeBuffers_congr (h : ∀ b < 16, (v.buffer b).holder = (s.buffer b).holder) : v.freeBuffers = s.freeBuffers :=
  congrArg List.length (buffersWhere_congr (f := fun x => x.holder == none) fun b hb => by rw [h b hb])

theorem buffer_congr (h : v.ste = s.ste) (b : Nat) : v.buffer b = s.buffer b := by unfold State.buffer; rw [h]

theorem freeChannel_congr (h : v.ste = s.ste) : v.freeChannel = s.freeChannel := by
  have hhold : ∀ c, v.heldBy c = s.heldBy c := fun c => heldBy_congr fun b _ => by rw [buffer_congr h]
  unfold State.freeChannel State.available State.channel
  rw [h]
  simp only [hhold]

theorem serving_congr (h : v.ste = s.ste) : v.serving = s.serving := by unfold State.serving State.channel; rw [h]

theorem serviceOf_lt {a tag c : Nat} (h : s.serviceOf a tag = some c) : c < 6 :=
  List.mem_range.mp (List.mem_of_find?_eq_some h)

theorem lookup_congr (h : v.store = s.store) (floor kind revision : Nat) :
    v.lookup floor kind revision = s.lookup floor kind revision := by unfold State.lookup; rw [h]

/-- Tiles dropped leave the buffers with their holders. -/
theorem TilesDropped.holder {c : Nat} {w : State} (h : TilesDropped c v w) {b : Nat} (hb : b < 16) :
    (w.buffer b).holder = (v.buffer b).holder := by
  by_cases hread : ∃ r ∈ v.readList c, r.buffer = b
  · obtain ⟨r, hr, rfl⟩ := hread
    rw [h.withdrawn r hr hb]
  · have hno : ∀ r ∈ v.readList c, r.buffer ≠ b := fun r hr he => hread ⟨r, hr, he⟩
    by_cases hfull : ∃ n d, v.buffer b = { holder := some c, state := .full n d }
    · by_cases hsend : v.rlc.sendingFrom = some b
      · rw [h.kept b hb hno (.inr hsend)]
      · rw [h.discarded b hb hfull hsend]
        obtain ⟨n, d, he⟩ := hfull
        rw [he]
    · rw [h.kept b hb hno (.inl fun n d he => hfull ⟨n, d, he⟩)]

end

/-! ### Refused -/

/-- A refuse is counted, and queued where the CONTROL queue has room (R139, R143). -/
theorem submitRefuse_eq {w : State} (hb : w.rlc.blocks.any = false) (x : Nat) (tag code : Byte) (reason : RefuseReason)
    (hcode : byte reason.code = code) : submitRefuse x tag.toNat reason w =
      if w.rlc.control.length < 8 then
        (w.countTransfers fun n => { n with serveRefuses := min 65535 (n.serveRefuses + 1) }).queueControl
          .sheetRefuse x [tag, code] .refuse
      else w.countTransfers fun n =>
        { n with
          serveRefuses := min 65535 (n.serveRefuses + 1)
          controlNotSent := min 65535 (n.controlNotSent + 1) } := by
  rw [submitRefuse, submitSheet, hcode, byte_toNat]
  obtain ⟨t, ht⟩ : ∃ t, t = w.countTransfers fun n => { n with serveRefuses := countUp n.serveRefuses } := ⟨_, rfl⟩
  have hrlc : t.rlc = w.rlc := by rw [ht]; rfl
  rw [← ht]
  by_cases hroom : w.rlc.control.length < 8
  · have hq : t.rlc.answer = .queued := by rw [hrlc]; exact answer_queued hb hroom
    rw [if_pos hq, if_pos hroom, State.modRlc, submit_queued hq, ht]
    rfl
  · have hq : t.rlc.answer ≠ .queued := by rw [hrlc]; exact answer_refused (.inr (Nat.le_of_not_lt hroom))
    rw [if_neg hq, if_neg hroom, State.modRlc,
      show (t.countTransfers TransferCounters.notSent).rlc = t.rlc from rfl, submit_refused hq, ht]
    rfl

/-- A closed channel leaves the CONTROL queue and the blocks. -/
theorem ChannelClosed.control {c : Nat} {v w : State} (h : ChannelClosed c v w) :
    w.rlc.control = v.rlc.control ∧ w.rlc.blocks = v.rlc.blocks :=
  ⟨congrArg (·.rlc.control) h.rest, congrArg (·.rlc.blocks) h.rest⟩

/-! ### Taken as a replacement -/

/-- The frame of a channel on the line belongs to its service no longer, as the statements write it. -/
theorem modRlc_orphan (c : Nat) (w : State) : w.modRlc (RiserLink.orphan c) =
    { w with
      rlc := { w.rlc with
        tx := w.rlc.tx.map fun y => match y.source with
          | .tile d _ => { y with serviceLive := y.serviceLive && decide (d ≠ c) }
          | _ => y } } := by
  have hline : ∀ y : Transmission, (match y.source with
      | .tile k _ => if k = c then { y with serviceLive := false } else y
      | _ => y) = match y.source with
        | .tile d _ => { y with serviceLive := y.serviceLive && decide (d ≠ c) }
        | _ => y := fun y => by
    cases hsource : y.source with
    | tile d _ =>
      by_cases hd : d = c
      · simp [hd]
      · simp [hd, ← hsource]
    | zoneState => rfl
    | control => rfl
    | directory => rfl
    | yieldMark => rfl
  exact congrArg (fun f => { w with rlc := { w.rlc with tx := w.rlc.tx.map f } }) (funext hline)

theorem getLast?_filter_range {f : Nat → Bool} {b n : Nat} (hb : b < n) (hf : f b = true)
    (habove : ∀ d < n, b < d → f d = false) : ((List.range n).filter f).getLast? = some b := by
  induction n with
  | zero => exact absurd hb (Nat.not_lt_zero b)
  | succ n ih =>
    rw [List.range_succ, List.filter_append]
    by_cases h : b = n
    · subst h
      simp [hf]
    · have hn : f n = false := habove n (Nat.lt_succ_self n) (by omega)
      rw [List.filter_cons_of_neg (by simp [hn]), List.filter_nil, List.append_nil]
      exact ih (by omega) fun d hd => habove d (Nat.lt_succ_of_lt hd)

section

variable {c : Nat} {s : State}

theorem keepOneBuffer_all (h : s.heldBy c ≤ 1 ∨ ∀ b < 16, (s.buffer b).holder = some c → s.bufferBusy b = true) :
    keepOneBuffer c s = s := by
  rcases h with h | h
  · exact if_neg (Nat.not_lt.mpr h)
  · have hnone : (s.buffersWhere fun x => x.holder == some c).filter (fun b => !s.bufferBusy b) = [] := by
      rw [List.filter_eq_nil_iff]
      intro b hb
      obtain ⟨hlt, hholds⟩ := List.mem_filter.mp hb
      simp [h b (List.mem_range.mp hlt) (beq_iff_eq.mp hholds)]
    rw [keepOneBuffer, hnone, List.getLast?_nil]
    exact ite_self _

theorem keepOneBuffer_back {b : Nat} (h2 : 2 ≤ s.heldBy c) (hb : b < 16) (hholds : (s.buffer b).holder = some c)
    (hfree : s.bufferBusy b = false)
    (habove : ∀ d < 16, b < d → (s.buffer d).holder = some c → s.bufferBusy d = true) :
    keepOneBuffer c s = s.setBuffer b TileBuffer.freed := by
  have hlast : ((s.buffersWhere fun x => x.holder == some c).filter fun b => !s.bufferBusy b).getLast? = some b := by
    rw [State.buffersWhere, List.filter_filter]
    refine getLast?_filter_range hb (by simp [hholds, hfree]) fun d hd hbd => ?_
    by_cases h : (s.buffer d).holder = some c
    · simp [habove d hd hbd h]
    · simp [h]
  rw [keepOneBuffer, if_pos (show 1 < s.heldBy c from h2), hlast]

end

end Sys2Proof.Machine
end

section
/-! SUPPORT. The answers to a SHEET REQUEST, case by case (R139, R142). -/

namespace Sys2Proof.Machine

open Sys2Proof

/-- A frame addressed to the station is handed on in the state in which it is accepted and heard. -/
theorem addressed_taken {x dest : Byte} {s : State} (h : s.canTake x.toNat) {kind : FrameKind} (hk : kind.isBroadcast = false)
    (hd : dest.toNat = s.address) (ha : validAddress s.address = true) (p : List Byte) (act : State → State) {yields : Bool}
    (hy : (decide (kind = .sheetTile) && tileMoreFollows p && s.rlc.alarmPending && !s.rlc.blocks.any) = yields) :
    event (receiveFrame (frameOf kind x dest p) act) s = .next (settle s (act (s.accepted kind.cls x.toNat yields))) := by
  refine frame_taken h kind p act ?_ (.inl hd) hy
  rw [Frame.misdirected, frameOf]
  simp [hk, hd, ha]

theorem exec_sheetRequest {x dest : Byte} {s : State} (h : s.canTake x.toNat) (hd : dest.toNat = s.address)
    (ha : validAddress s.address = true) (q : List Byte) : exec (.sheetRequest x dest q) s =
      .next (settle s (takeSheetRequest x.toNat q (frameHeard x.toNat .other (s.accepted .control x.toNat false)))) :=
  addressed_taken h (kind := .sheetRequest) rfl hd ha q
    (fun t => takeSheetRequest x.toNat q (frameHeard x.toNat .other t)) rfl

section

variable {x : Nat} {p : List Byte} {w : State}

theorem takeSheetRequest_ignored (h : w.rlc.blocks.any = true ∨ sheetRequestGood p = false) :
    takeSheetRequest x p w = w.countTransfers TransferCounters.ignored := by
  rw [takeSheetRequest]
  exact if_pos (by simpa using h)

theorem takeSheetRequest_error (hb : w.rlc.blocks.any = false) (hg : sheetRequestGood p = true) {reason : RefuseReason}
    (hcheck : w.requestCheck p = .error reason) : takeSheetRequest x p w =
      submitRefuse x (byteAt p 0) reason ((w.serviceOf x (byteAt p 0)).elim w fun c => endService c w) := by
  rw [takeSheetRequest, hb, hg, hcheck]
  cases w.serviceOf x (byteAt p 0) <;> rfl

theorem takeSheetRequest_ok (hb : w.rlc.blocks.any = false) (hg : sheetRequestGood p = true) {r : SheetRecord}
    (hcheck : w.requestCheck p = .ok r) : takeSheetRequest x p w =
      (w.serviceOf x (byteAt p 0)).elim (newService x p r w) fun c => replaceService c x p r w := by
  rw [takeSheetRequest, hb, hg, hcheck]
  cases w.serviceOf x (byteAt p 0) <;> rfl

theorem newService_busy (r : SheetRecord) (h : w.freeChannel = none ∨ 4 ≤ w.serving ∨ w.freeBuffers = 0) :
    newService x p r w = submitRefuse x (byteAt p 0) .busy w := by
  rw [newService]
  split
  · rfl
  · rename_i c hc
    refine if_pos (h.resolve_left ?_)
    rw [hc]
    exact Option.some_ne_none c

theorem newService_given {r : SheetRecord} {c : Nat} (hc : w.freeChannel = some c) (hs : w.serving < 4)
    (hf : 1 ≤ w.freeBuffers) : newService x p r w =
      claimBuffers c (if byteAt p 9 = 1 ∧ 2 ≤ w.freeBuffers then 2 else 1)
        (w.setChannel c (Channel.service x p r (decide (byteAt p 9 = 1 ∧ 2 ≤ w.freeBuffers)))) := by
  have hno : ¬(4 ≤ w.serving ∨ w.freeBuffers = 0) := by omega
  simp only [newService, hc, if_neg hno, decide_eq_true_eq, ← Bool.decide_and]

/-- The state in which a channel has given up the window it served (R142). -/
def State.windowGone (c : Nat) (w : State) : State :=
  (discardTiles c (fun _ => true) (withdrawReads c w)).modRlc (RiserLink.orphan c)

theorem windowGone_holder {c : Nat} (hc : c < 6) {b : Nat} (hb : b < 16) :
    ((w.windowGone c).buffer b).holder = (w.buffer b).holder := by
  rw [State.windowGone, buffer_congr (State.modRlc_ste ..)]
  exact (tilesDropped hc w).holder hb

theorem windowGone_heldBy {c : Nat} (hc : c < 6) : (w.windowGone c).heldBy c = w.heldBy c :=
  heldBy_congr fun _ hb => windowGone_holder hc hb

/-- The window asked for is served in BURST. -/
theorem replaceService_fast {c : Nat} (hc : c < 6) : (decide (byteAt p 9 = 1) &&
    (decide (2 ≤ (w.windowGone c).heldBy c) || decide (1 ≤ (w.windowGone c).freeBuffers))) =
      decide (byteAt p 9 = 1 ∧ (2 ≤ w.heldBy c ∨ 1 ≤ w.freeBuffers)) := by
  rw [windowGone_heldBy hc, freeBuffers_congr fun b hb => windowGone_holder hc hb]
  simp

theorem replaceService_burst {c : Nat} (hc : c < 6) (r : SheetRecord)
    (h : byteAt p 9 = 1 ∧ (2 ≤ w.heldBy c ∨ 1 ≤ w.freeBuffers)) : replaceService c x p r w =
      claimBuffers c (2 - w.heldBy c) ((w.windowGone c).setChannel c (Channel.service x p r true)) := by
  rw [replaceService, ← State.windowGone, replaceService_fast hc, decide_eq_true h, windowGone_heldBy hc, if_pos rfl]

theorem replaceService_yield {c : Nat} (hc : c < 6) (r : SheetRecord)
    (h : ¬(byteAt p 9 = 1 ∧ (2 ≤ w.heldBy c ∨ 1 ≤ w.freeBuffers))) : replaceService c x p r w =
      keepOneBuffer c ((w.windowGone c).setChannel c (Channel.service x p r false)) := by
  rw [replaceService, ← State.windowGone, replaceService_fast hc, decide_eq_false h, if_neg Bool.false_ne_true]

theorem setChannel_bufferBusy (c b : Nat) (k : Channel) (s : State) : (s.setChannel c k).bufferBusy b = s.bufferBusy b := rfl

section

variable {c : Nat} (hc : c < 6) (r : SheetRecord) (h : ¬(byteAt p 9 = 1 ∧ (2 ≤ w.heldBy c ∨ 1 ≤ w.freeBuffers)))
  {z : State} (hz : z = w.windowGone c)

include hc hz

theorem replaced_heldBy (k : Channel) : (z.setChannel c k).heldBy c = w.heldBy c := by
  rw [heldBy_congr fun b _ => congrArg TileBuffer.holder (State.setChannel_buffer c b k z), hz, windowGone_heldBy hc]

include h

/-- In YIELD a channel keeps the only buffer it holds, or all where all are busy (R142). -/
theorem replaceService_kept (hall : w.heldBy c ≤ 1 ∨ ∀ b < 16, (z.buffer b).holder = some c → z.bufferBusy b = true) :
    replaceService c x p r w = z.setChannel c (Channel.service x p r false) := by
  rw [replaceService_yield hc r h, ← hz]
  refine keepOneBuffer_all (hall.imp (fun h => by rwa [replaced_heldBy hc hz]) fun hbusy b hb hholds => ?_)
  rw [State.setChannel_buffer] at hholds
  rw [setChannel_bufferBusy]
  exact hbusy b hb hholds

/-- In YIELD a channel gives back the higher of two buffers that are not busy (R142, log 26). -/
theorem replaceService_back {b : Nat} (h2 : 2 ≤ w.heldBy c) (hb : b < 16) (hholds : (z.buffer b).holder = some c)
    (hidle : z.bufferBusy b = false) (habove : ∀ d < 16, b < d → (z.buffer d).holder = some c → z.bufferBusy d = true) :
    replaceService c x p r w = (z.setChannel c (Channel.service x p r false)).setBuffer b TileBuffer.freed := by
  rw [replaceService_yield hc r h, ← hz]
  refine keepOneBuffer_back (by rwa [replaced_heldBy hc hz]) hb ?_ ?_ fun d hd hbd hd' => ?_
  · rw [State.setChannel_buffer, hholds]
  · rw [setChannel_bufferBusy, hidle]
  · rw [State.setChannel_buffer] at hd'
    rw [setChannel_bufferBusy]
    exact habove d hd hbd hd'

end

end

end Sys2Proof.Machine

open Sys2Proof Sys2Proof.Machine

/-- Settles O35: the answer is worked out in the state in which the frame is accepted and heard, which has the channels, the
store and the CONTROL queue of the state before it. -/
theorem sheetRequestServed : Obligations.SheetRequestServed := by
  intro x dest tag floor kind burst revision first last p s h hdest ha
  have htaken := exec_sheetRequest h hdest ha
  have hheard := frameHeard_isHeard .control false h.2.2
  have hparts := partsKept_frameHeard x.toNat .other (s.accepted .control x.toNat false)
  have hste := hparts.ste
  have hstore := hparts.store
  obtain ⟨v, hv⟩ : ∃ v, v = frameHeard x.toNat .other (s.accepted .control x.toNat false) := ⟨_, rfl⟩
  rw [← hv] at htaken hheard hste hstore
  clear hparts hv
  replace hste : v.ste = s.ste := hste
  replace hstore : v.store = s.store := hstore
  have hcontrol : v.rlc.control = s.rlc.control := by rw [hheard.link]; rfl
  have hblocks : v.rlc.blocks = s.rlc.blocks := by rw [hheard.link]; rfl
  refine ⟨v, hheard, fun q hq => ?_, ?_⟩
  · rw [htaken, takeSheetRequest_ignored (.inr (by simp [sheetRequestGood, hq]))]
    rfl
  intro hp refuse found service
  obtain rfl : p = requestPayload tag floor kind burst revision first last := hp
  obtain ⟨-, htag, -, -, -, -, -, hburst⟩ := requestPayload_fields tag floor kind burst revision first last
  have hgood := requestPayload_good tag floor kind burst revision first last
  have hservice := requestPayload_service tag floor kind burst revision first last x.toNat
  have hcheck := requestCheck_payload tag floor kind burst revision first last v
  rw [lookup_congr hstore, lookup_congr hstore] at hcheck
  generalize requestPayload tag floor kind burst revision first last = p at *
  have hserving := serviceOf_congr hste x.toNat tag.toNat
  have hrefuse : ∀ (w : State), w.rlc.control = v.rlc.control → w.rlc.blocks = v.rlc.blocks → s.rlc.blocks.any = false →
      ∀ (reason : RefuseReason) code, byte reason.code = code → submitRefuse x.toNat tag.toNat reason w = refuse code w :=
    fun w hc hb hs reason code hcode => by
      rw [submitRefuse_eq (by rw [hb, hblocks, hs]) x.toNat tag code reason hcode, hc, hcontrol]
  refine ⟨fun hno => ?_, fun hb hkind hfast htagged => ⟨fun code hcode => ?_, fun r hr hrange hcount => ?_⟩⟩
  · rw [htaken, takeSheetRequest_ignored]
    · rfl
    · rw [hblocks, ← Bool.not_eq_true, hgood]
      rcases hno with h | h | h | h
      · exact .inl h
      · exact .inr fun g => absurd g.1 (by omega)
      · exact .inr fun g => absurd g.2.1 (by omega)
      · exact .inr fun g => g.2.2 h
  · have hbv : v.rlc.blocks.any = false := by rw [hblocks, hb]
    obtain ⟨reason, hreason, herror⟩ : ∃ reason : RefuseReason, byte reason.code = code ∧ v.requestCheck p = .error reason := by
      rcases hcode with ⟨rfl, hnone⟩ | ⟨rfl, hany, hnone⟩ | ⟨rfl, r, hr, hbad⟩
      · exact ⟨.noSheet, rfl, by rw [hcheck, hnone]⟩
      · obtain ⟨q, hq⟩ := Option.ne_none_iff_exists'.mp hany
        exact ⟨.revision, rfl, by rw [hcheck, hq, show s.lookup floor.toNat kind.toNat revision.toNat = none from hnone]⟩
      · obtain ⟨q, hq⟩ := Option.ne_none_iff_exists'.mp (lookup_any hr)
        exact ⟨.range, rfl, by
          rw [hcheck, hq, show s.lookup floor.toNat kind.toNat revision.toNat = some r from hr]; exact if_pos hbad⟩
    have htake := takeSheetRequest_error (x := x.toNat) hbv (hgood.mpr ⟨hkind, hfast, htagged⟩) herror
    rw [htag, hserving] at htake
    refine ⟨fun hnone => ?_, fun c hc => ?_⟩
    · rw [htaken, htake, hnone, Option.elim_none, hrefuse v rfl rfl hb reason code hreason]
    · have hclosed := channelClosed (serviceOf_lt hc) v
      refine ⟨closeChannel c v, hclosed, ?_⟩
      rw [htaken, htake, hc, Option.elim_some, endService,
        hrefuse _ hclosed.control.1 hclosed.control.2 hb reason code hreason]
  · have hbv : v.rlc.blocks.any = false := by rw [hblocks, hb]
    have hok : v.requestCheck p = .ok r := by
      obtain ⟨q, hq⟩ := Option.ne_none_iff_exists'.mp (lookup_any hr)
      rw [hcheck, hq, show s.lookup floor.toNat kind.toNat revision.toNat = some r from hr]
      exact if_neg (by omega)
    have htake := takeSheetRequest_ok (x := x.toNat) hbv (hgood.mpr ⟨hkind, hfast, htagged⟩) hok
    rw [htag, hserving] at htake
    have hone : byteAt p 9 = 1 ↔ burst = 1#8 := by rw [hburst, toNat_eq_one]
    have hheld : ∀ c, v.heldBy c = s.heldBy c := fun c => heldBy_congr fun b _ => by rw [buffer_congr hste]
    have hfree : v.freeBuffers = s.freeBuffers := freeBuffers_congr fun b _ => by rw [buffer_congr hste]
    have hchannel := freeChannel_congr hste
    have hcount := serving_congr hste
    refine ⟨fun hnone => ⟨fun hbusy => ?_, fun c hc hs hf => ?_⟩, fun c hc => ?_⟩
    · rw [← hchannel, ← hcount, ← hfree] at hbusy
      rw [htaken, htake, hnone, Option.elim_none, newService_busy r hbusy, htag, hrefuse v rfl rfl hb .busy 3#8 rfl]
    · rw [← hfree] at hf
      rw [htaken, htake, hnone, Option.elim_none, newService_given (hchannel.trans hc) (by omega) hf, hservice, hfree]
      simp only [hone, service]
    · have hlt := serviceOf_lt hc
      rw [hc, Option.elim_some] at htake
      refine ⟨_, tilesDropped hlt v, fun z hz => ?_⟩
      replace hz : z = v.windowGone c :=
        hz.trans (modRlc_orphan c (discardTiles c (fun _ => true) (withdrawReads c v))).symm
      rw [← hone, ← hheld, ← hfree, htaken, htake]
      refine ⟨fun hyes => ?_, fun hno hall => ?_, fun b hb hno h2 hholds hidle habove => ?_⟩
      · rw [replaceService_burst hlt r hyes, hservice, ← hz]
      · rw [replaceService_kept hlt r hno hz hall, hservice]
      · rw [replaceService_back hlt r hno hz h2 hb hholds hidle habove, hservice]
        rfl
end

section
/-! SUPPORT. A crew channel's window request and its sources (R121, R123, R127, R132, R133). -/

namespace Sys2Proof.Machine

open Sys2Proof

/-! ### A channel written twice -/

theorem setChannel_setChannel (c : Nat) (k l : Channel) (s : State) : (s.setChannel c k).setChannel c l = s.setChannel c l := by
  have h : tset (tset s.ste.channels c k) c l = tset s.ste.channels c l := by simp [tset, List.set_set]
  exact congrArg (fun channels => { s with ste := { s.ste with channels := channels } }) h

theorem modChannel_eq {c : Nat} {s : State} {k : Channel} (hk : s.channel c = k) (f : Channel → Channel) :
    s.modChannel c f = s.setChannel c (f k) := by rw [State.modChannel, hk]

/-! ### Buffers claimed -/

theorem holdBuffers_eq (c : Nat) (l : List Nat) (s : State) : ∃ buffers, l.foldl (holdBuffer c) s = s.withBuffers buffers := by
  induction l generalizing s with
  | nil => exact ⟨s.ste.buffers, rfl⟩
  | cons b rest ih =>
    obtain ⟨buffers, h⟩ := ih (holdBuffer c s b)
    exact ⟨buffers, h⟩

theorem crewClaim_eq (c : Nat) (s : State) : ∃ buffers, crewClaim c s = s.withBuffers buffers := holdBuffers_eq ..

theorem holdBuffers_setChannel (c d : Nat) (k : Channel) (l : List Nat) (s : State) :
    l.foldl (holdBuffer c) (s.setChannel d k) = (l.foldl (holdBuffer c) s).setChannel d k := by
  induction l generalizing s with
  | nil => rfl
  | cons b rest ih => exact ih (holdBuffer c s b)

theorem buffers_buffer {s t : State} (h : s.ste.buffers = t.ste.buffers) (b : Nat) : s.buffer b = t.buffer b := by
  unfold State.buffer; rw [h]

section

variable {s t : State} (h : s.ste.buffers = t.ste.buffers)

include h

theorem buffers_where (f : TileBuffer → Bool) : s.buffersWhere f = t.buffersWhere f :=
  buffersWhere_congr fun b _ => by rw [buffers_buffer h]

theorem claimable_congr (c : Nat) : claimable (s.heldBy c) s.freeBuffers = claimable (t.heldBy c) t.freeBuffers := by
  unfold State.heldBy State.freeBuffers
  rw [buffers_where h, buffers_where h]

theorem holdBuffers_buffers (c : Nat) (l : List Nat) :
    (l.foldl (holdBuffer c) s).ste.buffers = (l.foldl (holdBuffer c) t).ste.buffers := by
  induction l generalizing s t with
  | nil => exact h
  | cons b rest ih =>
    exact ih (s := holdBuffer c s b) (t := holdBuffer c t b)
      (congrArg (fun buffers => tset buffers b (TileBuffer.mk (some c) .empty)) h)

/-- What a channel claims depends on the buffers alone. -/
theorem crewClaim_emptyBuffers (c : Nat) : (crewClaim c s).emptyBuffers c = (crewClaim c t).emptyBuffers c := by
  refine buffers_where ?_ _
  unfold crewClaim claimBuffers
  rw [claimable_congr h, buffers_where h]
  exact holdBuffers_buffers h c _

end

theorem crewClaim_setChannel (c d : Nat) (k : Channel) (s : State) :
    crewClaim c (s.setChannel d k) = (crewClaim c s).setChannel d k := by
  unfold crewClaim claimBuffers
  have hb : (s.setChannel d k).ste.buffers = s.ste.buffers := rfl
  rw [claimable_congr hb, buffers_where hb]
  exact holdBuffers_setChannel ..

section

variable (c : Nat) (s : State)

theorem crewClaim_channel (d : Nat) : (crewClaim c s).channel d = s.channel d := by
  obtain ⟨buffers, h⟩ := crewClaim_eq c s
  rw [h]; rfl

theorem crewClaim_rlc : (crewClaim c s).rlc = s.rlc := by
  obtain ⟨buffers, h⟩ := crewClaim_eq c s
  rw [h]; rfl

end

/-! ### A window asked for -/

/-- The payload of the SHEET REQUEST of a channel's window up to a tile. -/
def Channel.requestOf (k : Channel) (last : Nat) : List Byte :=
  [byte k.tag, byte k.floor, byte k.kind] ++ be16 k.pinned ++ be16 k.fetch ++ be16 last ++
    [if k.fetch < last then 1#8 else 0#8]

theorem requestOf_eq (k : Channel) (last : Nat) :
    sheetRequestPayload k.tag k.floor k.kind k.pinned k.fetch last (decide (k.fetch < last)) = k.requestOf last := by
  rw [sheetRequestPayload, Channel.requestOf]
  by_cases h : k.fetch < last
  · rw [decide_eq_true h, if_pos h]; rfl
  · rw [decide_eq_false h, if_neg h]; rfl

theorem submitSheet_queued {w : State} (hq : w.rlc.answer = .queued) (kind : FrameKind) (dest : Nat) (payload : List Byte)
    (who : Submitter) : submitSheet kind dest payload who w = w.queueControl kind dest payload who := by
  simp only [submitSheet, hq, if_true, State.modRlc, submit_queued hq]
  rfl

section

variable {c : Nat} {w : State} {k : Channel}

theorem submitRequest_queued (hk : w.channel c = k) {last a : Nat} (hw : k.window = some (k.fetch, last))
    (ha : k.currentPeer = some a) (hq : w.rlc.answer = .queued) : submitRequest c w =
      (w.setChannel c { k with queueFullWait := none }).queueControl .sheetRequest a (k.requestOf last)
        (.request c k.gapRequest) := by
  simp only [submitRequest, hk, hw, ha, hq, submitSheet_queued hq, requestOf_eq]
  obtain ⟨u, hu⟩ : ∃ u, u = w.queueControl .sheetRequest a (k.requestOf last) (.request c k.gapRequest) := ⟨_, rfl⟩
  have huk : u.channel c = k := by rw [hu]; exact hk
  rw [← hu, modChannel_eq huk, hu, hw]
  rfl

theorem buildWindow_waits (hk : w.channel c = k) (hn : min 4 ((crewClaim c w).emptyBuffers c).length = 0) :
    buildWindow c w = (crewClaim c w).setChannel c { k with wantWindow := true } := by
  rw [buildWindow, if_pos hn]
  exact modChannel_eq ((crewClaim_channel c w c).trans hk) _

theorem buildWindow_asks (hc : c < 6) (hk : w.channel c = k) {n a last : Nat}
    (hn : n = min 4 ((crewClaim c w).emptyBuffers c).length) (hpos : 1 ≤ n)
    (hlast : last = min (k.fetch + n - 1) k.curLast) (ha : k.currentPeer = some a) (hq : w.rlc.answer = .queued) :
    buildWindow c w =
      ((crewClaim c w).setChannel c
        { k with wantWindow := false, window := some (k.fetch, last), queueFullWait := none }).queueControl
          .sheetRequest a (k.requestOf last) (.request c k.gapRequest) := by
  have hchannel := (crewClaim_channel c w c).trans hk
  have hrlc := crewClaim_rlc c w
  rw [buildWindow, ← hn, if_neg (by omega), modChannel_eq hchannel, ← hlast]
  generalize crewClaim c w = z at *
  rw [submitRequest_queued (k := { k with wantWindow := false, window := some (k.fetch, last) })
    (State.setChannel_channel_same hc _ z) rfl ha (by rw [State.setChannel_rlc, hrlc, hq]), setChannel_setChannel]
  rfl

/-! ### The next candidate -/

theorem nextSource_here {y : Nat} (hcand : k.candidates[k.position]? = some (.peer y)) (hy : w.present y = true) :
    w.nextSource k = some k.position := by
  have hlt : k.position < k.candidates.length := (List.getElem?_eq_some_iff.mp hcand).1
  rw [State.nextSource, List.find?_range_eq_some]
  refine ⟨?_, List.mem_range.mpr hlt, fun i hi => ?_⟩
  · simp [hcand, State.serves, hy]
  · simp [Nat.not_le.mpr hi]

theorem nextSource_none (h : k.candidates.length ≤ k.position) : w.nextSource k = none := by
  rw [State.nextSource, List.find?_eq_none]
  intro i hi
  have := List.mem_range.mp hi
  simp [show ¬k.position ≤ i by omega]

theorem chooseSource_asks (hc : c < 6) (hk : w.channel c = k) {y n last : Nat}
    (hcand : k.candidates[k.position]? = some (.peer y)) (hy : w.present y = true)
    (hn : n = min 4 ((crewClaim c w).emptyBuffers c).length) (hpos : 1 ≤ n)
    (hlast : last = min (k.fetch + n - 1) k.curLast) (hq : w.rlc.answer = .queued) : chooseSource c w =
      ((crewClaim c w).setChannel c
        { k with state := .request, wantWindow := false, window := some (k.fetch, last), queueFullWait := none }).queueControl
          .sheetRequest y (k.requestOf last) (.request c k.gapRequest) := by
  have hpeer : ({ k with state := .request, window := none } : Channel).currentPeer = some y := by
    rw [Channel.currentPeer, Channel.current, hcand]
  simp only [chooseSource, hk, nextSource_here hcand hy, enterSource, hcand]
  rw [buildWindow_asks (k := { k with state := .request, window := none }) hc (State.setChannel_channel_same hc _ w)
    (hn.trans (by rw [crewClaim_emptyBuffers (show (w.setChannel c _).ste.buffers = w.ste.buffers from rfl)])) hpos hlast hpeer
    (by rw [State.setChannel_rlc, hq]), crewClaim_setChannel, setChannel_setChannel]
  rfl

/-- A channel whose list is exhausted, without a fallback and without a restart, fails (R133, case 3). -/
theorem chooseSource_fails (hc : c < 6) (hk : w.channel c = k) (hall : k.candidates.length = k.position)
    (hnone : k.record = none) (hrestart : k.pinned = 0 ∨ k.restartUsed = true) :
    chooseSource c w = endTransfer c (.failed k.failReason) (w.setChannel c k) := by
  have hsame : ({ k with position := k.candidates.length } : Channel) = k := by rw [hall]
  simp only [chooseSource, hk, nextSource_none (Nat.le_of_eq hall), hsame, exhausted, State.setChannel_channel_same hc]
  have hfall : k.hasFallback = false := by rw [Channel.hasFallback, hnone]
  rw [hfall, if_neg Bool.false_ne_true, if_neg]
  rintro ⟨hp, hr⟩
  rcases hrestart with h | h
  · exact hp h
  · rw [h] at hr
    exact Bool.noConfusion hr

end

/-! ### A channel that leaves its candidate -/

theorem withdrawRequests_none (c : Nat) {r : RiserLink} (h : r.control = []) : r.withdrawRequests c = r := by
  have hsame : { r with control := [] } = r := by rw [← h]
  rw [RiserLink.withdrawRequests, h]
  exact hsame

theorem withdrawRequests_other (c : Nat) {r : RiserLink} {e : ControlEntry} (h : r.control = [e])
    (he : e.isRequestOf c = false) : r.withdrawRequests c = r := by
  rw [RiserLink.withdrawRequests, h]
  have hsame : { r with control := [e] } = r := by rw [← h]
  simp only [he, List.filter_nil, List.append_nil, Bool.false_eq_true, if_false]
  exact hsame

section

variable {c : Nat} {w : State} {k : Channel}

theorem moveNext_silent (hk : w.channel c = k) (hnone : w.rlc.control = []) :
    moveNext c false w = chooseSource c (w.setChannel c k.leave) := by
  simp only [moveNext, Bool.false_and, Bool.false_eq_true, if_false, withdrawRequest, State.modRlc,
    withdrawRequests_none c hnone]
  rw [modChannel_eq hk]

theorem moveNext_cancels (hk : w.channel c = k) {x : Nat} (hx : k.currentPeer = some x) (hp : w.present x = true)
    (hb : w.rlc.blocks.any = false) (hnone : w.rlc.control = []) : moveNext c true w =
      chooseSource c ((w.queueControl .sheetCancel x [byte k.tag] .cancel).setChannel c k.leave) := by
  have hq : w.rlc.answer = .queued := answer_queued hb (by rw [hnone]; exact Nat.zero_lt_succ 7)
  have hcancel : submitCancel c w = w.queueControl .sheetCancel x [byte k.tag] .cancel := by
    simp only [submitCancel, hk, hx, submitSheet_queued hq]
  have hpresent : w.currentPresent k = true := by rw [State.currentPresent, hx]; exact hp
  simp only [moveNext, hk, hpresent, Bool.and_self, if_true, hcancel]
  obtain ⟨u, hu⟩ : ∃ u, u = w.queueControl .sheetCancel x [byte k.tag] .cancel := ⟨_, rfl⟩
  have hcontrol : u.rlc.control = [⟨.sheetCancel, x, [byte k.tag], .cancel, false⟩] := by
    rw [hu]
    exact congrArg (· ++ _) hnone
  have huk : u.channel c = k := by rw [hu]; exact hk
  rw [← hu, withdrawRequest, State.modRlc, withdrawRequests_other c hcontrol rfl, modChannel_eq huk]

end

/-! ### A transfer that has ended -/

theorem endTransfer_parts {c : Nat} (hc : c < 6) (result : TransferResult) (s : State) :
    (endTransfer c result s).channel c =
      { (s.channel c).stopped with window := none, missingDue := [], result := some result } ∧
    (∀ d, d ≠ c → (endTransfer c result s).channel d = s.channel d) ∧
    (endTransfer c result s).rlc = s.rlc.withdrawRequests c ∧
    (endTransfer c result s).ste.counters = s.ste.counters.ended result := by
  obtain ⟨before, hw, -⟩ := withdrawReads_eq c s
  obtain ⟨after, hd, -⟩ := discardTiles_eq c (withdrawRequest c (withdrawReads c s))
  rw [endTransfer, hd, hw]
  obtain ⟨u, hu⟩ : ∃ u, u = (withdrawRequest c ((s.readsGone c).withBuffers before)).withBuffers after := ⟨_, rfl⟩
  have hchannels : ∀ d, u.channel d = s.channel d := fun d => by rw [hu]; rfl
  have hrlc : u.rlc = s.rlc.withdrawRequests c := by rw [hu]; rfl
  have hcounters : u.ste.counters = s.ste.counters := by rw [hu]; rfl
  rw [← hu, modChannel_eq (hchannels c), ← hcounters, ← hrlc]
  exact ⟨State.setChannel_channel_same hc _ u,
    fun d hd => (State.setChannel_channel_ne (Ne.symm hd) _ u).trans (hchannels d), rfl, rfl⟩

end Sys2Proof.Machine
end

section
/-! SUPPORT. SHEET REFUSE, SHEET CANCEL and SHEET TILE from a peer, case by case (R128 to R133, R142). -/

namespace Sys2Proof.Machine

open Sys2Proof

/-! ### Frames to the station -/

section

variable {x dest : Byte} {s : State} (h : s.canTake x.toNat) (hd : dest.toNat = s.address)
  (ha : validAddress s.address = true) (p : List Byte)

include h hd ha

theorem exec_sheetRefuse : exec (.sheetRefuse x dest p) s =
    .next (settle s (takeSheetRefuse x.toNat p (frameHeard x.toNat .other (s.accepted .control x.toNat false)))) :=
  addressed_taken h (kind := .sheetRefuse) rfl hd ha p
    (fun t => takeSheetRefuse x.toNat p (frameHeard x.toNat .other t)) rfl

theorem exec_sheetCancel : exec (.sheetCancel x dest p) s =
    .next (settle s (takeSheetCancel x.toNat p (frameHeard x.toNat .other (s.accepted .control x.toNat false)))) :=
  addressed_taken h (kind := .sheetCancel) rfl hd ha p
    (fun t => takeSheetCancel x.toNat p (frameHeard x.toNat .other t)) rfl

theorem exec_sheetTile : exec (.sheetTile x dest p) s =
    .next (settle s (takeSheetTile x.toNat p (frameHeard x.toNat .other (s.accepted .bulk x.toNat
      (decide (byteAt p 13 = 1) && s.rlc.alarmPending && !s.rlc.blocks.any))))) := by
  refine addressed_taken h (kind := .sheetTile) rfl hd ha p
    (fun t => takeSheetTile x.toNat p (frameHeard x.toNat .other t)) ?_
  rw [decide_eq_true rfl, Bool.true_and, tileMoreFollows]

end

/-! ### What a frame heard leaves to the transfers -/

section

variable {k : AccessClass} {x : Nat} {yields : Bool} {s v : State} (h : FrameHeard k x yields s v)

include h

theorem FrameHeard.ste : v.ste = s.ste := by
  have hrest := congrArg State.ste h.rest
  exact hrest

theorem FrameHeard.clock : v.clock = s.clock := by
  have hrest := congrArg State.clock h.rest
  exact hrest

theorem FrameHeard.zones : v.zones = s.zones := by
  have hrest := congrArg State.zones h.rest
  exact hrest

theorem FrameHeard.address : v.address = s.address := by
  have hrest := congrArg State.address h.rest
  exact hrest

theorem FrameHeard.control : v.rlc.control = s.rlc.control := by rw [h.link]; rfl

theorem FrameHeard.blocks : v.rlc.blocks = s.rlc.blocks := by rw [h.link]; rfl

theorem FrameHeard.channel (c : Nat) : v.channel c = s.channel c := by unfold State.channel; rw [h.ste]

theorem FrameHeard.channelOfTag (tag : Nat) : v.channelOfTag tag = s.channelOfTag tag := by
  unfold State.channelOfTag
  simp only [h.channel]

theorem FrameHeard.peer (y : Nat) : v.peer y = (s.setPeer x { s.peer x with
    presence := .present, silence := some s.clock, framesHeard := min 65535 ((s.peer x).framesHeard + 1) }).peer y :=
  congrArg (fun t : PeerTable => tget PeerRecord.atReset t.records y) h.peers

theorem FrameHeard.isPeer (y : Nat) : v.isPeer y = s.isPeer y := by unfold State.isPeer; rw [h.address]

/-- The sender is PRESENT (R50). -/
theorem FrameHeard.present_sender (hpeer : s.isPeer x = true) : v.present x = true := by
  rw [State.present, h.isPeer, hpeer, h.peer, State.setPeer_peer_same (Nat.lt_of_le_of_lt (isPeer_le hpeer) (by decide))]
  rfl

/-- A PRESENT peer stays PRESENT. -/
theorem FrameHeard.present_kept (hpeer : s.isPeer x = true) {y : Nat} (hy : s.present y = true) : v.present y = true := by
  by_cases hyx : y = x
  · rw [hyx]
    exact h.present_sender hpeer
  · obtain ⟨hpy, hpres⟩ := Bool.and_eq_true_iff.mp hy
    rw [State.present, h.isPeer, hpy, h.peer, State.setPeer_peer_ne (Ne.symm hyx), hpres]
    rfl

end

theorem channelOfTag_lt {tag c : Nat} {s : State} (h : s.channelOfTag tag = some c) : c < 6 :=
  List.mem_range.mp (List.mem_of_find?_eq_some h)

/-! ### A SHEET REFUSE -/

section

variable {x : Nat} {p : List Byte} {v : State} {c : Nat} {k : Channel}

theorem takeSheetRefuse_taken {reason : RefuseReason} (hlen : p.length = 2)
    (hr : RefuseReason.ofCode (byteAt p 1) = some reason) (hc : v.channelOfTag (byteAt p 0) = some c) (hk : v.channel c = k)
    (hf : k.fetching = true) (hp : k.currentPeer = some x) : takeSheetRefuse x p v = channelRefused c reason v := by
  simp only [takeSheetRefuse, hlen, if_true, hr, hc, hk, hf, hp, decide_true, Bool.and_self]

theorem ofCode_none {n : Nat} (h : n = 0 ∨ 5 < n) : RefuseReason.ofCode n = none := by
  rcases h with rfl | h
  · rfl
  · obtain ⟨m, rfl⟩ : ∃ m, n = m + 6 := ⟨n - 6, by omega⟩
    rfl

theorem takeSheetRefuse_stray (h : p.length ≠ 2 ∨ byteAt p 1 = 0 ∨ 5 < byteAt p 1 ∨ v.channelOfTag (byteAt p 0) = none ∨
    (∃ c, v.channelOfTag (byteAt p 0) = some c ∧ ((v.channel c).currentPeer ≠ some x ∨
      (v.channel c).isRemote = false ∨ (v.channel c).result ≠ none))) : takeSheetRefuse x p v =
    v.countTransfers fun n => { n with strayRefuses := countUp n.strayRefuses } := by
  unfold takeSheetRefuse
  extract_lets stray
  split
  · rename_i reason c hreason hchannel
    obtain ⟨hlen, hcode⟩ : p.length = 2 ∧ RefuseReason.ofCode (byteAt p 1) = some reason := by
      by_cases hlen : p.length = 2
      · exact ⟨hlen, (if_pos hlen).symm.trans hreason⟩
      · rw [if_neg hlen] at hreason
        exact nomatch hreason
    have hno : ∀ n, n = 0 ∨ 5 < n → RefuseReason.ofCode n ≠ some reason := fun n hn he =>
      nomatch (ofCode_none hn).symm.trans he
    refine if_neg fun hyes => ?_
    rw [Bool.and_eq_true, Channel.fetching, Bool.and_eq_true, Bool.and_eq_true] at hyes
    obtain ⟨⟨⟨hremote, hnone⟩, -⟩, hpeer⟩ := hyes
    rcases h with h | h | h | h | ⟨d, hd, h⟩
    · exact h hlen
    · exact hno _ (.inl h) hcode
    · exact hno _ (.inr h) hcode
    · exact nomatch h.symm.trans hchannel
    · obtain rfl : d = c := Option.some.inj (hd.symm.trans hchannel)
      rcases h with h | h | h
      · exact h (of_decide_eq_true hpeer)
      · rw [h] at hremote
        exact Bool.noConfusion hremote
      · exact h (Option.isNone_iff_eq_none.mp hnone)
  · rfl

theorem setChannel_self {s : State} (hk : s.channel c = k) : s.setChannel c k = s := by
  have h : tset s.ste.channels c k = s.ste.channels := by
    rw [← hk]
    refine Vector.toList_inj.mp (List.ext_getElem (by simp [tset]) fun i h1 h2 => ?_)
    simp only [tset, Vector.toList_mk, List.getElem_set, State.channel, tget]
    split
    · rename_i hci
      subst hci
      exact (List.getD_eq_getElem _ _ h2)
    · rfl
  exact congrArg (fun channels => { s with ste := { s.ste with channels := channels } }) h

/-- The third BUSY of a request and every other refuse send the channel to its next candidate (R128, R132). -/
theorem channelRefused_moves {reason : RefuseReason} (hk : v.channel c = k)
    (h : ¬(reason = .busy ∧ k.state = .request ∧ k.busyRetries < 3)) : channelRefused c reason v =
      moveNext c false (v.setChannel c (if reason = .busy ∧ k.state = .request then k else k.refused reason)) := by
  by_cases hb : k.state = .request ∧ reason = .busy
  · have hno : ¬k.busyRetries < 3 := fun hlt => h ⟨hb.2, hb.1, hlt⟩
    simp only [channelRefused, hk, if_pos hb, if_neg hno, if_pos hb.symm]
    rw [setChannel_self hk]
  · simp only [channelRefused, hk, if_neg hb, if_neg fun g : reason = .busy ∧ k.state = .request => hb g.symm]
    rw [modChannel_eq hk]

theorem channelRefused_busy (hk : v.channel c = k) (hs : k.state = .request) (hb : k.busyRetries < 3) :
    channelRefused c .busy v = v.setChannel c
      { k with responseTimer := none, busyRetries := k.busyRetries + 1, busyWait := some v.clock } := by
  simp only [channelRefused, hk, and_true, if_pos hs, if_pos hb]
  rw [modChannel_eq hk]

/-- The reason of a refuse byte, as the statement writes the last refuse. -/
theorem ofCode_byte {b : Byte} (h1 : 1 ≤ b.toNat) (h5 : b.toNat ≤ 5) : ∃ reason, RefuseReason.ofCode b.toNat = some reason ∧
    (reason = .busy ↔ b = 3#8) ∧ some reason = (if b = 1#8 then some .noSheet else if b = 2#8 then some .revision
      else if b = 3#8 then some .busy else if b = 4#8 then some .storeFault else some .range) := by
  have hb : b = 1#8 ∨ b = 2#8 ∨ b = 3#8 ∨ b = 4#8 ∨ b = 5#8 := by
    have hcases : b.toNat = 1 ∨ b.toNat = 2 ∨ b.toNat = 3 ∨ b.toNat = 4 ∨ b.toNat = 5 := by omega
    exact hcases.imp BitVec.eq_of_toNat_eq (.imp BitVec.eq_of_toNat_eq
      (.imp BitVec.eq_of_toNat_eq (.imp BitVec.eq_of_toNat_eq BitVec.eq_of_toNat_eq)))
  rcases hb with rfl | rfl | rfl | rfl | rfl
  · exact ⟨.noSheet, rfl, by decide, rfl⟩
  · exact ⟨.revision, rfl, by decide, rfl⟩
  · exact ⟨.busy, rfl, by decide, rfl⟩
  · exact ⟨.storeFault, rfl, by decide, rfl⟩
  · exact ⟨.range, rfl, by decide, rfl⟩

end

/-! ### A channel that asks its next candidate -/

/-- A channel has been given a window and its request has joined the CONTROL queue. -/
theorem asked_parts {c : Nat} (hc : c < 6) (k : Channel) (y : Nat) (payload : List Byte) (who : Submitter) (w : State) :
    let u := ((crewClaim c w).setChannel c k).queueControl .sheetRequest y payload who
    u.channel c = k ∧ u.rlc.control = w.rlc.control ++ [⟨.sheetRequest, y, payload, who, false⟩] ∧
      (∀ d, d ≠ c → u.channel d = w.channel d) ∧ u.ste.counters = w.ste.counters := by
  obtain ⟨buffers, hw⟩ := crewClaim_eq c w
  rw [hw]
  exact ⟨State.setChannel_channel_same hc k (w.withBuffers buffers), rfl,
    fun d hd => State.setChannel_channel_ne (Ne.symm hd) k (w.withBuffers buffers), rfl⟩

/-! ### A SHEET TILE -/

section

variable {x : Nat} {p : List Byte} {t : State} {c : Nat} {k : Channel}

theorem sheetTileGood_iff (p : List Byte) : sheetTileGood p = true ↔ p.length = 270 ∧ byteAt p 2 ≤ 5 ∧ 1 ≤ halfAt p 3 ∧
    1 ≤ halfAt p 7 ∧ halfAt p 7 ≤ 1024 ∧ halfAt p 5 < halfAt p 7 ∧ byteAt p 13 ≤ 1 := by
  simp only [sheetTileGood, Bool.and_eq_true, decide_eq_true_eq, and_assoc, ← Nat.one_le_iff_ne_zero]

/-- The tile a channel expects, in a window not complete (R129). -/
theorem expected_fetch {w : Nat × Nat} (hw : k.window = some w) (h1 : w.1 ≤ k.fetch) (h2 : k.fetch ≤ w.2)
    (h3 : k.fetch ≤ k.curLast) : k.expected = some k.fetch := by
  rw [Channel.expected, hw]
  exact if_pos ⟨h1, Nat.le_min.mpr ⟨h2, h3⟩⟩

theorem expected_le {n : Nat} (h : k.expected = some n) : n = k.fetch := by
  unfold Channel.expected at h
  split at h
  · exact nomatch h
  · split at h
    · exact (Option.some.inj h).symm
    · exact nomatch h

theorem takeSheetTile_stray (h : sheetTileGood p = false ∨ t.channelOfTag (byteAt p 0) = none ∨
    (∃ c, t.channelOfTag (byteAt p 0) = some c ∧ ((t.channel c).currentPeer ≠ some x ∨
      (t.channel c).isRemote = false ∨ (t.channel c).result ≠ none ∨ halfAt p 5 < (t.channel c).fetch))) :
    takeSheetTile x p t = strayTile t := by
  rcases h with h | h | ⟨c, hc, h⟩
  · simp only [takeSheetTile, h, Bool.not_false, if_true]
  · simp only [takeSheetTile, h, ite_self]
  · have hno : ∀ n, ¬((t.channel c).isRemote = true ∧ (t.channel c).result.isNone = true ∧ (t.channel c).currentPeer = some x ∧
        (t.channel c).expected = some n ∧ n ≤ halfAt p 5) := by
      rintro n ⟨hremote, hnone, hpeer, hexp, hle⟩
      rcases h with h | h | h | h
      · exact h hpeer
      · rw [h] at hremote
        exact Bool.noConfusion hremote
      · exact h (Option.isNone_iff_eq_none.mp hnone)
      · rw [expected_le hexp] at hle
        omega
    have hfits : t.tileFits x p c = false := by
      rw [← Bool.not_eq_true]
      intro hyes
      simp only [State.tileFits, Bool.and_eq_true, decide_eq_true_eq] at hyes
      obtain ⟨⟨⟨⟨⟨⟨⟨hremote, hnone⟩, hpeer⟩, -⟩, -⟩, -⟩, hexp⟩, -⟩ := hyes
      exact hno _ ⟨hremote, hnone, hpeer, hexp, Nat.le_refl _⟩
    have hgaps : t.tileGaps x p c = false := by
      rw [← Bool.not_eq_true]
      intro hyes
      simp only [State.tileGaps, Bool.and_eq_true, decide_eq_true_eq] at hyes
      obtain ⟨⟨⟨hstate, hnone⟩, hpeer⟩, hexp⟩ := hyes
      split at hexp
      · exact Bool.noConfusion hexp
      · rename_i n hn
        exact hno n ⟨by simp [Channel.isRemote, hstate], hnone, hpeer, hn, Nat.le_of_lt (of_decide_eq_true hexp)⟩
    simp only [takeSheetTile, hc, hfits, hgaps, Bool.false_eq_true, if_false, ite_self]

/-- The expected tile is taken into the lowest empty buffer of its channel (R129, log 26). -/
theorem takeSheetTile_accepts {b : Nat} {rest : List Nat} {w : Nat × Nat} (hgood : sheetTileGood p = true)
    (hc : t.channelOfTag (byteAt p 0) = some c) (hk : t.channel c = k) (hstate : k.state = .request ∨ k.state = .receive)
    (hnone : k.result = none) (hpeer : k.currentPeer = some x) (hfloor : k.floor = byteAt p 1) (hkind : k.kind = byteAt p 2)
    (hpin : k.pinned = 0 ∨ k.pinned = halfAt p 3) (hw : k.window = some w) (h1 : w.1 ≤ k.fetch) (h2 : k.fetch ≤ w.2)
    (h3 : k.fetch ≤ k.curLast) (hfetch : k.fetch = halfAt p 5) (hempty : t.emptyBuffers c = b :: rest) :
    takeSheetTile x p t =
      (t.setBuffer b { holder := some c, state := .full (halfAt p 5) (p.drop 14) }).setChannel c
        { k with
          state := .receive, fetch := halfAt p 5 + 1, curLast := min k.curLast (halfAt p 7 - 1), pinned := halfAt p 3,
          gapStrike := 0, responseTimer := none, busyWait := none,
          gapTimer := if min w.2 (min k.curLast (halfAt p 7 - 1)) ≤ halfAt p 5 then none else some t.clock } := by
  have hremote : k.isRemote = true := by
    rcases hstate with h | h <;> simp [Channel.isRemote, h]
  have hfits : t.tileFits x p c = true := by
    have hexp := expected_fetch hw h1 h2 h3
    rcases hpin with h | h <;>
      simp [State.tileFits, hk, hremote, hnone, hpeer, hfloor, hkind, h, hexp, hfetch, hempty]
  have haccept : k.accept t.clock p = { k with
      state := .receive, fetch := halfAt p 5 + 1, curLast := min k.curLast (halfAt p 7 - 1), pinned := halfAt p 3,
      gapStrike := 0, responseTimer := none, busyWait := none,
      gapTimer := if min w.2 (min k.curLast (halfAt p 7 - 1)) ≤ halfAt p 5 then none else some t.clock } := by
    have hpinned : (if k.pinned = 0 then halfAt p 3 else k.pinned) = halfAt p 3 := by
      split
      · rfl
      · exact hpin.resolve_left ‹_›
    simp only [Channel.accept, hw, hpinned, hfetch, decide_eq_true_eq, Nat.lt_succ_iff]
  simp only [takeSheetTile, hgood, hc, hfits, acceptTile, hempty, List.head?_cons, if_true, Bool.not_true,
    Bool.false_eq_true, if_false]
  obtain ⟨u, hu⟩ : ∃ u, u = t.setBuffer b { holder := some c, state := .full (halfAt p 5) (p.drop 14) } := ⟨_, rfl⟩
  have huk : u.channel c = k := by rw [hu]; exact hk
  rw [← hu, modChannel_eq huk, haccept]

/-- A tile above the expected one, in an open window, is a gap (R130). -/
theorem takeSheetTile_gap {w : Nat × Nat} (hgood : sheetTileGood p = true) (hc : t.channelOfTag (byteAt p 0) = some c)
    (hk : t.channel c = k) (hstate : k.state = .receive) (hnone : k.result = none) (hpeer : k.currentPeer = some x)
    (hw : k.window = some w) (h1 : w.1 ≤ k.fetch) (h2 : k.fetch ≤ w.2) (h3 : k.fetch ≤ k.curLast)
    (hgap : k.fetch < halfAt p 5) : takeSheetTile x p t = gapEvent c (strayTile t) := by
  have hexp := expected_fetch hw h1 h2 h3
  have hfits : t.tileFits x p c = false := by
    simp [State.tileFits, hk, hexp, show k.fetch ≠ halfAt p 5 by omega]
  have hgaps : t.tileGaps x p c = true := by
    simp [State.tileGaps, hk, hstate, hnone, hpeer, hexp, hgap]
  simp only [takeSheetTile, hgood, hc, hfits, hgaps, if_true, Bool.not_true, Bool.false_eq_true, if_false]

end

/-- A channel's strike of the first gap, with its tiles to be asked for again (R130). -/
theorem gapEvent_first {c : Nat} {w : State} {k : Channel} (hk : w.channel c = k) (h : k.gapStrike = 0) :
    gapEvent c w = buildWindow c (w.setChannel c { k with gapStrike := 1, gapRequest := true }) := by
  rw [gapEvent, hk, if_pos h, modChannel_eq hk]

theorem gapEvent_second {c : Nat} {w : State} {k : Channel} (hk : w.channel c = k) (h : k.gapStrike ≠ 0) :
    gapEvent c w = moveNext c true w := by rw [gapEvent, hk, if_neg h]

end Sys2Proof.Machine
end

section
/-! SUPPORT. A channel's move to its next candidate, and its end with none left (R132, R133). -/

namespace Sys2Proof.Machine

open Sys2Proof

section

variable {c : Nat} (hc : c < 6) {w : State} {l : Channel} (hl : w.channel c = l) (hb : w.rlc.blocks.any = false)
  (hnone : w.rlc.control = [])

include hc hl hb hnone

/-- A refused channel asks its next candidate, with the CONTROL queue otherwise empty. -/
theorem moveNext_asks {y n last : Nat} (hcand : l.candidates[l.position + 1]? = some (.peer y)) (hy : w.present y = true)
    (hn : n = min 4 ((crewClaim c w).emptyBuffers c).length) (hpos : 1 ≤ n)
    (hlast : last = min (l.fetch + n - 1) l.curLast) :
    (moveNext c false w).channel c = { l.stopped with
      state := .request, busyRetries := 0, gapStrike := 0, position := l.position + 1, window := some (l.fetch, last) } ∧
    (moveNext c false w).rlc.control = [⟨.sheetRequest, y, l.requestOf last, .request c false, false⟩] ∧
    (∀ d, d ≠ c → (moveNext c false w).channel d = w.channel d) ∧
    (moveNext c false w).ste.counters = w.ste.counters := by
  have hq : (w.setChannel c l.leave).rlc.answer = .queued := answer_queued hb (by rw [State.setChannel_rlc, hnone]; decide)
  have hsame := crewClaim_emptyBuffers (show (w.setChannel c l.leave).ste.buffers = w.ste.buffers from rfl) c
  rw [moveNext_silent hl hnone, chooseSource_asks (k := l.leave) hc (State.setChannel_channel_same hc _ w) hcand hy
    (hn.trans (by rw [hsame])) hpos hlast hq]
  obtain ⟨hchannel, hcontrol, hothers, hcounters⟩ := asked_parts hc
    { l.leave with state := .request, wantWindow := false, window := some (l.leave.fetch, last), queueFullWait := none }
    y (l.leave.requestOf last) (.request c l.leave.gapRequest) (w.setChannel c l.leave)
  refine ⟨hchannel, ?_, fun d hd => (hothers d hd).trans (State.setChannel_channel_ne (Ne.symm hd) _ w), hcounters⟩
  rw [hcontrol, State.setChannel_rlc, hnone]
  rfl

/-- A channel after its second gap cancels the transfer it leaves and asks its next candidate. -/
theorem moveNext_cancelsAndAsks {x y n last : Nat} (hx : l.currentPeer = some x) (hp : w.present x = true)
    (hcand : l.candidates[l.position + 1]? = some (.peer y)) (hy : w.present y = true)
    (hn : n = min 4 ((crewClaim c w).emptyBuffers c).length) (hpos : 1 ≤ n)
    (hlast : last = min (l.fetch + n - 1) l.curLast) :
    (moveNext c true w).channel c = { l.stopped with
      state := .request, busyRetries := 0, gapStrike := 0, position := l.position + 1, window := some (l.fetch, last) } ∧
    (moveNext c true w).rlc.control = [⟨.sheetCancel, x, [byte l.tag], .cancel, false⟩,
      ⟨.sheetRequest, y, l.requestOf last, .request c false, false⟩] ∧
    (∀ d, d ≠ c → (moveNext c true w).channel d = w.channel d) ∧
    (moveNext c true w).ste.counters = w.ste.counters := by
  have hmove := moveNext_cancels hl hx hp hb hnone
  obtain ⟨z, hz⟩ : ∃ z, z = w.queueControl .sheetCancel x [byte l.tag] .cancel := ⟨_, rfl⟩
  have hcancel : z.rlc.control = [⟨.sheetCancel, x, [byte l.tag], .cancel, false⟩] := by
    rw [hz]
    exact congrArg (· ++ _) hnone
  have hblocks : z.rlc.blocks.any = false := by rw [hz]; exact hb
  have hste : z.ste = w.ste := by rw [hz]; rfl
  have hyz : z.present y = true := by rw [hz]; exact hy
  rw [← hz] at hmove
  clear hz
  have hq : (z.setChannel c l.leave).rlc.answer = .queued :=
    answer_queued hblocks (by rw [State.setChannel_rlc, hcancel]; exact Nat.succ_lt_succ (Nat.zero_lt_succ 6))
  have hsame := crewClaim_emptyBuffers (show (z.setChannel c l.leave).ste.buffers = w.ste.buffers by
    show z.ste.buffers = w.ste.buffers
    rw [hste]) c
  rw [hmove, chooseSource_asks (k := l.leave) hc (State.setChannel_channel_same hc _ z) hcand hyz (hn.trans (by rw [hsame])) hpos hlast hq]
  obtain ⟨hchannel, hcontrol, hothers, hcounters⟩ := asked_parts hc
    { l.leave with state := .request, wantWindow := false, window := some (l.leave.fetch, last), queueFullWait := none }
    y (l.leave.requestOf last) (.request c l.leave.gapRequest) (z.setChannel c l.leave)
  refine ⟨hchannel, ?_, fun d hd => ?_, hcounters.trans ?_⟩
  · rw [hcontrol, State.setChannel_rlc, hcancel]
    rfl
  · rw [hothers d hd, State.setChannel_channel_ne (Ne.symm hd), State.channel, hste, State.channel]
  · show z.ste.counters = w.ste.counters
    rw [hste]

omit hb in
/-- A refused channel with no candidate, no fallback and no restart left has failed. -/
theorem moveNext_fails (hall : l.candidates.length = l.position + 1) (hrestart : l.pinned = 0 ∨ l.restartUsed = true)
    (hrecord : l.record = none) :
    ((moveNext c false w).channel c).result =
      some (.failed (if l.lastRefuse = some .range then .range else .noHolder)) ∧
    ((moveNext c false w).channel c).window = none ∧ (moveNext c false w).rlc.control = [] ∧
    (moveNext c false w).ste.counters = { w.ste.counters with failed := min 65535 (w.ste.counters.failed + 1) } ∧
    ∀ d, d ≠ c → (moveNext c false w).channel d = w.channel d := by
  rw [moveNext_silent hl hnone,
    chooseSource_fails (k := l.leave) hc (State.setChannel_channel_same hc _ w) hall hrecord hrestart, setChannel_setChannel]
  obtain ⟨hchannel, hothers, hrlc, hcounters⟩ := endTransfer_parts hc (.failed l.leave.failReason) (w.setChannel c l.leave)
  rw [State.setChannel_channel_same hc] at hchannel
  refine ⟨congrArg Channel.result hchannel, congrArg Channel.window hchannel, ?_, hcounters,
    fun d hd => (hothers d hd).trans (State.setChannel_channel_ne (Ne.symm hd) _ w)⟩
  rw [hrlc, State.setChannel_rlc, withdrawRequests_none c hnone, hnone]

end

end Sys2Proof.Machine
end

section
/-! SUPPORT. A refuse and a gap, as the statement on the transfer frames writes them (R128, R130, R132, R133). -/

namespace Sys2Proof.Machine

open Sys2Proof

/-- The channel of a refuse, with the refuse recorded but for a BUSY in REQUEST (R128, log 19). -/
def Channel.recorded (k : Channel) (reason : Byte) : Channel :=
  if reason = 3#8 ∧ k.state = .request then k else { k with
    lastRefuse := if reason = 1#8 then some .noSheet else if reason = 2#8 then some .revision
      else if reason = 3#8 then some .busy else if reason = 4#8 then some .storeFault else some .range }

/-- Recording a refuse changes what it records alone. -/
theorem recorded_eq (k : Channel) (reason : Byte) : ∃ refuse, k.recorded reason = { k with lastRefuse := refuse } := by
  unfold Channel.recorded
  split
  · exact ⟨k.lastRefuse, rfl⟩
  · exact ⟨_, rfl⟩

/-- A refuse from the current candidate that is not a BUSY to be waited out sends the channel on, with the refuse recorded. -/
theorem takeSheetRefuse_moves {x c : Nat} {v : State} {k : Channel} {tag reason : Byte}
    (hc : v.channelOfTag tag.toNat = some c) (hk : v.channel c = k) (hremote : k.isRemote = true) (hnone : k.result = none)
    (hfetch : k.fetch ≤ k.curLast) (hp : k.currentPeer = some x) (h1 : 1 ≤ reason.toNat) (h5 : reason.toNat ≤ 5)
    (hmove : reason ≠ 3#8 ∨ k.state = .receive ∨ 3 ≤ k.busyRetries) :
    takeSheetRefuse x [tag, reason] v = moveNext c false (v.setChannel c (k.recorded reason)) := by
  obtain ⟨code, hcode, hbusy, hlast⟩ := ofCode_byte h1 h5
  have hf : k.fetching = true := by simp [Channel.fetching, hremote, hnone, hfetch]
  rw [takeSheetRefuse_taken (p := [tag, reason]) rfl hcode hc hk hf hp, channelRefused_moves hk]
  · congr 2
    unfold Channel.recorded Channel.refused
    rw [hlast]
    exact if_congr (and_congr_left' hbusy) rfl rfl
  · rintro ⟨hb, hstate, hlt⟩
    rcases hmove with h | h | h
    · exact h (hbusy.mp hb)
    · rw [hstate] at h
      exact nomatch h
    · omega

/-- The first gap of a window with room for tiles (R130). -/
theorem takeGap_asks {c : Nat} (hc : c < 6) {w z : State} {k : Channel} {x n last : Nat} (hk : w.channel c = k)
    (hpeer : k.currentPeer = some x) (hq : w.rlc.answer = .queued) (hz : z = crewClaim c w)
    (hn : n = min 4 (z.emptyBuffers c).length) (hlast : last = min (k.fetch + n - 1) k.curLast) (hg : k.gapStrike = 0)
    (hpos : 1 ≤ n) : gapEvent c w = (z.setChannel c
      { k with gapStrike := 1, gapRequest := true, wantWindow := false, window := some (k.fetch, last),
               queueFullWait := none }).queueControl .sheetRequest x (k.requestOf last) (.request c true) := by
  have hsame := crewClaim_emptyBuffers
    (show (w.setChannel c { k with gapStrike := 1, gapRequest := true }).ste.buffers = w.ste.buffers from rfl) c
  rw [gapEvent_first hk hg, buildWindow_asks (k := { k with gapStrike := 1, gapRequest := true }) hc
    (State.setChannel_channel_same hc _ w) (hn.trans (by rw [hsame, hz])) hpos hlast hpeer
    (by rw [State.setChannel_rlc, hq]), crewClaim_setChannel, setChannel_setChannel, hz]
  rfl

/-- The first gap of a window without room for tiles (R130). -/
theorem takeGap_waits {c : Nat} (hc : c < 6) {w z : State} {k : Channel} (hk : w.channel c = k) (hz : z = crewClaim c w)
    (hn : min 4 (z.emptyBuffers c).length = 0) (hg : k.gapStrike = 0) :
    gapEvent c w = z.setChannel c { k with gapStrike := 1, gapRequest := true, wantWindow := true } := by
  have hsame := crewClaim_emptyBuffers
    (show (w.setChannel c { k with gapStrike := 1, gapRequest := true }).ste.buffers = w.ste.buffers from rfl) c
  rw [gapEvent_first hk hg, buildWindow_waits (k := { k with gapStrike := 1, gapRequest := true })
    (State.setChannel_channel_same hc _ w) (by rw [hsame, ← hz, hn]), crewClaim_setChannel, setChannel_setChannel, hz]

end Sys2Proof.Machine

open Sys2Proof Sys2Proof.Machine

/-- Settles O36: each frame is taken in the state in which it is accepted and heard, which has the channels, the buffers and the
CONTROL queue of the state before it. -/
theorem sheetFramesTaken : Obligations.SheetFramesTaken := by
  intro x dest s h hdest ha
  have hpeer := h.2.2
  have hheard := frameHeard_isHeard .control false hpeer
  have hrefuse := exec_sheetRefuse h hdest ha
  have hcancel := exec_sheetCancel h hdest ha
  obtain ⟨v, hv⟩ : ∃ v, v = frameHeard x.toNat .other (s.accepted .control x.toNat false) := ⟨_, rfl⟩
  rw [← hv] at hheard hrefuse hcancel
  clear hv
  refine ⟨v, hheard, fun tag c hc hstate hnone hfetch hcur hbusy => ?_,
    fun tag reason c k l hc hk hremote hnone hfetch hcur h1 h5 hmove hl hb hcontrol => ?_, fun p hp => ?_,
    fun tag c hc => ?_, fun p hp => ?_, sheetTileGood_iff, fun p => ?_⟩
  · have hremote : (s.channel c).isRemote = true := by simp [Channel.isRemote, hstate]
    have hf : (s.channel c).fetching = true := by simp [Channel.fetching, hremote, hnone, hfetch]
    rw [hrefuse, takeSheetRefuse_taken (reason := .busy) rfl rfl (by rw [hheard.channelOfTag]; exact hc)
      (hheard.channel c) hf hcur, channelRefused_busy (hheard.channel c) hstate hbusy, hheard.clock]
  · have hlt := channelOfTag_lt hc
    replace hl : l = k.recorded reason := hl
    obtain ⟨refused, hrecorded⟩ := recorded_eq k reason
    have htake := takeSheetRefuse_moves (by rw [hheard.channelOfTag]; exact hc) ((hheard.channel c).trans hk.symm) hremote
      hnone hfetch hcur h1 h5 hmove
    rw [← hl] at htake hrecorded
    have hchannel : (v.setChannel c l).channel c = l := State.setChannel_channel_same hlt l v
    have hempty : (v.setChannel c l).rlc.control = [] := by rw [State.setChannel_rlc, hheard.control, hcontrol]
    have hclear : (v.setChannel c l).rlc.blocks.any = false := by rw [State.setChannel_rlc, hheard.blocks, hb]
    have hinner := (inner_setChannel c l v).trans (inner_moveNext c false (v.setChannel c l))
    have hcounters : (v.setChannel c l).ste.counters = s.ste.counters := by
      show v.ste.counters = s.ste.counters
      rw [hheard.ste]
    have hothers : ∀ d, d ≠ c → (v.setChannel c l).channel d = s.channel d := fun d hd =>
      (State.setChannel_channel_ne (Ne.symm hd) l v).trans (hheard.channel d)
    have hsame := crewClaim_emptyBuffers (show (v.setChannel c l).ste.buffers = v.ste.buffers from rfl) c
    rw [hrefuse, htake]
    refine ⟨fun y n last hcand hy hn hpos hlast => ⟨_, rfl, ?_⟩, fun hall hrestart hrecord => ⟨_, rfl, ?_⟩⟩
    · obtain ⟨hk', hcontrol', hothers', hcounters'⟩ := moveNext_asks (n := n) (last := last) hlt hchannel hclear hempty
        (by rw [hrecorded]; exact hcand) (hheard.present_kept hpeer hy) (hn.trans (by rw [hsame])) hpos
        (by rw [hrecorded]; exact hlast)
      rw [hk', hcontrol', hcounters', hcounters, hinner.picture, hinner.zones, hheard.zones, hinner.peers]
      refine ⟨?_, ?_, fun d _ hd => (hothers' d hd).trans (hothers d hd), rfl, rfl, rfl, rfl⟩
      · have hsamefetch : l.fetch = k.fetch := by rw [hrecorded]
        have hsameposition : l.position = k.position := by rw [hrecorded]
        rw [hsamefetch, hsameposition]
      · have hsamerequest : l.requestOf last = k.requestOf last := by rw [hrecorded]; rfl
        rw [hsamerequest]
        rfl
    · obtain ⟨hresult, hwindow, hcontrol', hcounters', hothers'⟩ := moveNext_fails hlt hchannel hempty
        (by rw [hrecorded]; exact hall) (by rw [hrecorded]; exact hrestart) (by rw [hrecorded]; exact hrecord)
      rw [hresult, hwindow, hcontrol', hcounters', hcounters, hinner.picture, hinner.zones, hheard.zones, hinner.peers]
      exact ⟨rfl, rfl, rfl, rfl, fun d _ hd => (hothers' d hd).trans (hothers d hd), rfl, rfl, rfl⟩
  · rw [hrefuse, takeSheetRefuse_stray (by simpa only [hheard.channelOfTag, hheard.channel] using hp)]
    rfl
  · refine ⟨_, hcancel _, ?_⟩
    have htake : takeSheetCancel x.toNat [tag] v = closeChannel c v := by
      simp only [takeSheetCancel, List.length_singleton, if_true, serviceOf_congr hheard.ste, byteAt_cons_zero, hc, endService]
    rw [htake]
    exact channelClosed (serviceOf_lt hc) v
  · rw [hcancel, takeSheetCancel, serviceOf_congr hheard.ste]
    have hnone : (if p.length = 1 then s.serviceOf x.toNat (byteAt p 0) else none) = none := by
      rcases hp with hp | hp
      · exact if_neg hp
      · rw [hp, ite_self]
    rw [hnone]
    rfl
  · have htile := exec_sheetTile h hdest ha p
    have hheard := frameHeard_isHeard .bulk (decide (byteAt p 13 = 1) && s.rlc.alarmPending && !s.rlc.blocks.any) hpeer
    generalize (decide (byteAt p 13 = 1) && s.rlc.alarmPending && !s.rlc.blocks.any) = yields at *
    obtain ⟨t, ht⟩ : ∃ t, t = frameHeard x.toNat .other (s.accepted .bulk x.toNat yields) := ⟨_, rfl⟩
    rw [← ht] at hheard htile
    clear ht
    refine ⟨t, hheard, fun c b rest w hgood hc hstate hnone hcur hfloor hkind hpin hw hw1 hw2 hw3 hfetch hempty => ?_,
      fun c n last w k z hgood hc hk hstate hnone hcur hw hw1 hw2 hw3 hgap hb hz hn hlast => ?_, fun hp => ?_⟩
    · have hbuffers : t.emptyBuffers c = s.emptyBuffers c := buffers_where (by rw [hheard.ste]) _
      rw [htile, takeSheetTile_accepts hgood (by rw [hheard.channelOfTag]; exact hc) (hheard.channel c) hstate hnone hcur
        hfloor hkind hpin hw hw1 hw2 hw3 hfetch (hbuffers.trans hempty), hheard.clock]
    · have hlt := channelOfTag_lt hc
      rw [htile, takeSheetTile_gap hgood (by rw [hheard.channelOfTag]; exact hc) ((hheard.channel c).trans hk.symm) hstate
        hnone hcur hw hw1 hw2 hw3 hgap]
      obtain ⟨u, hu⟩ : ∃ u, u = strayTile t := ⟨_, rfl⟩
      have huk : u.channel c = k := by rw [hu]; exact (hheard.channel c).trans hk.symm
      have hurlc : u.rlc = t.rlc := by rw [hu]; rfl
      have hublocks : u.rlc.blocks.any = false := by rw [hurlc, hheard.blocks, hb]
      have hzu : z = crewClaim c u := by rw [hu, hz]; rfl
      rw [← hu]
      refine ⟨fun hg hzero => ?_, fun hg hpos hroom => ?_, fun y hg hpos hnothing hcand hy => ⟨_, rfl, ?_⟩⟩
      · rw [takeGap_waits hlt huk hzu (hn.symm.trans hzero) hg]
      · rw [takeGap_asks hlt huk hcur (answer_queued hublocks (by rw [hurlc, hheard.control]; exact hroom)) hzu hn hlast hg
          hpos]
        rfl
      · have hinner := (inner_countTransfers (fun n => { n with strayTiles := countUp n.strayTiles }) t).trans
          (inner_moveNext c true (strayTile t))
        have hpresent : ∀ y, t.present y = true → u.present y = true := fun y hy => by rw [hu]; exact hy
        obtain ⟨hk', hcontrol', hothers', hcounters'⟩ := moveNext_cancelsAndAsks (n := n) (last := last) hlt huk hublocks
          (by rw [hurlc, hheard.control, hnothing]) hcur (hpresent _ (hheard.present_sender hpeer)) hcand
          (hpresent _ (hheard.present_kept hpeer hy)) (hn.trans (by rw [hzu])) hpos hlast
        have hothers : ∀ d, u.channel d = s.channel d := fun d => by rw [hu]; exact hheard.channel d
        have hcounters : u.ste.counters = { s.ste.counters with
            strayTiles := min 65535 (s.ste.counters.strayTiles + 1) } := by
          rw [hu, ← hheard.ste]
          rfl
        rw [gapEvent_second huk hg, hk', hcontrol', hcounters', hcounters]
        rw [← hu] at hinner
        rw [hinner.picture, hinner.zones, hheard.zones, hinner.peers]
        exact ⟨rfl, rfl, fun d _ hd => (hothers' d hd).trans (hothers d), rfl, rfl, rfl, rfl⟩
    · rw [htile, takeSheetTile_stray (by simpa only [hheard.channelOfTag, hheard.channel] using hp)]
      rfl
end

section
/-! SUPPORT. The payloads of the own ZONE STATE and DIRECTORY by offset (R30, R56). -/

namespace Sys2Proof.Machine

open Sys2Proof

/-! ### Slices of a payload put together -/

theorem slice_append_right {a b : List Byte} {n i m : Nat} (h : a.length = n) : slice (a ++ b) (n + i) m = slice b i m := by
  subst h
  rw [slice, slice, List.drop_append, List.drop_eq_nil_of_le (Nat.le_add_right _ _), List.nil_append, Nat.add_sub_cancel_left]

theorem slice_append_left {a b : List Byte} {i m : Nat} (h : i + m ≤ a.length) : slice (a ++ b) i m = slice a i m := by
  rw [slice, slice, List.drop_append, List.take_append_of_le_length]
  rw [List.length_drop]
  omega

section

variable {parts : List (List Byte)} {m : Nat} (h : ∀ x ∈ parts, x.length = m)

include h

theorem length_flatten_parts : parts.flatten.length = m * parts.length := by
  induction parts with
  | nil => rfl
  | cons x rest ih =>
    rw [List.flatten_cons, List.length_append, h x List.mem_cons_self, ih fun y hy => h y (List.mem_cons_of_mem x hy),
      List.length_cons, Nat.mul_succ, Nat.add_comm]

theorem slice_flatten {k : Nat} {x : List Byte} (hx : parts[k]? = some x) : slice parts.flatten (m * k) m = x := by
  induction parts generalizing k with
  | nil => exact nomatch hx
  | cons y rest ih =>
    have hy := h y List.mem_cons_self
    rw [List.flatten_cons]
    cases k with
    | zero =>
      obtain rfl : y = x := Option.some.inj hx
      rw [slice_append_left (by omega), slice, Nat.mul_zero, List.drop_zero, List.take_of_length_le (Nat.le_of_eq hy)]
    | succ k =>
      rw [Nat.mul_succ, Nat.add_comm, slice_append_right hy]
      exact ih (fun z hz => h z (List.mem_cons_of_mem y hz)) hx

end

theorem length_padTo (n : Nat) (t : Text) : (padTo n t).length = n := by simp [padTo]

theorem padTo_padTo (n : Nat) (t : Text) : padTo n (padTo n t) = padTo n t := by
  rw [padTo, List.take_append_of_le_length (Nat.le_of_eq (length_padTo n t).symm),
    List.take_of_length_le (Nat.le_of_eq (length_padTo n t))]

theorem byte_bit (b : Bool) : byte (bit 0 b) = if b then 1#8 else 0#8 := by cases b <;> rfl

/-! ### The own ZONE STATE -/

theorem ZoneRecord.length_bytes (r : ZoneRecord) : r.bytes.length = 23 := by
  simp [ZoneRecord.bytes, be16, length_padTo]

theorem zoneStatePayload_length (s : State) : s.zoneStatePayload.length = 368 := by
  rw [State.zoneStatePayload, length_flatten_parts (m := 23), List.length_map, List.length_range]
  intro x hx
  obtain ⟨l, -, rfl⟩ := List.mem_map.mp hx
  exact ZoneRecord.length_bytes _

theorem zoneStatePayload_record (s : State) {l : Nat} (hl : l < 16) :
    slice s.zoneStatePayload (23 * l) 23 = (ownZoneRecord s.clock l (s.entry s.ownOrigin l)).bytes := by
  refine slice_flatten (fun x hx => ?_) ?_
  · obtain ⟨l, -, rfl⟩ := List.mem_map.mp hx
    exact ZoneRecord.length_bytes _
  · simp [hl]

theorem alarmAge_seconds (now : Nat) (e : ZoneEntry) : (e.alarmAge now).getD 0 =
    if e.zstate = .alarm ∨ e.zstate = .clearing then
      (match e.age with
        | .absent => 0
        | .own start => min 65535 ((now - start) / 1000)
        | .remote age receipt => min 65535 (age + (now - receipt) / 1000))
    else 0 := by
  rw [alarmAge_eq rfl]
  split
  · cases e.age <;> rfl
  · rfl

theorem ownRecord_known {e : ZoneEntry} (h : e.known = true) (now l : Nat) : (ownZoneRecord now l e).bytes =
    [byte l, byte e.floor, byte e.ztype.code, byte e.zstate.code,
      if e.trouble = some .openLoop then 1#8 else if e.trouble = some .short then 2#8 else 0#8,
      byte ((if e.recurring then 1 else 0) + (if e.lineLost then 2 else 0) + (if e.boosted then 4 else 0) +
        (if e.ack = none then 0 else 8)), byte e.repeatCount, byte e.transientCount] ++
      be16 e.resistance ++ be16 e.changeNumber ++ be16 ((e.alarmAge now).getD 0) ++
      (match e.ack with
        | none => List.replicate 8 0x20#8 ++ [0#8]
        | some a => padTo 8 a.label ++ [byte a.station]) := by
  have htrouble : byte (troubleCode e.trouble) =
      if e.trouble = some .openLoop then 1#8 else if e.trouble = some .short then 2#8 else 0#8 := by
    rcases e.trouble with _ | _ | _ <;> rfl
  have hflags : bit 0 e.recurring + bit 1 e.lineLost + bit 2 e.boosted + bit 3 e.ack.isSome =
      (if e.recurring then 1 else 0) + (if e.lineLost then 2 else 0) + (if e.boosted then 4 else 0) +
        (if e.ack = none then 0 else 8) := by
    rw [bit_isSome]
    rfl
  rw [ownZoneRecord, if_pos h, ZoneRecord.bytes, htrouble, hflags]
  cases e.ack with
  | none => simp only [List.append_assoc]; rfl
  | some a => simp only [padTo_padTo, List.append_assoc]

theorem ownRecord_empty {e : ZoneEntry} (h : e.known = false) (now l : Nat) : (ownZoneRecord now l e).bytes =
    [byte l, 0#8, 0#8, 5#8] ++ List.replicate 10 0#8 ++ List.replicate 8 0x20#8 ++ [0#8] := by
  have hspaces : padTo 8 (List.replicate 8 space) = List.replicate 8 0x20#8 := rfl
  have hzero : be16 0 = [0#8, 0#8] := by decide
  rw [ownZoneRecord, h, if_neg Bool.noConfusion]
  simp only [ZoneRecord.bytes, hspaces, hzero]
  rfl

/-! ### The own DIRECTORY -/

/-- The holdings a DIRECTORY lists: the covered floors, then the replica floors. -/
def OwnHoldings.rows (o : OwnHoldings) : List (List Byte) :=
  ((List.range o.floorCount).map fun k => [byte (o.firstFloor + k), byte 1, byte (o.owned.getD k 0#6).toNat]) ++
    (o.replicas.map fun r => [byte r.1, byte 2, byte r.2.toNat])

theorem rows_length (o : OwnHoldings) : o.rows.length = o.floorCount + o.replicas.length := by simp [OwnHoldings.rows]

theorem length_of_mem_rows {o : OwnHoldings} {x : List Byte} (h : x ∈ o.rows) : x.length = 3 := by
  rcases List.mem_append.mp h with h | h
  · obtain ⟨k, -, rfl⟩ := List.mem_map.mp h
    rfl
  · obtain ⟨r, -, rfl⟩ := List.mem_map.mp h
    rfl

theorem rows_owned (o : OwnHoldings) {k : Nat} (hk : k < o.floorCount) :
    o.rows[k]? = some [byte (o.firstFloor + k), 1#8, byte (o.owned.getD k 0#6).toNat] := by
  rw [OwnHoldings.rows, List.getElem?_append_left (by simpa using hk), List.getElem?_map,
    List.getElem?_range hk]
  rfl

theorem rows_replica (o : OwnHoldings) {k : Nat} {r : Nat × KindSet} (hr : o.replicas[k]? = some r) :
    o.rows[o.floorCount + k]? = some [byte r.1, 2#8, byte r.2.toNat] := by
  rw [OwnHoldings.rows, List.getElem?_append_right (by simp), List.length_map, List.length_range, Nat.add_sub_cancel_left,
    List.getElem?_map, hr]
  rfl

/-- The four floor labels of a DIRECTORY. -/
def floorLabelParts (o : OwnHoldings) (labels : List Text) : List (List Byte) :=
  (List.range 4).map fun k => padTo 4 (if k < o.floorCount then labels.getD k [] else [])

/-- The sixteen line labels of a DIRECTORY. -/
def lineLabelParts (labels : List Text) : List (List Byte) := (List.range 16).map fun k => padTo 8 (labels.getD k [])

theorem length_of_mem_labels {o : OwnHoldings} {labels : List Text} {x : List Byte} :
    (x ∈ floorLabelParts o labels → x.length = 4) ∧ (x ∈ lineLabelParts labels → x.length = 8) := by
  constructor
  all_goals
    intro hx
    obtain ⟨k, -, rfl⟩ := List.mem_map.mp hx
    exact length_padTo ..

section

variable (s : State) {o : OwnHoldings}

theorem directoryFrame_lengths : (floorLabelParts o s.ownFloorLabels).flatten.length = 16 ∧
    (lineLabelParts s.ownZoneLabels).flatten.length = 128 ∧ o.rows.flatten.length = 3 * (o.floorCount + o.replicas.length) := by
  refine ⟨?_, ?_, ?_⟩
  · rw [length_flatten_parts fun x hx => length_of_mem_labels.1 hx]; rfl
  · rw [length_flatten_parts fun x hx => (length_of_mem_labels (o := o)).2 hx]; rfl
  · rw [length_flatten_parts fun x hx => length_of_mem_rows hx, rows_length]

variable (ho : s.holders.own = some o)

include ho

theorem directoryFrame_eq : s.directoryFrame =
    [byte s.condition.code, if s.noConfig then 1#8 else 0#8, byte o.firstFloor, byte o.floorCount] ++
      ((floorLabelParts o s.ownFloorLabels).flatten ++ ((lineLabelParts s.ownZoneLabels).flatten ++
        ([byte (o.floorCount + o.replicas.length)] ++ o.rows.flatten))) := by
  have hown : s.ownHoldings = o := by rw [State.ownHoldings, ho]; rfl
  rw [State.directoryFrame, hown, directoryPayload, byte_bit, ← rows_length]
  simp only [List.append_assoc]
  rfl

theorem directoryFrame_length : s.directoryFrame.length = 149 + 3 * (o.floorCount + o.replicas.length) := by
  obtain ⟨hfloors, hlines, hrows⟩ := directoryFrame_lengths s (o := o)
  rw [directoryFrame_eq s ho]
  simp only [List.length_append, hfloors, hlines, hrows, List.length_cons, List.length_nil]
  omega

theorem directoryFrame_floorLabel {k : Nat} (hk : k < 4) : slice s.directoryFrame (4 + 4 * k) 4 =
    if k < o.floorCount then padTo 4 (s.ownFloorLabels.getD k []) else List.replicate 4 0x20#8 := by
  obtain ⟨hfloors, -, -⟩ := directoryFrame_lengths s (o := o)
  have hpart : (floorLabelParts o s.ownFloorLabels)[k]? =
      some (padTo 4 (if k < o.floorCount then s.ownFloorLabels.getD k [] else [])) := by
    simp [floorLabelParts, hk]
  rw [directoryFrame_eq s ho, slice_append_right (n := 4) rfl, slice_append_left (by omega),
    slice_flatten (fun x hx => length_of_mem_labels.1 hx) hpart]
  split
  · rfl
  · rfl

theorem directoryFrame_lineLabel {l : Nat} (hl : l < 16) :
    slice s.directoryFrame (20 + 8 * l) 8 = padTo 8 ((s.entry s.ownOrigin l).label.getD []) := by
  obtain ⟨hfloors, hlines, -⟩ := directoryFrame_lengths s (o := o)
  have hpart : (lineLabelParts s.ownZoneLabels)[l]? = some (padTo 8 ((s.entry s.ownOrigin l).label.getD [])) := by
    simp [lineLabelParts, State.ownZoneLabels, hl]
  rw [directoryFrame_eq s ho, show 20 + 8 * l = 4 + (16 + 8 * l) by omega, slice_append_right (n := 4) rfl,
    slice_append_right hfloors, slice_append_left (by omega),
    slice_flatten (fun x hx => (length_of_mem_labels (o := o)).2 hx) hpart]

theorem directoryFrame_count : slice s.directoryFrame 148 1 = [byte (o.floorCount + o.replicas.length)] := by
  obtain ⟨hfloors, hlines, -⟩ := directoryFrame_lengths s (o := o)
  rw [directoryFrame_eq s ho, show 148 = 4 + (16 + (128 + 0)) from rfl, slice_append_right (n := 4) rfl,
    slice_append_right hfloors, slice_append_right hlines]
  rfl

theorem directoryFrame_row {k : Nat} {x : List Byte} (hx : o.rows[k]? = some x) :
    slice s.directoryFrame (149 + 3 * k) 3 = x := by
  obtain ⟨hfloors, hlines, -⟩ := directoryFrame_lengths s (o := o)
  rw [directoryFrame_eq s ho, show 149 + 3 * k = 4 + (16 + (128 + (1 + 3 * k))) by omega, slice_append_right (n := 4) rfl,
    slice_append_right hfloors, slice_append_right hlines, slice_append_right (n := 1) rfl,
    slice_flatten (fun x hx => length_of_mem_rows hx) hx]

end

end Sys2Proof.Machine
end

section
/-! SUPPORT. The start moment of an idle round: the class that contends, the tile offered, and the frame begun (R81, R91,
R140). -/

namespace Sys2Proof.Machine

open Sys2Proof

/-! ### The tiles held full -/

theorem findSome?_range_eq_some {α : Type} {f : Nat → Option α} {n : Nat} {y : α} :
    (List.range n).findSome? f = some y ↔ ∃ i < n, f i = some y ∧ ∀ j < i, f j = none := by
  induction n with
  | zero => simp
  | succ n ih =>
    rw [List.range_succ, List.findSome?_append, Option.or_eq_some_iff, ih]
    have hnone : (List.range n).findSome? f = none ↔ ∀ j < n, f j = none := by simp
    have hlast : [n].findSome? f = f n := by cases h : f n <;> simp [h]
    rw [hnone, hlast]
    constructor
    · rintro (⟨i, hi, h⟩ | ⟨hall, h⟩)
      · exact ⟨i, Nat.lt_succ_of_lt hi, h⟩
      · exact ⟨n, Nat.lt_succ_self n, h, hall⟩
    · rintro ⟨i, hi, h, hall⟩
      rcases Nat.lt_succ_iff_lt_or_eq.mp hi with hlt | rfl
      · exact .inl ⟨i, hlt, h, hall⟩
      · exact .inr ⟨hall, h⟩

section

variable (s : State) (c : Nat)

/-- A buffer holds a tile of a channel full. -/
def State.holdsFull (n b : Nat) (d : List Byte) : Prop := s.buffer b = { holder := some c, state := .full n d }

/-- What a buffer gives to the search for a tile of a channel. -/
def State.tileIn (n b : Nat) : Option (Nat × List Byte) :=
  if (s.buffer b).holder = some c then
    match (s.buffer b).state with
    | .full t d => if t = n then some (b, d) else none
    | _ => none
  else none

theorem fullBuffer_eq (n : Nat) : s.fullBuffer c n = (List.range 16).findSome? (s.tileIn c n) := rfl

theorem tileIn_eq_some (n b : Nat) (y : Nat × List Byte) : s.tileIn c n b = some y ↔ y.1 = b ∧ s.holdsFull c n b y.2 := by
  obtain ⟨i, d⟩ := y
  unfold State.holdsFull State.tileIn
  obtain ⟨x, hx⟩ : ∃ x, x = s.buffer b := ⟨_, rfl⟩
  rw [← hx]
  obtain ⟨holder, state⟩ := x
  cases state with
  | empty => simp
  | reading t => simp
  | full t e =>
    simp only [Option.ite_none_right_eq_some, Option.some.injEq, Prod.mk.injEq, TileBuffer.mk.injEq, BufferState.full.injEq]
    constructor
    · rintro ⟨hh, ht, hb, he⟩
      exact ⟨hb.symm, hh, ht, he⟩
    · rintro ⟨hb, hh, ht, he⟩
      exact ⟨hh, ht, hb.symm, he⟩

theorem tileIn_eq_none (n b : Nat) : s.tileIn c n b = none ↔ ∀ d, ¬s.holdsFull c n b d := by
  rw [Option.eq_none_iff_forall_ne_some]
  simp only [Ne, tileIn_eq_some]
  exact ⟨fun h d hd => h (b, d) ⟨rfl, hd⟩, fun h y hy => h y.2 hy.2⟩

/-- The lowest buffer that holds a tile full is found (log 26). -/
theorem fullBuffer_eq_some (n b : Nat) (d : List Byte) : s.fullBuffer c n = some (b, d) ↔
    b < 16 ∧ s.holdsFull c n b d ∧ ∀ e < b, ∀ y, ¬s.holdsFull c n e y := by
  rw [fullBuffer_eq, findSome?_range_eq_some]
  simp only [tileIn_eq_some, tileIn_eq_none]
  constructor
  · rintro ⟨i, hi, ⟨rfl, hfull⟩, hall⟩
    exact ⟨hi, hfull, hall⟩
  · rintro ⟨hb, hfull, hall⟩
    exact ⟨b, hb, ⟨rfl, hfull⟩, hall⟩

theorem fullBuffer_isSome (n : Nat) : (s.fullBuffer c n).isSome = true ↔ ∃ b < 16, ∃ d, s.holdsFull c n b d := by
  rw [fullBuffer_eq, List.findSome?_isSome_iff]
  simp only [List.mem_range, Option.isSome_iff_exists, tileIn_eq_some]
  constructor
  · rintro ⟨b, hb, y, -, hfull⟩
    exact ⟨b, hb, y.2, hfull⟩
  · rintro ⟨b, hb, d, hfull⟩
    exact ⟨b, hb, (b, d), rfl, hfull⟩

/-- A channel offers a tile (R91, R140). -/
theorem offersTile_iff : s.offersTile c = true ↔
    (s.channel c).state = .serve ∧ ∃ b < 16, ∃ d, s.holdsFull c (s.channel c).nextTile b d := by
  rw [State.offersTile, Bool.and_eq_true, decide_eq_true_eq, fullBuffer_isSome]

theorem moreFollows_iff : s.moreFollows c = true ↔ (s.channel c).burstMode = true ∧
    (∃ w, (s.channel c).window = some w ∧ (s.channel c).nextTile < w.2) ∧
    ∃ b < 16, ∃ d, s.holdsFull c ((s.channel c).nextTile + 1) b d := by
  rw [State.moreFollows, Bool.and_eq_true, Bool.and_eq_true, fullBuffer_isSome, and_assoc]
  refine and_congr_right fun _ => and_congr_left fun _ => ?_
  cases (s.channel c).window <;> simp

/-! ### The rotation -/

theorem bulkChoice_none : s.bulkChoice = none ↔ ∀ e < 6, s.offersTile e = false := by
  simp only [State.bulkChoice, rotationOrder, List.find?_eq_none, List.mem_map, List.mem_range, Bool.not_eq_true]
  constructor
  · intro h e he
    exact h e ⟨(e + 11 - s.rlc.bulkRotation % 6) % 6, by omega, by omega⟩
  · rintro h e ⟨k, -, rfl⟩
    exact h _ (Nat.mod_lt _ (by decide))

/-- The choice is the first channel that offers a tile, in the order after the channel last served (R91). -/
theorem bulkChoice_some {j : Nat} (hj : j < 6) (hc : c = (s.rlc.bulkRotation + 1 + j) % 6) : s.bulkChoice = some c ↔
    s.offersTile c = true ∧ ∀ i < j, s.offersTile ((s.rlc.bulkRotation + 1 + i) % 6) = false := by
  rw [State.bulkChoice, rotationOrder, List.find?_map, Option.map_eq_some_iff]
  simp only [List.find?_range_eq_some, Function.comp_apply, List.mem_range, Bool.not_eq_true']
  constructor
  · rintro ⟨i, ⟨hoffers, hi, hall⟩, hic⟩
    obtain rfl : i = j := by omega
    exact ⟨hc ▸ hoffers, hall⟩
  · rintro ⟨hoffers, hall⟩
    exact ⟨j, ⟨hc ▸ hoffers, hj, hall⟩, hc.symm⟩

end

/-! ### The class that contends -/

section

variable {s : State}

theorem contends_unsent (h : s.rlc.directorySent = false) (hmark : s.rlc.directoryMark = true) :
    s.contends = some .routine := by
  simp [State.contends, h, hmark]

theorem contends_alarm (h : s.rlc.directorySent = true) (ha : s.rlc.alarmPending = true) : s.contends = some .alarm := by
  simp [State.contends, h, ha]

theorem contends_first (h : s.rlc.directorySent = true) (hz : s.rlc.zoneStateSent = false)
    (ha : s.rlc.alarmPending = false) : s.contends = some .routine := by
  simp [State.contends, h, hz, ha]

/-- With the first frames sent and no alarm, the class is that of the first holding there is. -/
theorem contends_settled (h : s.rlc.directorySent = true) (hz : s.rlc.zoneStateSent = true)
    (ha : s.rlc.alarmPending = false) : s.contends =
      if s.rlc.control ≠ [] then some .control else if s.bulkChoice.isSome then some .bulk
      else if s.rlc.directoryMark || s.rlc.refreshMark then some .routine else none := by
  simp [State.contends, h, hz, ha]

/-! ### The frame that begins -/

theorem beginClass_directory (hmark : s.rlc.directoryMark = true)
    (h : s.rlc.directorySent = false ∨ s.rlc.zoneStateSent = true) : beginClass .routine s = s.driving .directory
      (some { kind := .directory, origin := s.address, dest := 63, payload := s.directoryFrame }) false :=
  if_pos (by simpa [hmark] using h)

theorem beginClass_zoneState
    (h : s.rlc.directoryMark = false ∨ s.rlc.directorySent = true ∧ s.rlc.zoneStateSent = false) :
    beginClass .routine s = s.driving .zoneState
      (some { kind := .zoneStateRoutine, origin := s.address, dest := 63, payload := s.zoneStatePayload }) false :=
  if_neg (by rcases h with h | ⟨hd, hz⟩ <;> simp [*])

theorem beginClass_control {h : ControlEntry} {rest : List ControlEntry} (hc : s.rlc.control = h :: rest) :
    beginClass .control s = s.driving .control
      (some { kind := h.kind, origin := s.address, dest := h.dest, payload := h.payload }) false := by
  simp only [beginClass, beginControl, hc]
  rfl

/-- The payload of the SHEET TILE a channel offers (R140). -/
def State.offeredTile (c tag : Nat) (r : SheetRecord) (w : Nat × Nat) (d : List Byte) (s : State) : List Byte :=
  [byte tag, byte (s.channel c).floor, byte (s.channel c).kind] ++ be16 r.revision ++ be16 (s.channel c).nextTile ++
    be16 r.tileCount ++ be16 w.1 ++ be16 w.2 ++ [if s.moreFollows c then 1#8 else 0#8] ++ d

theorem beginClass_tile {c b x tag : Nat} {d : List Byte} {r : SheetRecord} {w : Nat × Nat} (hc : s.bulkChoice = some c)
    (hb : s.fullBuffer c (s.channel c).nextTile = some (b, d)) (ho : (s.channel c).owner = .peer x tag)
    (hr : (s.channel c).record = some r) (hw : (s.channel c).window = some w) :
    beginClass .bulk s = s.driving (.tile c b)
      (some { kind := .sheetTile, origin := s.address, dest := x, payload := s.offeredTile c tag r w d })
      (s.moreFollows c) := by
  have hframe : s.tileFrame c d =
      { kind := .sheetTile, origin := s.address, dest := x, payload := s.offeredTile c tag r w d } := by
    simp only [State.tileFrame, Channel.requester, ho, hr, hw, sheetTilePayload, byte_bit]
    rfl
  simp only [beginClass, hc, beginTile, hb, hframe]
  rfl

end

section

variable {s : State} {offset passed : Nat} (hheld : s.held = false) (hphase : s.rlc.phase = .idle passed)
  (hpassed : passed ≤ offset) (htx : s.rlc.tx = none)

include hheld hphase hpassed htx

theorem exec_startMoment : exec (.startMoment offset) s =
    .next ((s.startsAt offset).elim { s with rlc := { s.rlc with phase := .idle (offset + 1) } } fun k => beginClass k s) := by
  obtain ⟨u, hu⟩ : ∃ u, u = (s.startsAt offset).elim { s with rlc := { s.rlc with phase := .idle (offset + 1) } }
    fun k => beginClass k s := ⟨_, rfl⟩
  rw [← hu]
  show quietEvent (startMoment offset) s = _
  rw [quietEvent, hheld, if_neg Bool.false_ne_true, startMoment, hphase, htx]
  simp only [if_pos hpassed, hu]
  cases s.startsAt offset <;> rfl

theorem exec_startMoment_begins {k : AccessClass} (hb : s.rlc.blocks.any = false) (hk : s.contends = some k)
    (ho : offset = s.rlc.startMoment s.address k) : exec (.startMoment offset) s = .next (beginClass k s) := by
  have hstarts : s.startsAt offset = some k := by simp [State.startsAt, hk, hb, ho]
  rw [exec_startMoment hheld hphase hpassed htx, hstarts]
  rfl

theorem exec_startMoment_passes (h : s.rlc.blocks.any = true ∨ s.contends = none ∨
    ∃ k, s.contends = some k ∧ offset ≠ s.rlc.startMoment s.address k) : exec (.startMoment offset) s =
      .next { s with rlc := { s.rlc with phase := .idle (offset + 1) } } := by
  have hstarts : s.startsAt offset = none := by
    rw [State.startsAt]
    split
    · rfl
    · rename_i k hk
      refine if_neg fun hyes => ?_
      rw [Bool.and_eq_true, decide_eq_true_eq, Bool.not_eq_true'] at hyes
      rcases h with h | h | ⟨j, hj, h⟩
      · exact Bool.noConfusion (h.symm.trans hyes.1)
      · exact nomatch h.symm.trans hk
      · obtain rfl : j = k := Option.some.inj (hj.symm.trans hk)
        exact h hyes.2
  rw [exec_startMoment hheld hphase hpassed htx, hstarts]
  rfl

end

end Sys2Proof.Machine

open Sys2Proof Sys2Proof.Machine

/-- Settles O27: the class that contends is worked out from the holdings, and each class begins its frame; the payloads are
read part by part. -/
theorem startMomentBeginsFrame : Obligations.StartMomentBeginsFrame := by
  refine ⟨fun s offset passed hheld hphase hpassed htx => ?_, fun s c k hk => ?_, fun s l e hl he => ?_,
    fun s o d ho hd => ?_⟩
  · have hbegins := @exec_startMoment_begins s offset passed hheld hphase hpassed htx
    refine ⟨fun hb hd ha ho => ?_, fun h rest hb hd hz ha hc ho => ?_, fun c b d x tag r w hb hd hz ha hc hchoice hfull howner
      hr hw ho => ?_, fun hb hmark hd ho => ?_, fun hb hd hz ha ho => ?_, fun hb hd hz ha hc hchoice hmark ho => ?_,
      fun hb hd hz ha hc hchoice hmark hrefresh ho => ?_, exec_startMoment_passes hheld hphase hpassed htx⟩
    · rw [hbegins hb (contends_alarm hd ha) ho]
      rfl
    · have hcontends : s.contends = some .control := by rw [contends_settled hd hz ha, hc]; rfl
      rw [hbegins hb hcontends ho, beginClass_control hc]
    · have hcontends : s.contends = some .bulk := by rw [contends_settled hd hz ha, hc, hchoice]; rfl
      rw [hbegins hb hcontends ho, beginClass_tile hchoice hfull howner hr hw]
      rfl
    · rw [hbegins hb (contends_unsent hd hmark) ho, beginClass_directory hmark (.inl hd)]
    · rw [hbegins hb (contends_first hd hz ha) ho, beginClass_zoneState (.inr ⟨hd, hz⟩)]
    · have hcontends : s.contends = some .routine := by rw [contends_settled hd hz ha, hc, hchoice, hmark]; rfl
      rw [hbegins hb hcontends ho, beginClass_directory hmark (.inr hz)]
    · have hcontends : s.contends = some .routine := by rw [contends_settled hd hz ha, hc, hchoice, hrefresh, hmark]; rfl
      rw [hbegins hb hcontends ho, beginClass_zoneState (.inl hmark)]
  · subst hk
    exact ⟨offersTile_iff s c, fun n b d => fullBuffer_eq_some s c n b d, moreFollows_iff s c, bulkChoice_none s,
      fun j hj hc => bulkChoice_some s c hj hc⟩
  · subst he
    refine ⟨zoneStatePayload_length s, fun h => ?_, fun h => ?_⟩
    · have hrecord := zoneStatePayload_record s hl
      rw [ownRecord_known h, alarmAge_seconds] at hrecord
      exact hrecord
    · rw [zoneStatePayload_record s hl, ownRecord_empty h]
  · subst hd
    refine ⟨directoryFrame_length s ho, ?_, fun k hk => directoryFrame_floorLabel s ho hk,
      fun l hl => directoryFrame_lineLabel s ho hl, directoryFrame_count s ho,
      fun k hk => directoryFrame_row s ho (rows_owned o hk), fun k r hr => directoryFrame_row s ho (rows_replica o hr)⟩
    rw [directoryFrame_eq s ho]
    rfl
end

section
/-! SUPPORT. What the onset of a block leaves: the link cut and its CONTROL queue empty, no service, the block's notice queued
(R97 to R101, R167). -/

namespace Sys2Proof.Machine

open Sys2Proof

/-! ### What the transfer engine does at an onset -/

/-- Between `s` and `t` the transfer engine, its accesses to the store and the mark counts may have changed, nothing else. -/
structure OnlyEngine (s t : State) : Prop where
  rest : { t with ste := s.ste, store := s.store, marks := s.marks } = s
  memory : t.store.memory = s.store.memory

namespace OnlyEngine

variable {s t u : State}

theorem refl (s : State) : OnlyEngine s s := ⟨rfl, rfl⟩

theorem trans (h : OnlyEngine s t) (g : OnlyEngine t u) : OnlyEngine s u := by
  refine ⟨?_, g.memory.trans h.memory⟩
  calc { u with ste := s.ste, store := s.store, marks := s.marks }
      = { ({ u with ste := t.ste, store := t.store, marks := t.marks } : State) with
            ste := s.ste, store := s.store, marks := s.marks } := rfl
    _ = { t with ste := s.ste, store := s.store, marks := s.marks } := by rw [g.rest]
    _ = s := h.rest

theorem rlc (h : OnlyEngine s t) : t.rlc = s.rlc := congrArg (·.rlc) h.rest

theorem clock (h : OnlyEngine s t) : t.clock = s.clock := congrArg (·.clock) h.rest

theorem pending (h : OnlyEngine s t) : t.pending = s.pending := congrArg (·.pending) h.rest

theorem zones (h : OnlyEngine s t) : t.zones = s.zones := congrArg (·.zones) h.rest

theorem picture (h : OnlyEngine s t) : t.picture = s.picture := congrArg (·.picture) h.rest

theorem peers (h : OnlyEngine s t) : t.peers = s.peers := congrArg (·.peers) h.rest

theorem holders (h : OnlyEngine s t) : t.holders = s.holders := congrArg (·.holders) h.rest

theorem port (h : OnlyEngine s t) (p : Port) : t.port p = s.port p := by
  cases p with
  | a => exact congrArg (·.portA) h.rest
  | b => exact congrArg (·.portB) h.rest

theorem notices (h : OnlyEngine s t) (p : Port) : t.notices p = s.notices p := by
  cases p with
  | a => exact congrArg (·.noticesA) h.rest
  | b => exact congrArg (·.noticesB) h.rest

theorem modRlc (h : OnlyEngine s t) (f : RiserLink → RiserLink) : OnlyEngine (s.modRlc f) (t.modRlc f) :=
  ⟨congrArg (State.modRlc f) h.rest, h.memory⟩

end OnlyEngine

section

variable (c : Nat) (s : State)

theorem onlyEngine_setChannel (k : Channel) : OnlyEngine s (s.setChannel c k) := ⟨rfl, rfl⟩

theorem onlyEngine_countTransfers (f : TransferCounters → TransferCounters) : OnlyEngine s (s.countTransfers f) := ⟨rfl, rfl⟩

theorem onlyEngine_setBuffer (b : Nat) (x : TileBuffer) : OnlyEngine s (s.setBuffer b x) := ⟨rfl, rfl⟩

theorem onlyEngine_bufferOver (b : Nat) : OnlyEngine s (bufferOver b s) := by
  unfold bufferOver
  split
  · exact OnlyEngine.refl s
  · dsimp only
    split <;> exact onlyEngine_setBuffer s b _

theorem onlyEngine_withBuffers (buffers : Vector TileBuffer 16) : OnlyEngine s (s.withBuffers buffers) := ⟨rfl, rfl⟩

theorem onlyEngine_crewClaim : OnlyEngine s (crewClaim c s) := by
  obtain ⟨buffers, h⟩ := crewClaim_eq c s
  rw [h]
  exact onlyEngine_withBuffers s buffers

theorem onlyEngine_discardTiles : OnlyEngine s (discardTiles c (fun _ => true) s) := by
  obtain ⟨buffers, h, -⟩ := discardTiles_eq c s
  rw [h]
  exact onlyEngine_withBuffers s buffers

theorem onlyEngine_withdrawReads : OnlyEngine s (withdrawReads c s) := by
  obtain ⟨buffers, h, -⟩ := withdrawReads_eq c s
  rw [h]
  exact ⟨rfl, rfl⟩

end

section

variable {c : Nat} {s : State}

/-- With no frame on the line a channel closes without touching the link. -/
theorem onlyEngine_closeChannel (htx : s.rlc.tx = none) : OnlyEngine s (closeChannel c s) := by
  obtain ⟨buffers, hu, -⟩ := closeChannel_eq c s
  have horphan : s.rlc.orphan c = s.rlc := by
    conv_rhs => rw [← orphan_rest c s.rlc, htx]
    rw [RiserLink.orphan, htx]
    rfl
  rw [hu, closed_parts, horphan]
  exact ⟨rfl, rfl⟩

theorem onlyEngine_withdrawRequest (hnone : s.rlc.control = []) : OnlyEngine s (withdrawRequest c s) := by
  rw [withdrawRequest, State.modRlc, withdrawRequests_none c hnone]
  exact OnlyEngine.refl s

/-- With no CONTROL entry a transfer ends without touching the link. -/
theorem onlyEngine_endTransfer (hnone : s.rlc.control = []) (result : TransferResult) :
    OnlyEngine s (endTransfer c result s) := by
  have hreads := onlyEngine_withdrawReads c s
  have hrequest := hreads.trans (onlyEngine_withdrawRequest (c := c) ((congrArg (·.control) hreads.rlc).trans hnone))
  have htiles := hrequest.trans (onlyEngine_discardTiles c _)
  exact (htiles.trans (onlyEngine_setChannel c _ _)).trans (onlyEngine_countTransfers _ _)

theorem onlyEngine_enterLocal (hnone : s.rlc.control = []) : OnlyEngine s (enterLocal c s) := by
  unfold enterLocal
  dsimp only
  split
  · exact OnlyEngine.refl s
  · split
    · exact onlyEngine_endTransfer hnone _
    · exact (onlyEngine_setChannel c s _).trans (onlyEngine_crewClaim c _)

theorem onlyEngine_channelNoPath (hnone : s.rlc.control = []) : OnlyEngine s (channelNoPath c s) := by
  unfold channelNoPath localFallback
  split
  · exact (onlyEngine_setChannel c s _).trans (onlyEngine_enterLocal hnone)
  · exact onlyEngine_endTransfer hnone _

theorem onlyEngine_tellNoPath (hnone : s.rlc.control = []) (e : ControlEntry) : OnlyEngine s (tellNoPath s e) := by
  have hcount := onlyEngine_countTransfers s TransferCounters.notSent
  unfold tellNoPath
  split
  · exact ⟨rfl, rfl⟩
  · dsimp only
    split
    · exact hcount.trans (onlyEngine_channelNoPath hnone)
    · exact hcount
  · exact hcount
  · exact hcount

/-- The submitters are told once the queue is empty, and submit nothing (R101, R135). -/
theorem onlyEngine_discardControl (s : State) :
    OnlyEngine (s.modRlc fun r => { r with control := [] }) (discardControl s) :=
  List.foldlRecOn _ tellNoPath (motive := OnlyEngine (s.modRlc fun r => { r with control := [] })) (OnlyEngine.refl _)
    fun _ ht e _ => ht.trans (onlyEngine_tellNoPath (congrArg (·.control) ht.rlc) e)

end

/-! ### The services abandoned -/

section

variable {s : State} (htx : s.rlc.tx = none)

include htx

theorem onlyEngine_abandonService (c : Nat) : OnlyEngine s (abandonService s c) := by
  unfold abandonService
  split
  · exact onlyEngine_closeChannel htx
  · exact OnlyEngine.refl s

theorem onlyEngine_abandonServices : OnlyEngine s (abandonServices s) :=
  List.foldlRecOn _ abandonService (motive := OnlyEngine s) (OnlyEngine.refl s)
    fun _ ht c _ => ht.trans (onlyEngine_abandonService ((congrArg (·.tx) ht.rlc).trans htx) c)

end

theorem abandonService_channel {c : Nat} (hc : c < 6) (s : State) : ((abandonService s c).channel c).state ≠ .serve ∧
    ∀ d < 6, d ≠ c → (abandonService s c).channel d = s.channel d := by
  unfold abandonService
  split
  · have hclosed := channelClosed hc s
    refine ⟨fun h => ?_, fun d hd hne => (hclosed.others d hd hne).1⟩
    rw [endService, hclosed.freed.1] at h
    exact nomatch h
  · rename_i h
    exact ⟨h, fun _ _ _ => rfl⟩

theorem abandonServices_upTo (s : State) {n : Nat} (hn : n ≤ 6) :
    ∀ c < n, (((List.range n).foldl abandonService s).channel c).state ≠ .serve := by
  induction n with
  | zero => exact fun c hc => absurd hc (Nat.not_lt_zero c)
  | succ n ih =>
    obtain ⟨hlast, hothers⟩ := abandonService_channel hn ((List.range n).foldl abandonService s)
    rw [List.range_succ, List.foldl_append, List.foldl_cons, List.foldl_nil]
    intro c hc
    by_cases hcn : c = n
    · exact hcn ▸ hlast
    · rw [hothers c (by omega) hcn]
      exact ih (by omega) c (by omega)

/-- No service is left (R101, R142). -/
theorem abandonServices_none (s : State) : ∀ c < 6, ((abandonServices s).channel c).state ≠ .serve :=
  abandonServices_upTo s (Nat.le_refl 6)

/-! ### The onset -/

/-- The link after a transmission was cut: after a cut frame the receiver waits for idle detection (R101, log 21). -/
def RiserLink.cut (r : RiserLink) : RiserLink :=
  { r.driverOff with phase := if r.tx.any (·.frame.isSome) then .awaitIdle else r.phase }

theorem onlyEngine_cutTransmission (s : State) : OnlyEngine (s.modRlc RiserLink.cut) (cutTransmission s) := by
  unfold cutTransmission
  split
  · rename_i hnone
    have hcut : s.modRlc RiserLink.cut = s.modRlc RiserLink.driverOff := by
      simp only [State.modRlc, RiserLink.cut, hnone]
      rfl
    exact hcut ▸ OnlyEngine.refl _
  · rename_i t hsome
    have hcut : s.modRlc RiserLink.cut =
        s.modRlc fun r => { r.driverOff with phase := if t.frame.isSome then .awaitIdle else r.phase } := by
      simp only [State.modRlc, RiserLink.cut, hsome]
      rfl
    obtain ⟨w, hw⟩ : ∃ w, w = s.modRlc RiserLink.cut := ⟨_, rfl⟩
    rw [← hw]
    rw [hcut] at hw
    dsimp only
    rw [← hw]
    split
    · split
      · exact OnlyEngine.refl w
      · exact onlyEngine_bufferOver w _
    · exact OnlyEngine.refl w

/-- The link after the onset of a block (R101). -/
def RiserLink.quelled (b : Block) (r : RiserLink) : RiserLink := { r.cut with control := [], blocks := r.blocks.put b true }

/-- What the onset of a block does before the Notice Controllers take it. -/
def onsetQuells (b : Block) (s : State) : State := abandonServices (discardControl (cutTransmission (s.putBlock b true)))

theorem onset_eq (b : Block) (s : State) : onset b s = (onsetQuells b s).notifyBoth fun n => n.takeBlock s.clock b := rfl

theorem onlyEngine_onsetQuells (b : Block) (s : State) : OnlyEngine (s.modRlc (RiserLink.quelled b)) (onsetQuells b s) := by
  have hcut := (onlyEngine_cutTransmission (s.putBlock b true)).modRlc fun r => { r with control := [] }
  have hdiscard := hcut.trans (onlyEngine_discardControl _)
  exact hdiscard.trans (onlyEngine_abandonServices (congrArg (·.tx) hdiscard.rlc))

section

variable (b : Block) (s : State)

@[simp] theorem onset_rlc : (onset b s).rlc = s.rlc.quelled b := by
  rw [onset_eq, notifyBoth_rlc, (onlyEngine_onsetQuells b s).rlc, State.modRlc]

/-- The onset of a block leaves what R101 says. -/
theorem afterOnset_onset : AfterOnset s (onset b s) := by
  have hrlc := onset_rlc b s
  have hquells := onlyEngine_onsetQuells b s
  have hnotify := onlyTables_notifyBoth (fun n => n.takeBlock s.clock b) (onsetQuells b s)
  have hpeers := notifyBoth_peers (fun n => n.takeBlock s.clock b) (onsetQuells b s)
  have hholders := notifyBoth_holders (fun n => n.takeBlock s.clock b) (onsetQuells b s)
  have hnone := abandonServices_none (discardControl (cutTransmission (s.putBlock b true)))
  rw [← onset_eq] at hnotify hpeers hholders
  change ∀ c < 6, ((onsetQuells b s).channel c).state ≠ .serve at hnone
  generalize onset b s = u at *
  generalize onsetQuells b s = t at *
  constructor
  case silent => rw [hrlc]; rfl
  case noControl => rw [hrlc]; rfl
  case noService =>
    intro c hc
    rw [State.channel, hnotify.ste]
    exact hnone c hc
  case alarm => rw [hrlc]; rfl
  case refresh => rw [hrlc]; exact ⟨rfl, rfl⟩
  case directory => rw [hrlc]; exact ⟨rfl, rfl⟩
  case untouched =>
    exact ⟨hnotify.zones.trans hquells.zones, hnotify.picture.trans hquells.picture, hpeers.trans hquells.peers,
      hholders.trans hquells.holders, (congrArg (·.memory) hnotify.store).trans hquells.memory,
      hnotify.clock.trans hquells.clock, hnotify.pending.trans hquells.pending⟩

/-- The Notice Controllers of attached ports queue the block's record (R167, R168). -/
theorem blockNoticed_onset : BlockNoticed b s (onset b s) := by
  intro p hattached hroom
  have hquells := onlyEngine_onsetQuells b s
  have hport : (onsetQuells b s).port p = s.port p := (hquells.port p).trans (State.modRlc_port ..)
  have hnotices : (onsetQuells b s).notices p = s.notices p := (hquells.notices p).trans (State.modRlc_notices ..)
  rw [onset_eq, notifyBoth_notices (by rw [hport]; exact hattached), hnotices]
  obtain ⟨r, hr, -⟩ := NoticeController.find_post_same hroom s.clock 6 (.block b) 0 none
  exact fun hnone => nomatch hr.symm.trans hnone

theorem find_takeBlock_ne {d : Block} (hd : d ≠ b) (now : Nat) (n : NoticeController) :
    (n.takeBlock now b).find { level := 6, subject := .block d } = n.find { level := 6, subject := .block d } :=
  NoticeController.find_post_ne (Nat.le_refl 6) (by simpa using Ne.symm hd)

/-- The onset of another block keeps a SUPERVISORY record of a block (R169). -/
theorem find_onset {d : Block} (hd : d ≠ b) (p : Port) : ((onset b s).notices p).find { level := 6, subject := .block d } =
    (s.notices p).find { level := 6, subject := .block d } := by
  rw [onset_eq, find_notifyBoth p (find_takeBlock_ne b hd s.clock),
    (onlyEngine_onsetQuells b s).notices p, State.modRlc_notices]

end

section

variable {s t u : State}

theorem AfterOnset.trans (h : AfterOnset s t) (g : AfterOnset t u) : AfterOnset s u := by
  obtain ⟨hzones, hpicture, hpeers, hholders, hmemory, hclock, hpending⟩ := h.untouched
  obtain ⟨gzones, gpicture, gpeers, gholders, gmemory, gclock, gpending⟩ := g.untouched
  exact
    { silent := g.silent
      noControl := g.noControl
      noService := g.noService
      alarm := g.alarm.trans h.alarm
      refresh := ⟨g.refresh.1.trans h.refresh.1, g.refresh.2.trans h.refresh.2⟩
      directory := ⟨g.directory.1.trans h.directory.1, g.directory.2.trans h.directory.2⟩
      untouched := ⟨gzones.trans hzones, gpicture.trans hpicture, gpeers.trans hpeers, gholders.trans hholders,
        gmemory.trans hmemory, gclock.trans hclock, gpending.trans hpending⟩ }

/-- A block's onset that may bring SILENCED leaves what R101 says (R100). -/
theorem AfterOnset.silenceAt (h : AfterOnset s t) (n : Nat) : AfterOnset s (silenceAt n t) := by
  unfold Machine.silenceAt
  split
  · exact h.trans (afterOnset_onset .silenced t)
  · exact h

theorem BlockNoticed.silenceAt {b : Block} (h : BlockNoticed b s t) (hb : b ≠ .silenced) (n : Nat) :
    BlockNoticed b s (silenceAt n t) := by
  unfold Machine.silenceAt
  split
  · intro p hattached hroom
    rw [find_onset .silenced t hb p]
    exact h p hattached hroom
  · exact h

/-- SILENCED changes nothing of the link but the block and what the onset before it has cut already (R100). -/
theorem silenceAt_rlc (n : Nat) (s : State) : ∃ r : RiserLink, (r = s.rlc ∨ r = s.rlc.quelled .silenced) ∧
    (silenceAt n s).rlc = r ∧ r.blocks = { s.rlc.blocks with silenced := s.rlc.blocks.silenced || decide (n = 3) } := by
  unfold silenceAt
  split
  · rename_i h
    obtain ⟨hn, -⟩ := h
    exact ⟨_, .inr rfl, onset_rlc .silenced s, by rw [decide_eq_true hn, Bool.or_true]; rfl⟩
  · rename_i h
    refine ⟨_, .inl rfl, rfl, ?_⟩
    have hsilenced : (s.rlc.blocks.silenced || decide (n = 3)) = s.rlc.blocks.silenced := by
      cases hs : s.rlc.blocks.silenced with
      | true => rfl
      | false => exact decide_eq_false fun hn => h ⟨hn, hs⟩
    rw [hsilenced]

end

end Sys2Proof.Machine
end

section
/-! SUPPORT. The duplicate event: DUPLICATE held, or its onset with its count and timers (R94, R98 to R100). -/

namespace Sys2Proof.Machine

open Sys2Proof

/-- The count of an onset reaches 3 with the third (R100). -/
theorem satNext_three_iff (n : Nat) : satNext 3 n = 3 ↔ 2 ≤ n := by
  unfold satNext
  omega

section

variable {s : State}

theorem duplicateEvent_held (h : s.rlc.blocks.duplicate = true) : duplicateEvent s =
    (s.countLink fun k => { k with duplicateEvents := countUp k.duplicateEvents }).modRlc
      fun r => { r with duplicateHold := some s.clock } := if_pos h

/-- The link as a duplicate event takes it to the onset of DUPLICATE: counted, with the onset's count and timers (R98, R99). -/
def State.duplicateTimed (s : State) : State :=
  s.modRlc fun r =>
    { r with
      counters := { r.counters with duplicateEvents := countUp r.counters.duplicateEvents }
      duplicateCount := satNext 3 s.rlc.duplicateCount
      duplicateDecay := some s.clock
      duplicateHold := some s.clock }

theorem duplicateEvent_appears (h : s.rlc.blocks.duplicate = false) : duplicateEvent s =
    silenceAt (satNext 3 s.rlc.duplicateCount) (onset .duplicate s.duplicateTimed) :=
  if_neg (by rw [h]; exact Bool.false_ne_true)

theorem afterOnset_duplicateEvent (h : s.rlc.blocks.duplicate = false) : AfterOnset s (duplicateEvent s) := by
  rw [duplicateEvent_appears h]
  exact { (afterOnset_onset .duplicate s.duplicateTimed).silenceAt _ with }

theorem blockNoticed_duplicateEvent (h : s.rlc.blocks.duplicate = false) : BlockNoticed .duplicate s (duplicateEvent s) := by
  have honset := (blockNoticed_onset .duplicate s.duplicateTimed).silenceAt (by decide) (satNext 3 s.rlc.duplicateCount)
  rw [duplicateEvent_appears h]
  intro p hattached hroom
  exact honset p (by rw [State.duplicateTimed, State.modRlc_port]; exact hattached)
    (by rw [State.duplicateTimed, State.modRlc_notices]; exact hroom)

/-- The counters, the blocks, DUPLICATE's count and timers, and the last origins after its onset (R78, R98 to R100). -/
theorem duplicateEvent_link (h : s.rlc.blocks.duplicate = false) :
    (duplicateEvent s).rlc.counters =
      { s.rlc.counters with duplicateEvents := countUp s.rlc.counters.duplicateEvents } ∧
    (duplicateEvent s).rlc.blocks = { s.rlc.blocks with
      duplicate := true, silenced := s.rlc.blocks.silenced || decide (2 ≤ s.rlc.duplicateCount) } ∧
    (duplicateEvent s).rlc.duplicateCount = satNext 3 s.rlc.duplicateCount ∧
    (duplicateEvent s).rlc.duplicateHold = some s.clock ∧ (duplicateEvent s).rlc.duplicateDecay = some s.clock ∧
    (duplicateEvent s).rlc.lastOrigins = s.rlc.lastOrigins := by
  obtain ⟨r, hr, heq, hblocks⟩ := silenceAt_rlc (satNext 3 s.rlc.duplicateCount) (onset .duplicate s.duplicateTimed)
  rw [onset_rlc] at hr hblocks
  rw [duplicateEvent_appears h, heq, hblocks, ← decide_eq_decide.mpr (satNext_three_iff s.rlc.duplicateCount)]
  rcases hr with rfl | rfl <;> exact ⟨rfl, rfl, rfl, rfl, rfl, rfl⟩

end

end Sys2Proof.Machine
end

section
/-! SUPPORT. A well-formed frame that is no peer's for the station, test by test in the order of R94. -/

namespace Sys2Proof.Machine

open Sys2Proof

section

variable {f : Frame} {s : State} (act : State → State) (hr : s.receives = true)

include hr

theorem receiveFrame_own (ho : f.origin = s.address) :
    receiveFrame f act s = duplicateEvent (s.modRlc (RiserLink.frameEnds f)) := by
  rw [receiveFrame, if_pos hr]
  exact if_pos ho

theorem receiveFrame_misdirected (ho : f.origin ≠ s.address) (hm : f.misdirected = true) : receiveFrame f act s =
    (s.modRlc (RiserLink.frameEnds f)).countLink fun k => { k with misdirected := countUp k.misdirected } := by
  rw [receiveFrame, if_pos hr]
  exact (if_neg ho).trans (if_pos hm)

theorem receiveFrame_notForThis (ho : f.origin ≠ s.address) (hm : ¬f.misdirected = true)
    (hd : f.dest ≠ s.address ∧ f.dest ≠ 63) : receiveFrame f act s =
      (s.modRlc (RiserLink.frameEnds f)).countLink fun k => { k with notForThis := countUp k.notForThis } := by
  rw [receiveFrame, if_pos hr]
  exact (if_neg ho).trans ((if_neg hm).trans (if_pos hd))

theorem receiveFrame_unplaced (ho : f.origin ≠ s.address) (hm : ¬f.misdirected = true)
    (hd : ¬(f.dest ≠ s.address ∧ f.dest ≠ 63)) (hv : ¬validAddress f.origin = true) : receiveFrame f act s =
      ((s.modRlc (RiserLink.frameEnds f)).countLink fun k => { k with accepted := countUp k.accepted }).modPeers
        fun t => { t with unplacedFrames := countUp t.unplacedFrames } := by
  rw [receiveFrame, if_pos hr]
  exact (if_neg ho).trans ((if_neg hm).trans ((if_neg hd).trans (if_neg hv)))

end

/-- A destination goes with a broadcast kind when it is 63, and with another kind when it is a station's (R94). -/
theorem misdirected_iff (f : Frame) : f.misdirected = true ↔
    if f.kind.isBroadcast = true then f.dest ≠ 63 else f.dest = 0 ∨ 62 < f.dest := by
  unfold Frame.misdirected
  split
  · exact decide_eq_true_iff
  · rw [Bool.not_eq_true', ← Bool.not_eq_true, validAddress_iff]
    omega

/-- A command that brings a frame of a class from the line: its kind is broadcast or not, and the yield decision after it is
the one given (R85). -/
def IsFrameCommand (x dest : Byte) (payload : List Byte) (s : State) : Instr × AccessClass × Bool × Bool → Prop
  | (c, cls, broadcast, yields) =>
    ∃ kind act, exec c s = event (receiveFrame (frameOf kind x dest payload) act) s ∧ kind.cls = cls ∧
      kind.isBroadcast = broadcast ∧
      (decide (kind = .sheetTile) && tileMoreFollows payload && s.rlc.alarmPending && !s.rlc.blocks.any) = yields

/-- The ten frame commands with the classes of their kinds (5.2). -/
def frameCommands (x dest : Byte) (payload : List Byte) (s : State) : List (Instr × AccessClass × Bool × Bool) :=
  [(.zoneState .alarm x dest payload, .alarm, true, false), (.zoneState .routine x dest payload, .routine, true, false),
   (.directory x dest payload, .routine, true, false), (.sheetRequest x dest payload, .control, false, false),
   (.sheetRefuse x dest payload, .control, false, false), (.sheetCancel x dest payload, .control, false, false),
   (.sheetTile x dest payload, .bulk, false, decide (byteAt payload 13 = 1) && s.rlc.alarmPending && !s.rlc.blocks.any),
   (.markAck x dest payload, .control, true, false), (.markAttendOn x dest payload, .control, true, false),
   (.markAttendOff x dest payload, .control, true, false)]

theorem isFrameCommand_of_mem {x dest : Byte} {payload : List Byte} {s : State} :
    ∀ row ∈ frameCommands x dest payload s, IsFrameCommand x dest payload s row := by
  simp only [frameCommands, List.forall_mem_cons, List.not_mem_nil, false_implies, implies_true, and_true]
  exact ⟨⟨.zoneStateAlarm, _, rfl, rfl, rfl, rfl⟩, ⟨.zoneStateRoutine, _, rfl, rfl, rfl, rfl⟩,
    ⟨.directory, _, rfl, rfl, rfl, rfl⟩, ⟨.sheetRequest, _, rfl, rfl, rfl, rfl⟩, ⟨.sheetRefuse, _, rfl, rfl, rfl, rfl⟩,
    ⟨.sheetCancel, _, rfl, rfl, rfl, rfl⟩, ⟨.sheetTile, _, rfl, rfl, rfl, rfl⟩, ⟨.mark, _, rfl, rfl, rfl, rfl⟩,
    ⟨.mark, _, rfl, rfl, rfl, rfl⟩, ⟨.mark, _, rfl, rfl, rfl, rfl⟩⟩

/-- The link after the end of a well-formed frame, written out (R78, R85, R94). -/
theorem frameEnds_written {kind : FrameKind} {x dest : Byte} {payload : List Byte} {s : State} {cls : AccessClass}
    {yields : Bool} (hcls : kind.cls = cls)
    (hy : (decide (kind = .sheetTile) && tileMoreFollows payload && s.rlc.alarmPending && !s.rlc.blocks.any) = yields) :
    s.modRlc (RiserLink.frameEnds (frameOf kind x dest payload)) = { s with
      rlc := { s.rlc with
        tx := none, burst := none, yieldDue := yields, phase := .quiet
        lastOrigins := if 1 ≤ x.toNat ∧ x.toNat ≤ 62 then s.rlc.lastOrigins.set cls x.toNat else s.rlc.lastOrigins } } := by
  subst hcls hy
  rw [← if_congr (validAddress_iff x.toNat) rfl rfl]
  rfl

end Sys2Proof.Machine

open Sys2Proof Sys2Proof.Machine

/-- Settles O32: each command hands its frame to the receiver, which takes the tests of R94 in their order; a duplicate event
with no DUPLICATE present is an onset. -/
theorem framesOfNoPeer : Obligations.FramesOfNoPeer := by
  intro x dest payload s v c cls broadcast yields hheld hr hrow hv counted wrong
  obtain ⟨kind, act, hexec, hcls, hbroadcast, hy⟩ := isFrameCommand_of_mem _ hrow
  have hends := hv.trans (frameEnds_written (dest := dest) hcls hy).symm
  have hwrong : (frameOf kind x dest payload).misdirected = true ↔ wrong := by
    rw [misdirected_iff, show (frameOf kind x dest payload).kind.isBroadcast = broadcast from hbroadcast]
    rfl
  have hblocks : v.rlc.blocks = s.rlc.blocks := by rw [hv]
  have hcounters : v.rlc.counters = s.rlc.counters := by rw [hv]
  have hcount : v.rlc.duplicateCount = s.rlc.duplicateCount := by rw [hv]
  have hclock : v.clock = s.clock := by rw [hv]
  have hpeers : v.peers = s.peers := by rw [hv]
  have hport : ∀ p, v.port p = s.port p := fun p => by rw [hends, State.modRlc_port]
  have hnotices : ∀ p, v.notices p = s.notices p := fun p => by rw [hends, State.modRlc_notices]
  have hcounted : ∀ f : LinkCounters → LinkCounters, v.countLink f = counted f := fun _ => rfl
  have hcountUp : ∀ n, countUp n = min 65535 (n + 1) := fun _ => rfl
  rw [hexec, event_running hheld]
  refine ⟨fun ho => ?_, fun ho => ⟨fun hw => ?_, fun hw hda hdb => ?_, fun hw hd hx => ?_⟩⟩
  · rw [receiveFrame_own act hr ho, ← hends]
    rw [← hblocks]
    refine ⟨fun hdup => ?_, fun hdup => ?_⟩
    · rw [duplicateEvent_held hdup, State.countLink, State.modRlc, State.modRlc, hclock, hcounters, hcountUp]
    · have hlink := duplicateEvent_link hdup
      rw [hcounters, hcount, hclock, hcountUp] at hlink
      obtain ⟨hevents, hpresent, htimes, hhold, hdecay, horigins⟩ := hlink
      refine ⟨_, rfl, afterOnset_duplicateEvent hdup, fun p hattached hroom => ?_, hevents, hpresent, htimes, hhold, hdecay,
        horigins⟩
      exact blockNoticed_duplicateEvent hdup p (by rw [hport]; exact hattached) (by rw [hnotices]; exact hroom)
  · rw [receiveFrame_misdirected act hr ho (hwrong.mpr hw), ← hends, hcounted]
    simp only [hcountUp]
  · rw [receiveFrame_notForThis act hr ho (mt hwrong.mp hw) ⟨hda, hdb⟩, ← hends, hcounted]
    simp only [hcountUp]
  · rw [receiveFrame_unplaced act hr ho (mt hwrong.mp hw) (fun h => hd.elim h.1 h.2) ?_, ← hends, hcounted]
    · rw [State.modPeers, hcountUp, ← hpeers]
      simp only [hcountUp]
      rfl
    · show ¬validAddress x.toNat = true
      rw [validAddress_iff]
      omega
end

section
/-! SUPPORT. What leaving a port does: the attendance withdrawn floor by floor, the channels cancelled one by one, and the
queue that both fill (R74, R90, R137, R138). -/

namespace Sys2Proof.Machine

open Sys2Proof

/-! ### The CONTROL queue while a port is left -/

/-- The CONTROL queue has only grown, at its tail, by entries of one kind from one submitter. -/
def QueueGrows (kind : FrameKind) (who : Submitter) (before after : List ControlEntry) : Prop :=
  ∃ added, after = before ++ added ∧ ∀ e ∈ added, e.kind = kind ∧ e.submitter = who

/-- No entry of the queue is a SHEET REQUEST. -/
def RequestFree (q : List ControlEntry) : Prop := ∀ e ∈ q, ∀ c, e.isRequestOf c = false

namespace QueueGrows

variable {kind : FrameKind} {who : Submitter} {q r v : List ControlEntry}

theorem refl (kind : FrameKind) (who : Submitter) (q : List ControlEntry) : QueueGrows kind who q q :=
  ⟨[], (List.append_nil q).symm, fun _ he => nomatch he⟩

theorem trans (h : QueueGrows kind who q r) (g : QueueGrows kind who r v) : QueueGrows kind who q v := by
  obtain ⟨first, rfl, hfirst⟩ := h
  obtain ⟨second, rfl, hsecond⟩ := g
  exact ⟨first ++ second, List.append_assoc .., fun e he => (List.mem_append.mp he).elim (hfirst e) (hsecond e)⟩

theorem requestFree (h : QueueGrows kind who q r) (hq : RequestFree q)
    (hwho : ∀ e : ControlEntry, e.submitter = who → ∀ c, e.isRequestOf c = false) : RequestFree r := by
  obtain ⟨added, rfl, hadded⟩ := h
  intro e he
  rcases List.mem_append.mp he with he | he
  · exact hq e he
  · exact hwho e (hadded e he).2

end QueueGrows

theorem isRequestOf_mark {e : ControlEntry} (h : e.submitter = .mark) (c : Nat) : e.isRequestOf c = false := by
  rw [ControlEntry.isRequestOf, h]

theorem isRequestOf_cancel {e : ControlEntry} (h : e.submitter = .cancel) (c : Nat) : e.isRequestOf c = false := by
  rw [ControlEntry.isRequestOf, h]

/-- A withdrawal leaves a queue without SHEET REQUESTs as it is. -/
theorem withdrawRequests_requestFree (c : Nat) {r : RiserLink} (h : RequestFree r.control) : r.withdrawRequests c = r := by
  cases hq : r.control with
  | nil => exact withdrawRequests_none c hq
  | cons e rest =>
    rw [hq] at h
    have hhead : e.isRequestOf c = false := h e List.mem_cons_self c
    have hrest : rest.filter (fun x => !x.isRequestOf c) = rest := List.filter_eq_self.mpr fun x hx => by
      rw [h x (List.mem_cons_of_mem e hx) c]
      rfl
    have hsame : { r with control := e :: rest } = r := by rw [← hq]
    rw [RiserLink.withdrawRequests, hq]
    dsimp only
    rw [hhead, hrest]
    exact hsame

theorem queueGrows_submit (kind : FrameKind) (dest : Nat) (payload : List Byte) (who : Submitter) (r : RiserLink) :
    QueueGrows kind who r.control (r.submit kind dest payload who).control := by
  by_cases h : r.answer = .queued
  · rw [submit_queued h]
    exact ⟨_, rfl, fun e he => by rw [List.mem_singleton.mp he]; exact ⟨rfl, rfl⟩⟩
  · rw [submit_refused h]
    exact QueueGrows.refl ..

theorem queueGrows_submitMark (payload : List Byte) (s : State) :
    QueueGrows .mark .mark s.rlc.control (submitMark payload s).rlc.control := by
  unfold submitMark
  split <;> exact queueGrows_submit ..

theorem queueGrows_submitSheet (kind : FrameKind) (dest : Nat) (payload : List Byte) (who : Submitter) (s : State) :
    QueueGrows kind who s.rlc.control (submitSheet kind dest payload who s).rlc.control := by
  unfold submitSheet
  split <;> exact queueGrows_submit ..

theorem queueGrows_submitCancel (c : Nat) (s : State) :
    QueueGrows .sheetCancel .cancel s.rlc.control (submitCancel c s).rlc.control := by
  unfold submitCancel
  dsimp only
  split
  · exact QueueGrows.refl ..
  · exact queueGrows_submitSheet ..

/-- A submission of the engine changes the link and a count of the engine, and no more (R90, R143). -/
theorem submitSheet_rest (kind : FrameKind) (dest : Nat) (payload : List Byte) (who : Submitter) (s : State) :
    { submitSheet kind dest payload who s with rlc := s.rlc, ste := s.ste } = s ∧
    (submitSheet kind dest payload who s).ste.channels = s.ste.channels := by
  unfold submitSheet
  split <;> exact ⟨rfl, rfl⟩

theorem submitCancel_rest (c : Nat) (s : State) :
    { submitCancel c s with rlc := s.rlc, ste := s.ste } = s ∧ (submitCancel c s).ste.channels = s.ste.channels := by
  unfold submitCancel
  dsimp only
  split
  · exact ⟨rfl, rfl⟩
  · exact submitSheet_rest ..

theorem State.modPort_channel (p : Port) (g : CrewPort → CrewPort) (s : State) (c : Nat) :
    (s.modPort p g).channel c = s.channel c := by
  cases p <;> rfl

theorem State.modPort_readList (p : Port) (g : CrewPort → CrewPort) (s : State) (c : Nat) :
    (s.modPort p g).readList c = s.readList c := by
  cases p <;> rfl

theorem State.modNotices_channel (p : Port) (g : NoticeController → NoticeController) (s : State) (c : Nat) :
    (s.modNotices p g).channel c = s.channel c := by
  cases p <;> rfl

theorem State.modNotices_readList (p : Port) (g : NoticeController → NoticeController) (s : State) (c : Nat) :
    (s.modNotices p g).readList c = s.readList c := by
  cases p <;> rfl

/-! ### What leaving a port leaves alone -/

/-- `t` with everything that leaving a port may change put back as it is in `s`. -/
def State.leavingUndone (s t : State) : State :=
  { t with
    picture := s.picture, rlc := s.rlc, marks := s.marks, ste := s.ste, store := s.store, portA := s.portA
    portB := s.portB, noticesA := s.noticesA, noticesB := s.noticesB }

/-- Between `s` and `t` the attendance lists, the link, the mark counts, the transfers and the notices may have changed, and of
port `p` the message being sent, which goes on; nothing else. -/
structure LeavesRest (p : Port) (s t : State) : Prop where
  rest : s.leavingUndone t = s
  entries : t.picture.entries = s.picture.entries
  memory : t.store.memory = s.store.memory
  waiting : t.store.waiting = s.store.waiting
  ownPort : ∃ m, t.port p = { s.port p with sending := m } ∧ (m = none ↔ (s.port p).sending = none)
  otherPort : ∀ q, q ≠ p → t.port q = s.port q

namespace LeavesRest

variable {p : Port} {s t u : State}

theorem refl (p : Port) (s : State) : LeavesRest p s s := ⟨rfl, rfl, rfl, rfl, ⟨_, rfl, Iff.rfl⟩, fun _ _ => rfl⟩

theorem trans (h : LeavesRest p s t) (g : LeavesRest p t u) : LeavesRest p s u := by
  refine ⟨?_, g.entries.trans h.entries, g.memory.trans h.memory, g.waiting.trans h.waiting, ?_,
    fun q hq => (g.otherPort q hq).trans (h.otherPort q hq)⟩
  · calc s.leavingUndone u = s.leavingUndone (t.leavingUndone u) := rfl
      _ = s.leavingUndone t := by rw [g.rest]
      _ = s := h.rest
  · obtain ⟨m, hm, hsending⟩ := h.ownPort
    obtain ⟨n, hn, hsending'⟩ := g.ownPort
    rw [hm] at hn hsending'
    exact ⟨n, hn, hsending'.trans hsending⟩

theorem address (h : LeavesRest p s t) : t.address = s.address := congrArg (·.address) h.rest

theorem clock (h : LeavesRest p s t) : t.clock = s.clock := congrArg (·.clock) h.rest

theorem pending (h : LeavesRest p s t) : t.pending = s.pending := congrArg (·.pending) h.rest

theorem zones (h : LeavesRest p s t) : t.zones = s.zones := congrArg (·.zones) h.rest

theorem peers (h : LeavesRest p s t) : t.peers = s.peers := congrArg (·.peers) h.rest

theorem holders (h : LeavesRest p s t) : t.holders = s.holders := congrArg (·.holders) h.rest

/-- A step that changes no port. -/
theorem ofPorts (hrest : s.leavingUndone t = s) (hentries : t.picture.entries = s.picture.entries)
    (hmemory : t.store.memory = s.store.memory) (hwaiting : t.store.waiting = s.store.waiting)
    (hA : t.portA = s.portA) (hB : t.portB = s.portB) : LeavesRest p s t := by
  have hport : ∀ q, t.port q = s.port q := fun q => by
    cases q with
    | a => exact hA
    | b => exact hB
  exact ⟨hrest, hentries, hmemory, hwaiting, ⟨_, hport p, Iff.rfl⟩, fun q _ => hport q⟩

end LeavesRest

/-- A floor's list changed, in one event. -/
theorem ListChanged.leavesRest {f : Nat} {list : List Attendance} {s w : State} (h : ListChanged f list s w) (p : Port) :
    LeavesRest p s w := by
  have hrest := h.only.rest
  refine LeavesRest.ofPorts ?_ h.only.entries (congrArg (·.memory) hrest.store) (congrArg (·.waiting) hrest.store)
    hrest.portA hrest.portB
  calc s.leavingUndone w = { s.leavingUndone w with zones := s.zones } := by rw [← h.only.zones]; rfl
    _ = { s.leavingUndone s with zones := s.zones } :=
      congrArg (fun v : State => { s.leavingUndone v with zones := s.zones }) hrest
    _ = s := rfl

theorem leavesRest_submitMark (p : Port) (payload : List Byte) (s : State) : LeavesRest p s (submitMark payload s) := by
  unfold submitMark
  split <;> exact LeavesRest.ofPorts rfl rfl rfl rfl rfl rfl

/-- What the end of an event may change, with the waiting store request kept. -/
theorem Inner.leavesRest {s t : State} (h : Inner s t) (hwaiting : t.store.waiting = s.store.waiting) (p : Port) :
    LeavesRest p s t := by
  have hrest : s.leavingUndone t.lasting = s.leavingUndone s.lasting := congrArg s.leavingUndone h.lasting
  exact LeavesRest.ofPorts hrest (congrArg (·.entries) h.picture) h.memory hwaiting h.portA h.portB

/-- A message being sent goes on when its channel is forgotten (R159). -/
theorem leavesRest_forget (p : Port) (c : Nat) (s : State) : LeavesRest p s (s.modPort p (CrewPort.forget c)) where
  rest := by cases p <;> rfl
  entries := by rw [State.modPort_picture]
  memory := by rw [State.modPort_store]
  waiting := by rw [State.modPort_store]
  ownPort := ⟨_, State.modPort_port .., Option.map_eq_none_iff⟩
  otherPort := fun _ hq => State.modPort_port_ne hq ..

/-! ### The attendance withdrawn (R74) -/

/-- A floor's list without the entry of port `p` of the station. -/
def State.attendanceLeft (p : Port) (s : State) (f : Nat) : List Attendance :=
  (s.floor f).attendance.filter fun a => !(decide (a.station = s.address) && decide (a.port = p))

theorem attendOffList_left (p : Port) (s : State) (f : Nat) :
    attendOffList s.address p (s.floor f).attendance = s.attendanceLeft p f :=
  attendOffList_eq { label := [], station := s.address, port := p, time := 0 } _

/-- Between `s` and `t` the attendance of port `p` has been withdrawn on the floors that `done` names, with MARKs queued. -/
structure AttendanceWithdrawn (p : Port) (done : Nat → Prop) (s t : State) : Prop where
  leaves : ∀ f < 256, done f → (t.floor f).attendance = s.attendanceLeft p f
  keeps : ∀ f < 256, ¬done f → (t.floor f).attendance = (s.floor f).attendance
  queue : QueueGrows .mark .mark s.rlc.control t.rlc.control
  store : t.store = s.store
  ste : t.ste = s.ste
  rest : LeavesRest p s t

theorem ListChanged.withdrawn {p : Port} {f : Nat} {s w : State} (h : ListChanged f (s.attendanceLeft p f) s w) :
    AttendanceWithdrawn p (· = f) s w where
  leaves := fun g _ hg => hg ▸ h.attendance
  keeps := fun g _ hg => by rw [h.only.others g hg]
  queue := h.link ▸ QueueGrows.refl ..
  store := h.only.rest.store
  ste := h.only.rest.ste
  rest := h.leavesRest p

/-- A MARK submitted after the withdrawal. -/
theorem AttendanceWithdrawn.marked {p : Port} {done : Nat → Prop} {s t : State} (h : AttendanceWithdrawn p done s t)
    (payload : List Byte) : AttendanceWithdrawn p done s (submitMark payload t) := by
  have hfloor := State.floor_congr (submitMark_picture payload t)
  have hsent := submitMark_rest payload t
  exact
    { leaves := fun f hf hd => by rw [hfloor]; exact h.leaves f hf hd
      keeps := fun f hf hd => by rw [hfloor]; exact h.keeps f hf hd
      queue := h.queue.trans (queueGrows_submitMark payload t)
      store := (congrArg State.store hsent).trans h.store
      ste := (congrArg State.ste hsent).trans h.ste
      rest := h.rest.trans (leavesRest_submitMark p payload t) }

theorem withdrawn_withdrawFloor (p : Port) (label : Text) (s : State) {f : Nat} (hf : f < 256) :
    AttendanceWithdrawn p (· = f) s (withdrawFloor p label s f) := by
  have hlist := listChanged_attendOffFloor hf s.address p s
  rw [attendOffList_left] at hlist
  unfold withdrawFloor
  split
  · exact hlist.withdrawn.marked _
  · rename_i hnone
    rw [attendOffFloor, if_neg hnone] at hlist
    exact hlist.withdrawn

/-- One floor more, after the floors before it. -/
theorem AttendanceWithdrawn.next {p : Port} {n : Nat} {s t u : State} (h : AttendanceWithdrawn p (· < n) s t)
    (g : AttendanceWithdrawn p (· = n) t u) : AttendanceWithdrawn p (· < n + 1) s u where
  leaves := fun f hf hd => by
    rcases Nat.lt_succ_iff_lt_or_eq.mp hd with hlt | heq
    · rw [g.keeps f hf (Nat.ne_of_lt hlt)]
      exact h.leaves f hf hlt
    · rw [g.leaves f hf heq, State.attendanceLeft, h.keeps f hf (by omega), h.rest.address, State.attendanceLeft]
  keeps := fun f hf hd => by
    rw [g.keeps f hf (by omega)]
    exact h.keeps f hf (by omega)
  queue := h.queue.trans g.queue
  store := g.store.trans h.store
  ste := g.ste.trans h.ste
  rest := h.rest.trans g.rest

theorem withdrawn_none (p : Port) (s : State) {done : Nat → Prop} (h : ∀ f, ¬done f) : AttendanceWithdrawn p done s s :=
  ⟨fun f _ hd => absurd hd (h f), fun _ _ _ => rfl, QueueGrows.refl .., rfl, rfl, LeavesRest.refl p s⟩

theorem withdrawn_floors (p : Port) (label : Text) (s : State) {n : Nat} (hn : n ≤ 256) :
    AttendanceWithdrawn p (· < n) s ((List.range n).foldl (withdrawFloor p label) s) := by
  induction n with
  | zero => exact withdrawn_none p s fun f => Nat.not_lt_zero f
  | succ n ih =>
    rw [List.range_succ, List.foldl_append, List.foldl_cons, List.foldl_nil]
    exact (ih (by omega)).next (withdrawn_withdrawFloor p label _ hn)

/-- A port without a label has no attendance to withdraw (R74). -/
theorem withdrawn_withdrawAttendance (p : Port) (s : State) :
    AttendanceWithdrawn p (fun f => f < 256 ∧ (s.port p).label ≠ none) s (withdrawAttendance p s) := by
  unfold withdrawAttendance
  split
  · rename_i hnone
    exact withdrawn_none p s fun f h => h.2 hnone
  · rename_i label hlabel
    have hall := withdrawn_floors p label s (Nat.le_refl 256)
    exact { hall with
      leaves := fun f hf _ => hall.leaves f hf hf
      keeps := fun f hf hd => absurd ⟨hf, by rw [hlabel]; exact Option.some_ne_none label⟩ hd }

/-! ### The channels cancelled (R137, R138) -/

/-- Between `s` and `t` the channels of port `p` that `done` names have been cancelled, with SHEET CANCELs queued. -/
structure ChannelsCancelled (p : Port) (done : Nat → Prop) (s t : State) : Prop where
  freed : ∀ c < 6, done c → (s.channel c).owner = .port p → t.channel c = Channel.freed ∧ t.readList c = []
  others : ∀ c < 6, ¬(done c ∧ (s.channel c).owner = .port p) →
    t.channel c = s.channel c ∧ t.readList c = s.readList c
  queue : RequestFree s.rlc.control → QueueGrows .sheetCancel .cancel s.rlc.control t.rlc.control
  picture : t.picture = s.picture
  rest : LeavesRest p s t

theorem ChannelClosed.waiting {c : Nat} {v u : State} (h : ChannelClosed c v u) : u.store.waiting = v.store.waiting :=
  congrArg (·.store.waiting) h.rest

/-- The state in which a cancelled channel is closed: the current candidate of a remote one has its SHEET CANCEL (R137). -/
def State.cancelTold (c : Nat) (s : State) : State := if (s.channel c).isRemote then submitCancel c s else s

theorem cancelChannel_eq (p : Port) (c : Nat) (s : State) : cancelChannel p c s =
    (closeChannel c (withdrawRequest c (s.cancelTold c))).modPort p (CrewPort.forget c) := rfl

theorem inner_cancelTold (c : Nat) (s : State) : Inner s (s.cancelTold c) := by
  unfold State.cancelTold
  split
  · exact inner_submitCancel c s
  · exact Inner.refl s

theorem cancelTold_rest (c : Nat) (s : State) :
    { s.cancelTold c with rlc := s.rlc, ste := s.ste } = s ∧ (s.cancelTold c).ste.channels = s.ste.channels := by
  unfold State.cancelTold
  split
  · exact submitCancel_rest c s
  · exact ⟨rfl, rfl⟩

theorem queueGrows_cancelTold (c : Nat) (s : State) :
    QueueGrows .sheetCancel .cancel s.rlc.control (s.cancelTold c).rlc.control := by
  unfold State.cancelTold
  split
  · exact queueGrows_submitCancel c s
  · exact QueueGrows.refl ..

/-- A channel cancelled, but for the message of it that may be on its way (R137). -/
theorem cancelled_closeChannel (p : Port) {c : Nat} (hc : c < 6) {s : State} (howner : (s.channel c).owner = .port p) :
    ChannelsCancelled p (· = c) s (closeChannel c (withdrawRequest c (s.cancelTold c))) := by
  obtain ⟨hrest, hchannels⟩ := cancelTold_rest c s
  have hgrows := queueGrows_cancelTold c s
  have hstore : (s.cancelTold c).store = s.store := congrArg (·.store) hrest
  have hclosed := channelClosed hc (withdrawRequest c (s.cancelTold c))
  have hwaiting := hclosed.waiting.trans (congrArg (·.waiting) hstore)
  have hinner := ((inner_cancelTold c s).trans (inner_withdrawRequest c _)).trans (inner_closeChannel c _)
  generalize closeChannel c (withdrawRequest c (s.cancelTold c)) = u at hclosed hinner hwaiting ⊢
  refine ⟨fun d _ hd _ => hd ▸ hclosed.freed, fun d hlt hd => ?_, fun hfree => ?_, hinner.picture,
    hinner.leavesRest hwaiting p⟩
  · obtain ⟨hchannel, hlist⟩ := hclosed.others d hlt fun h => hd ⟨h, h ▸ howner⟩
    exact ⟨hchannel.trans (congrArg (fun t => tget Channel.freed t d) hchannels),
      hlist.trans (congrArg (fun x : PlanStore => tget [] x.lists d) hstore)⟩
  · rw [hclosed.control.1, withdrawRequest, State.modRlc,
      withdrawRequests_requestFree c (hgrows.requestFree hfree fun _ => isRequestOf_cancel)]
    exact hgrows

theorem ChannelsCancelled.forgotten {p : Port} {done : Nat → Prop} {s t : State} (h : ChannelsCancelled p done s t) (c : Nat) :
    ChannelsCancelled p done s (t.modPort p (CrewPort.forget c)) := by
  refine ⟨fun d hd hdone ho => ?_, fun d hd hno => ?_, fun hfree => ?_, (State.modPort_picture ..).trans h.picture,
    h.rest.trans (leavesRest_forget p c t)⟩
  · rw [State.modPort_channel, State.modPort_readList]
    exact h.freed d hd hdone ho
  · rw [State.modPort_channel, State.modPort_readList]
    exact h.others d hd hno
  · rw [State.modPort_rlc]
    exact h.queue hfree

theorem cancelled_cancelOwned (p : Port) (s : State) {c : Nat} (hc : c < 6) :
    ChannelsCancelled p (· = c) s (cancelOwned p s c) := by
  unfold cancelOwned
  split
  · rename_i howns
    rw [cancelChannel_eq]
    exact (cancelled_closeChannel p hc (of_decide_eq_true howns)).forgotten c
  · rename_i hnot
    have howner : (s.channel c).owner ≠ .port p := fun h => hnot (decide_eq_true h)
    exact ⟨fun d _ hd ho => absurd (hd ▸ ho) howner, fun _ _ _ => ⟨rfl, rfl⟩, fun _ => QueueGrows.refl .., rfl,
      LeavesRest.refl p s⟩

/-- One channel more, after the channels below it. -/
theorem ChannelsCancelled.next {p : Port} {n : Nat} {s t u : State} (h : ChannelsCancelled p (· < n) s t)
    (g : ChannelsCancelled p (· = n) t u) : ChannelsCancelled p (· < n + 1) s u where
  freed := fun c hc hd ho => by
    rcases Nat.lt_succ_iff_lt_or_eq.mp hd with hlt | heq
    · obtain ⟨hchannel, hlist⟩ := g.others c hc fun hg => Nat.ne_of_lt hlt hg.1
      rw [hchannel, hlist]
      exact h.freed c hc hlt ho
    · obtain ⟨hchannel, -⟩ := h.others c hc fun hh => Nat.ne_of_lt hh.1 heq
      exact g.freed c hc heq (hchannel ▸ ho)
  others := fun c hc hno => by
    obtain ⟨hchannel, hlist⟩ := h.others c hc fun hh => hno ⟨Nat.lt_succ_of_lt hh.1, hh.2⟩
    obtain ⟨hchannel', hlist'⟩ := g.others c hc fun hg => hno ⟨by omega, hchannel ▸ hg.2⟩
    exact ⟨hchannel'.trans hchannel, hlist'.trans hlist⟩
  queue := fun hfree => (h.queue hfree).trans
    (g.queue ((h.queue hfree).requestFree hfree fun _ => isRequestOf_cancel))
  picture := g.picture.trans h.picture
  rest := h.rest.trans g.rest

theorem cancelled_channels (p : Port) (s : State) {n : Nat} (hn : n ≤ 6) :
    ChannelsCancelled p (· < n) s ((List.range n).foldl (cancelOwned p) s) := by
  induction n with
  | zero =>
    exact ⟨fun c _ hd => absurd hd (Nat.not_lt_zero c), fun _ _ _ => ⟨rfl, rfl⟩, fun _ => QueueGrows.refl .., rfl,
      LeavesRest.refl p s⟩
  | succ n ih =>
    rw [List.range_succ, List.foldl_append, List.foldl_cons, List.foldl_nil]
    exact (ih (by omega)).next (cancelled_cancelOwned p _ hn)

theorem cancelled_cancelChannels (p : Port) (s : State) : ChannelsCancelled p (· < 6) s (cancelChannels p s) :=
  cancelled_channels p s (Nat.le_refl 6)

/-! ### The port left -/

theorem leavesRest_modNotices (p : Port) (f : NoticeController → NoticeController) (s : State) :
    LeavesRest p s (s.modNotices p f) := by
  cases p <;> exact LeavesRest.ofPorts rfl rfl rfl rfl rfl rfl

theorem leavePort_rest (p : Port) (s : State) : LeavesRest p s (leavePort p s) :=
  ((withdrawn_withdrawAttendance p s).rest.trans (cancelled_cancelChannels p _).rest).trans (leavesRest_modNotices p _ _)

theorem leavePort_attendance {p : Port} {s : State} (hlabel : (s.port p).label ≠ none) {f : Nat} (hf : f < 256) :
    ((leavePort p s).floor f).attendance = s.attendanceLeft p f := by
  have hpicture : (leavePort p s).picture = (withdrawAttendance p s).picture :=
    (State.modNotices_picture ..).trans (cancelled_cancelChannels p _).picture
  rw [State.floor_congr hpicture]
  exact (withdrawn_withdrawAttendance p s).leaves f hf ⟨hf, hlabel⟩

/-- The channels of the port become FREE, and no other does (R138). -/
theorem leavePort_channels (p : Port) (s : State) {c : Nat} (hc : c < 6) :
    ((s.channel c).owner = .port p → (leavePort p s).channel c = Channel.freed ∧ (leavePort p s).readList c = []) ∧
    ((s.channel c).owner ≠ .port p →
      (leavePort p s).channel c = s.channel c ∧ (leavePort p s).readList c = s.readList c) := by
  have hwithdrawn := withdrawn_withdrawAttendance p s
  have hcancelled := cancelled_cancelChannels p (withdrawAttendance p s)
  have hchannel : (withdrawAttendance p s).channel c = s.channel c :=
    congrArg (fun x : TransferEngine => tget Channel.freed x.channels c) hwithdrawn.ste
  have hlist : (withdrawAttendance p s).readList c = s.readList c :=
    congrArg (fun x : PlanStore => tget [] x.lists c) hwithdrawn.store
  rw [leavePort, State.modNotices_channel, State.modNotices_readList, ← hchannel, ← hlist]
  exact ⟨hcancelled.freed c hc hc, fun ho => hcancelled.others c hc fun h => ho h.2⟩

/-- The MARKs of the withdrawal stand before the SHEET CANCELs (R74, R138, R153). -/
theorem leavePort_marksFirst (p : Port) {s : State} (hempty : s.rlc.control = []) :
    ∃ marks cancels, (leavePort p s).rlc.control = marks ++ cancels ∧
      (∀ e ∈ marks, e.kind = .mark) ∧ ∀ e ∈ cancels, e.kind = .sheetCancel := by
  have hmarked := (withdrawn_withdrawAttendance p s).queue
  rw [hempty] at hmarked
  have hfree := hmarked.requestFree (fun _ he => nomatch he) fun _ => isRequestOf_mark
  obtain ⟨cancels, hcancels, hcancelKind⟩ := (cancelled_cancelChannels p _).queue hfree
  obtain ⟨marks, hmarks, hmarkKind⟩ := hmarked
  rw [List.nil_append] at hmarks
  refine ⟨marks, cancels, ?_, fun e he => (hmarkKind e he).1, fun e he => (hcancelKind e he).1⟩
  rw [leavePort, State.modNotices_rlc, hcancels, hmarks]

/-- A port left and then DETACHED, whatever else of its own it loses (R146, R153). -/
theorem portLeft_modPort (p : Port) (s : State) {g : CrewPort → CrewPort}
    (hg : ∀ q, (g q).attached = false ∧ (g q).label = none) : PortLeft p s ((leavePort p s).modPort p g) := by
  have hrest := leavePort_rest p s
  refine
    { detached := by rw [State.modPort_port]; exact hg _
      notices := ?_
      attendance := fun label hlabel f hf => ?_
      freed := fun c hc ho => ?_
      others := fun c hc ho => ?_
      marksFirst := fun hempty => by rw [State.modPort_rlc]; exact leavePort_marksFirst p hempty
      otherPort := fun q hq => (State.modPort_port_ne hq ..).trans (hrest.otherPort q hq)
      rest := ?_ }
  · rw [State.modPort_notices, leavePort, State.modNotices_notices]
    exact ⟨rfl, rfl, rfl, rfl, rfl⟩
  · rw [State.floor_congr (State.modPort_picture ..)]
    exact leavePort_attendance (by rw [hlabel]; exact Option.some_ne_none label) hf
  · rw [State.modPort_channel, State.modPort_readList]
    exact (leavePort_channels p s hc).1 ho
  · rw [State.modPort_channel, State.modPort_readList]
    exact (leavePort_channels p s hc).2 ho
  · rw [State.modPort_picture, State.modPort_zones, State.modPort_peers, State.modPort_holders, State.modPort_store,
      State.modPort_clock, State.modPort_pending]
    exact ⟨hrest.entries, hrest.zones, hrest.peers, hrest.holders, hrest.memory, hrest.clock, hrest.pending⟩

/-- A receiver that hunts has no part in what a port left leaves. -/
theorem portLeft_hunting {p : Port} {s u : State} (h : PortLeft p (s.hunting p) u) : PortLeft p s u := by
  have hothers : ∀ q, q ≠ p → (s.hunting p).port q = s.port q := fun q hq => State.modPort_port_ne hq ..
  refine ⟨h.detached, h.notices, fun label hlabel => ?_, ?_, ?_, ?_, fun q hq => (h.otherPort q hq).trans (hothers q hq), ?_⟩
  · have hleft := h.attendance label ((hunting_label p s).trans hlabel)
    simpa only [hunting_floor, hunting_address] using hleft
  · cases p <;> exact h.freed
  · cases p <;> exact h.others
  · cases p <;> exact h.marksFirst
  · cases p <;> exact h.rest

end Sys2Proof.Machine
end

section
/-! SUPPORT. A crew member's DETACH (R151, R153). -/

namespace Sys2Proof.Machine

open Sys2Proof

section

variable {p : Port} {r : Request} {s : State} {k : RequestKind}

/-- A request of a kind that needs a label, in form, is refused at a DETACHED port (R151). -/
theorem dispatch_noLabel (hk : s.kindServed p r.kind.toNat = some k) (hf : k.formatGood r.body = true)
    (hl : k.needsLabel = true) (ha : (s.port p).attached = false) :
    dispatch p r s = respond p r.kind.toNat .noLabel [] s := by
  unfold dispatch
  rw [hk]
  dsimp only
  rw [hf, hl, ha]
  rfl

/-- A request in form is handed to its block at an ATTACHED port (R151). -/
theorem dispatch_attached (hk : s.kindServed p r.kind.toNat = some k) (hf : k.formatGood r.body = true)
    (ha : (s.port p).attached = true) : dispatch p r s = serveKind p r.body s k := by
  unfold dispatch
  rw [hk]
  dsimp only
  rw [hf, ha, Bool.not_true, Bool.and_false]
  rfl

end

/-- The port's own values after a DETACH, but for its response (R153). -/
def CrewPort.leaves (q : CrewPort) : CrewPort := { q with attached := false, label := none }

theorem serveDetach_eq (p : Port) (s : State) :
    serveDetach p s = ((leavePort p s).modPort p CrewPort.leaves).answer p [[0x02#8, 0#8, 1#8, 1#8]] := rfl

theorem portLeft_serveDetach (p : Port) (s : State) : PortLeft p s (serveDetach p s) := by
  rw [serveDetach_eq, State.answer, State.modPort_modPort]
  exact portLeft_modPort p s fun _ => ⟨rfl, rfl⟩

/-- The port after a DETACH: a message being sent goes on (R153, R159). -/
theorem serveDetach_port (p : Port) (s : State) :
    ∃ m, (m = none ↔ (s.port p).sending = none) ∧ (serveDetach p s).port p = { (s.port p).leaves with
      sending := m, responseSlot := [[0x02#8, 0#8, 1#8, 1#8]], storeAhead := (s.port p).storeSlot.length } := by
  obtain ⟨m, hm, hsending⟩ := (leavePort_rest p s).ownPort
  refine ⟨m, hsending, ?_⟩
  rw [serveDetach_eq, State.answer, State.modPort_port, State.modPort_port, hm]
  rfl

theorem serveDetach_waiting (p : Port) (s : State) : (serveDetach p s).store.waiting = s.store.waiting := by
  rw [serveDetach_eq, State.answer, State.modPort_store, State.modPort_store]
  exact (leavePort_rest p s).waiting

section

variable {p : Port} {s : State} (h : Ready p s)

include h

theorem exec_detach_refused (ha : (s.port p).attached = false) :
    exec (.detach p) s = .next (settle s ((s.hunting p).answer p [[0x02#8, 0x42#8, 1#8, 1#8]])) := by
  refine crewEvent_ready h 0x02 (body := []) (Nat.zero_le 299) ?_
    (.inr (by rw [State.answer_slot]; exact List.cons_ne_nil _ _))
  exact dispatch_noLabel (k := .detach) rfl rfl rfl (by rw [State.hunting_port]; exact ha)

theorem exec_detach_taken (ha : (s.port p).attached = true) :
    exec (.detach p) s = .next (settle s (serveDetach p (s.hunting p))) := by
  refine crewEvent_ready h 0x02 (body := []) (Nat.zero_le 299) ?_
    (.inr (by rw [serveDetach_eq, State.answer_slot]; exact List.cons_ne_nil _ _))
  exact dispatch_attached (k := .detach) rfl rfl (by rw [State.hunting_port]; exact ha)

end

end Sys2Proof.Machine

open Sys2Proof Sys2Proof.Machine

/-- Settles O50: the request is served on the state in which the receiver hunts; the attendance is withdrawn floor by floor, with
its MARKs, before the channels are cancelled one by one, with their SHEET CANCELs. -/
theorem detachLeavesPort : Obligations.DetachLeavesPort := by
  intro p s hready
  refine ⟨exec_detach_refused hready, fun ha => ?_⟩
  have ⟨_, _, hbuffer, _⟩ := hready
  obtain ⟨m, hm, hport⟩ := serveDetach_port p (s.hunting p)
  rw [State.hunting_port] at hm hport
  refine ⟨_, exec_detach_taken hready ha, portLeft_hunting (portLeft_serveDetach p _), ?_⟩
  rw [hport, serveDetach_waiting, State.hunting, State.modPort_store]
  exact ⟨rfl, rfl, hbuffer, rfl, rfl, rfl, hm, rfl⟩
end

section
/-! SUPPORT. What every operation but those of the riser link itself leaves of the link: the blocks, the last origins, the
counts, whether it drives; and the CONTROL queue within its limit (R78, R83, R90, R97, R99). -/

namespace Sys2Proof.Machine

open Sys2Proof

/-! ### What is kept -/

/-- What the laws and limits of the link, and the items fixed until a reset, look at. -/
structure LinkView where
  clock : Nat
  held : Bool
  address : Nat
  maintenance : Bool
  pending : List Instr
  blocks : Blocks
  lastOrigins : LastOrigins
  abandoned : Nat
  duplicateCount : Nat
  babbleCount : Nat
  driving : Bool
  control : List ControlEntry

def State.linkView (s : State) : LinkView where
  clock := s.clock
  held := s.held
  address := s.address
  maintenance := s.maintenance
  pending := s.pending
  blocks := s.rlc.blocks
  lastOrigins := s.rlc.lastOrigins
  abandoned := s.rlc.abandoned
  duplicateCount := s.rlc.duplicateCount
  babbleCount := s.rlc.babbleCount
  driving := s.rlc.tx.isSome
  control := s.rlc.control

/-- The items that no command but a reset sets, and SILENCED, which only a reset clears (R100, R179, R180). -/
abbrev FixedItems (s t : State) : Prop :=
  t.clock = s.clock ∧ t.held = s.held ∧ t.address = s.address ∧ t.maintenance = s.maintenance ∧
  t.rlc.blocks.address = s.rlc.blocks.address ∧ t.rlc.blocks.maintenance = s.rlc.blocks.maintenance ∧
  (s.rlc.blocks.silenced = true → t.rlc.blocks.silenced = true)

/-- Between `s` and `t` no reset has taken effect, and what has happened keeps the laws and the limits of the link. -/
structure LinkKept (s t : State) : Prop where
  pending : t.pending = s.pending
  fixed : FixedItems s t
  law : LinkLaw s → LinkLaw t
  limits : LinkLimits s → LinkLimits t

theorem linkKept_of_view {s t : State} (h : t.linkView = s.linkView) : LinkKept s t := by
  have hblocks : t.rlc.blocks = s.rlc.blocks := congrArg (·.blocks) h
  have haddress : t.address = s.address := congrArg (·.address) h
  have hmaintenance : t.maintenance = s.maintenance := congrArg (·.maintenance) h
  have horigins : t.rlc.lastOrigins = s.rlc.lastOrigins := congrArg (·.lastOrigins) h
  have hdriving : t.rlc.tx.isSome = s.rlc.tx.isSome := congrArg (·.driving) h
  have hcontrol : t.rlc.control = s.rlc.control := congrArg (·.control) h
  have habandoned : t.rlc.abandoned = s.rlc.abandoned := congrArg (·.abandoned) h
  have hduplicate : t.rlc.duplicateCount = s.rlc.duplicateCount := congrArg (·.duplicateCount) h
  have hbabble : t.rlc.babbleCount = s.rlc.babbleCount := congrArg (·.babbleCount) h
  constructor
  case pending => exact congrArg (·.pending) h
  case fixed =>
    rw [FixedItems, hblocks]
    exact ⟨congrArg (·.clock) h, congrArg (·.held) h, haddress, hmaintenance, rfl, rfl, id⟩
  case law =>
    rw [LinkLaw, LinkLaw, hblocks, haddress, hmaintenance, horigins, hdriving]
    exact id
  case limits =>
    rw [LinkLimits, LinkLimits, hcontrol, habandoned, hduplicate, hbabble]
    exact id

theorem LinkKept.refl (s : State) : LinkKept s s := linkKept_of_view rfl

theorem LinkKept.trans {s t u : State} (h : LinkKept s t) (g : LinkKept t u) : LinkKept s u where
  pending := g.pending.trans h.pending
  fixed := by
    obtain ⟨hclock, hheld, haddress, hmaintenance, hblock, hblock', hsilenced⟩ := h.fixed
    obtain ⟨gclock, gheld, gaddress, gmaintenance, gblock, gblock', gsilenced⟩ := g.fixed
    exact ⟨gclock.trans hclock, gheld.trans hheld, gaddress.trans haddress, gmaintenance.trans hmaintenance,
      gblock.trans hblock, gblock'.trans hblock', gsilenced ∘ hsilenced⟩
  law := g.law ∘ h.law
  limits := g.limits ∘ h.limits

theorem RestKept.linkView {s t : State} (h : RestKept s t) : t.linkView = s.linkView := by
  have hapart : ∀ x : State, x.apartPicture.linkView = x.linkView := fun x => by
    simp [State.linkView, State.apartPicture]
  rw [← hapart t, ← hapart s, show t.apartPicture = s.apartPicture from h]

namespace LinkKept

variable {s t u : State} (h : LinkKept s t)

include h

theorem same (hview : u.linkView = t.linkView) : LinkKept s u := h.trans (linkKept_of_view hview)

theorem engine (g : OnlyEngine t u) : LinkKept s u := by
  have hview := congrArg State.linkView g.rest
  exact h.same hview

theorem tables (g : OnlyTables t u) : LinkKept s u := by
  have hview := congrArg State.linkView g.rest
  exact h.same hview

theorem picture (g : RestKept t u) : LinkKept s u := h.same g.linkView

theorem ste (f : TransferEngine → TransferEngine) : LinkKept s (t.modSte f) := h.same rfl

theorem channel (c : Nat) (k : Channel) : LinkKept s (t.setChannel c k) := h.same rfl

theorem setBuffer (b : Nat) (x : TileBuffer) : LinkKept s (t.setBuffer b x) := h.same rfl

theorem counted (f : TransferCounters → TransferCounters) : LinkKept s (t.countTransfers f) := h.same rfl

theorem store (f : PlanStore → PlanStore) : LinkKept s (t.modStore f) := h.same rfl

theorem marks (f : MarkCounts → MarkCounts) : LinkKept s (t.modMarks f) := h.same rfl

theorem peers (f : PeerTable → PeerTable) : LinkKept s (t.modPeers f) := h.same rfl

theorem port (p : Port) (f : CrewPort → CrewPort) : LinkKept s (t.modPort p f) := by
  cases p <;> exact h.same rfl

theorem notices (p : Port) (f : NoticeController → NoticeController) : LinkKept s (t.modNotices p f) := by
  cases p <;> exact h.same rfl

theorem notify (p : Port) (f : NoticeController → NoticeController) : LinkKept s (t.notify p f) :=
  h.tables (onlyTables_notify p f t)

/-- A queue that stays within its limit (R90). -/
theorem queue {q : List ControlEntry} (hq : t.rlc.control.length ≤ 8 → q.length ≤ 8) :
    LinkKept s { t with rlc := { t.rlc with control := q } } :=
  ⟨h.pending, h.fixed, h.law, fun hs => ⟨hq (h.limits hs).1, (h.limits hs).2⟩⟩

/-- An entry joins the queue only where there is room (R90). -/
theorem submit (kind : FrameKind) (dest : Nat) (payload : List Byte) (who : Submitter) :
    LinkKept s (t.modRlc (RiserLink.submit kind dest payload who)) := by
  rw [State.modRlc]
  by_cases hq : t.rlc.answer = .queued
  · have hroom : t.rlc.control.length < 8 := by
      by_contra hfull
      exact answer_refused (.inr (not_lt.mp hfull)) hq
    rw [submit_queued hq]
    refine h.queue fun _ => ?_
    rw [List.length_append, List.length_singleton]
    omega
  · rw [submit_refused hq]
    exact h

theorem submitSheet (kind : FrameKind) (dest : Nat) (payload : List Byte) (who : Submitter) :
    LinkKept s (submitSheet kind dest payload who t) := by
  unfold Machine.submitSheet
  split
  · exact h.submit ..
  · exact (h.counted _).submit ..

theorem submitMark (payload : List Byte) : LinkKept s (submitMark payload t) := by
  unfold Machine.submitMark
  split
  · exact h.submit ..
  · exact (h.marks _).submit ..

theorem withdrawRequest (c : Nat) : LinkKept s (withdrawRequest c t) := by
  refine h.queue fun hlimit => ?_
  cases hqueue : t.rlc.control with
  | nil => exact Nat.zero_le 8
  | cons e rest =>
    have hrest := List.length_filter_le (fun x : ControlEntry => !x.isRequestOf c) rest
    rw [hqueue, List.length_cons] at hlimit
    rw [List.length_append]
    split
    · split <;> simp only [List.length_singleton, List.length_nil] <;> omega
    · rw [List.length_singleton]
      omega

theorem orphan (c : Nat) : LinkKept s (t.modRlc (RiserLink.orphan c)) := by
  refine h.same ?_
  simp [State.linkView, State.modRlc, RiserLink.orphan]

/-! ### The transfer engine -/

theorem closeChannel (c : Nat) : LinkKept s (closeChannel c t) := by
  obtain ⟨buffers, hu, -⟩ := closeChannel_eq c t
  rw [hu]
  exact LinkKept.channel (LinkKept.orphan (t := (t.readsGone c).withBuffers buffers) (h.same rfl) c) ..

theorem endTransfer (c : Nat) (result : TransferResult) : LinkKept s (endTransfer c result t) :=
  ((((h.engine (onlyEngine_withdrawReads c t)).withdrawRequest c).engine (onlyEngine_discardTiles c _)).channel ..).counted _

theorem crewClaim (c : Nat) : LinkKept s (crewClaim c t) := h.engine (onlyEngine_crewClaim c t)

theorem enterLocal (c : Nat) : LinkKept s (enterLocal c t) := by
  unfold Machine.enterLocal
  dsimp only
  split
  · exact h
  · split
    · exact h.endTransfer ..
    · exact (h.channel ..).crewClaim c

theorem channelNoPath (c : Nat) : LinkKept s (channelNoPath c t) := by
  unfold Machine.channelNoPath localFallback
  split
  · exact (h.channel ..).enterLocal c
  · exact h.endTransfer ..

theorem submitRequest (c : Nat) : LinkKept s (submitRequest c t) := by
  unfold Machine.submitRequest
  dsimp only
  split
  · split
    · exact (h.submitSheet ..).channel ..
    · exact (h.submitSheet ..).channel ..
    · exact (h.submitSheet ..).channelNoPath c
  · exact h

theorem buildWindow (c : Nat) : LinkKept s (buildWindow c t) := by
  unfold Machine.buildWindow
  dsimp only
  split
  · exact (h.crewClaim c).channel ..
  · exact ((h.crewClaim c).channel ..).submitRequest c

theorem enterSource (c i : Nat) : LinkKept s (enterSource c i t) := by
  unfold Machine.enterSource
  dsimp only
  split
  · exact h
  · exact (h.channel ..).enterLocal c
  · exact (h.channel ..).buildWindow c

theorem transferEvent (c : Nat) (o : TransferOutcome) : LinkKept s (transferEvent c o t) := by
  unfold Machine.transferEvent
  split
  · exact h.notify ..
  · exact h
  · exact h

theorem restart (c : Nat) : LinkKept s (restart c t) := by
  have htold : LinkKept s (Machine.transferEvent c { (t.channel c).outcome .restart with revision := 0 }
      (((discardTiles c (fun _ => true) (Machine.withdrawRequest c (withdrawReads c t))).modChannel c fun x =>
        x.restarted (t.candidates (t.channel c).floor (t.channel c).kind)).countTransfers TransferCounters.restarted)) :=
    ((((h.engine (onlyEngine_withdrawReads c t)).withdrawRequest c).engine
      (onlyEngine_discardTiles c _)).channel ..).counted _ |>.transferEvent ..
  unfold Machine.restart
  dsimp only
  split
  · exact htold.endTransfer ..
  · split
    · exact htold.enterSource ..
    · exact htold.endTransfer ..

theorem exhausted (c : Nat) : LinkKept s (exhausted c t) := by
  unfold Machine.exhausted localFallback
  dsimp only
  split
  · exact (h.channel ..).enterLocal c
  · split
    · exact h.restart c
    · exact h.endTransfer ..

theorem chooseSource (c : Nat) : LinkKept s (chooseSource c t) := by
  unfold Machine.chooseSource
  dsimp only
  split
  · exact h.enterSource ..
  · exact (h.channel ..).exhausted c

theorem submitCancel (c : Nat) : LinkKept s (submitCancel c t) := by
  unfold Machine.submitCancel
  dsimp only
  split
  · exact h
  · exact h.submitSheet ..

theorem submitRefuse (dest tag : Nat) (reason : RefuseReason) : LinkKept s (submitRefuse dest tag reason t) :=
  (h.counted _).submitSheet ..

theorem moveNext (c : Nat) (cancel : Bool) : LinkKept s (moveNext c cancel t) := by
  have hleft : LinkKept s (if cancel && t.currentPresent (t.channel c) then Machine.submitCancel c t else t) :=
    kept_ite (h.submitCancel c) h
  exact ((hleft.withdrawRequest c).channel ..).chooseSource c

theorem gapEvent (c : Nat) : LinkKept s (gapEvent c t) :=
  kept_ite ((h.channel ..).buildWindow c) (h.moveNext c true)

theorem placeReads (c : Nat) : LinkKept s (placeReads c t) := by
  unfold Machine.placeReads
  split
  · exact h
  · refine List.foldlRecOn _ _ h fun v hv b _ => ?_
    unfold placeOne placeRead
    dsimp only
    split
    · exact ((hv.store _).setBuffer ..).channel ..
    · exact hv

theorem discardTiles (c : Nat) (test : Nat → Bool) : LinkKept s (discardTiles c test t) :=
  List.foldlRecOn _ (discardTile c test) h fun v hv b _ => by
    rw [discardTile_eq]
    exact kept_ite (hv.setBuffer ..) hv

theorem localBad (c n : Nat) : LinkKept s (localBad c n t) := by
  unfold Machine.localBad
  dsimp only
  split
  · exact (((h.engine (onlyEngine_withdrawReads c t)).discardTiles c _).channel ..).chooseSource c
  · exact h.channel ..

theorem bufferOver (b : Nat) : LinkKept s (bufferOver b t) := h.engine (onlyEngine_bufferOver t b)

theorem claimBuffers (c n : Nat) : LinkKept s (claimBuffers c n t) :=
  List.foldlRecOn _ (holdBuffer c) h fun _ hv _ _ => hv.setBuffer ..

/-! ### The end of an event -/

theorem pumpWindow (c : Nat) : LinkKept s (pumpWindow c t) :=
  kept_ite (h.buildWindow c) (kept_ite ((h.channel ..).buildWindow c) h)

theorem pumpLocal (c : Nat) : LinkKept s (pumpLocal c t) :=
  (kept_ite (h.crewClaim c) h : LinkKept s (if t.heldBy c = 0 then Machine.crewClaim c t else t)).placeReads c

theorem unlessOver (c : Nat) {f : State → State} (hf : LinkKept s (f t)) : LinkKept s (unlessOver c f t) :=
  kept_ite h (kept_ite (h.endTransfer c .done) hf)

theorem pumpChannel (c : Nat) : LinkKept s (pumpChannel t c) := by
  have hwindow := h.unlessOver c (h.pumpWindow c)
  have hremote := kept_ite (c := ((Machine.unlessOver c (Machine.pumpWindow c) t).channel c).state = .localStore)
    (hwindow.unlessOver c (hwindow.pumpLocal c)) hwindow
  unfold Machine.pumpChannel
  split
  · exact h
  · exact h.placeReads c
  · exact h.unlessOver c (h.pumpLocal c)
  · exact hremote
  · exact hremote

theorem readResult (r : TileRead) (data : Option (List Byte)) : LinkKept s (readResult r data t) := by
  unfold Machine.readResult
  dsimp only
  split
  · exact h.setBuffer ..
  · split
    · exact (h.setBuffer ..).localBad ..
    · exact ((h.setBuffer ..).submitRefuse ..).closeChannel _
    all_goals exact h.setBuffer ..

theorem serveStore (fuel : Nat) : LinkKept s (serveStore fuel t) := by
  induction fuel generalizing t with
  | zero => exact h
  | succ n ih =>
    unfold Machine.serveStore
    split
    · split
      · exact h
      · exact h.store _
      · split
        · exact h.store _
        · exact ih ((h.store _).readResult ..)
    · exact h

theorem settleTransfers : LinkKept s (settleTransfers t) :=
  LinkKept.serveStore (List.foldlRecOn _ Machine.pumpChannel h fun _ hv c _ => hv.pumpChannel c) _

theorem selectBoth (before : State) : LinkKept s (State.selectBoth before t) := h.same rfl

theorem beginMessage (p : Port) (source : MsgSource) (kind : Nat) (body : List Byte) :
    LinkKept s (beginMessage p source kind body t) := by
  unfold Machine.beginMessage
  exact h.port p _

theorem startPass (p : Port) : LinkKept s (startPass p t) := by
  unfold Machine.startPass
  exact h.port p _

theorem streamTurn (p : Port) : LinkKept s (streamTurn p t) := by
  have hsummary : ∀ f {v}, LinkKept s v → LinkKept s (beginSummary p f v) := fun f v hv => (hv.beginMessage p ..).port p _
  have hended : LinkKept s (endPass p t) := h.port p _
  unfold Machine.streamTurn
  dsimp only
  split
  · split
    · exact hsummary _ h
    · split
      · split
        · exact hsummary _ (hended.startPass p)
        · exact hended.startPass p
      · exact hended
  · exact h

theorem beginNotice (p : Port) (k : NoticeKey) : LinkKept s (beginNotice p k t) := by
  unfold Machine.beginNotice
  dsimp only
  split
  · exact h.notices p _
  · exact (h.notices p _).port p _

theorem beginChannelMessage (p : Port) (c : Nat) (o : ChannelOffer) : LinkKept s (beginChannelMessage p c o t) := by
  have hr : LinkKept s (t.modPort p fun q => { q with rotation := c }) := h.port p _
  cases o with
  | restart _ => exact hr.beginMessage ..
  | finished _ => exact hr.beginMessage ..
  | tile _ _ => exact ((hr.setBuffer ..).beginMessage ..).channel ..
  | missing => exact (hr.beginMessage ..).channel ..

theorem arbitrate (p : Port) : LinkKept s (arbitrate p t) := by
  unfold Machine.arbitrate chooseMessage
  split
  · split
    · exact h.port p _
    · split
      · exact h.beginNotice p _
      · split
        · exact h.beginChannelMessage p _ _
        · exact h.streamTurn p
  · exact h

/-- The end of an event. -/
theorem settle (before : State) : LinkKept s (settle before t) :=
  (((h.settleTransfers.selectBoth before).arbitrate .a).arbitrate .b).settleTransfers

end LinkKept

end Sys2Proof.Machine
end

section
/-! SUPPORT. What the commands of the zones, the frames, the crew ports and the plan store leave of the link. -/

namespace Sys2Proof.Machine

open Sys2Proof

/-- A crew request's answer comes with a state that keeps the link. -/
abbrev AnswerKept (s : State) (r : State × Result × List Byte) : Prop := LinkKept s r.1

namespace LinkKept

variable {s t u : State} (h : LinkKept s t)

include h

/-! ### Zones, picture and peers -/

theorem recomputeHolders : LinkKept s (recomputeHolders t) := h.tables (onlyTables_recomputeHolders t)

theorem samplingReady : LinkKept s (samplingReady t) := kept_ite (h.same rfl) h

theorem raisedIf (raised : Bool) : LinkKept s (t.raisedIf raised) := kept_ite (h.picture (restKept_markAlarm t)) h

theorem evaluateLine (i : Nat) : LinkKept s (evaluateLine i t) := by
  unfold Machine.evaluateLine
  extract_lets old new
  rw [writeOwn_eq]
  exact ((h.picture (restKept_setLine i new t)).raisedIf _).picture (restKept_pictureEvent ..)

theorem sampleLine (i v : Nat) : LinkKept s (sampleLine i v t) :=
  sampleLine_induction v h (h.picture (restKept_setLine ..)) fun _ hu _ => hu.evaluateLine i

theorem storeReady (x : StoreScan) : LinkKept s (storeReady x t) := by
  rw [storeReady_eq]
  have hconfigured : LinkKept s (t.configured x) := h.same rfl
  exact (hconfigured.picture (restKept_pictureEvent ..)).samplingReady

theorem startupReadEnds (slot : Option Nat) (x : StoreScan) (bytes : Option (List Byte)) :
    LinkKept s (startupReadEnds slot x bytes t) := by
  unfold Machine.startupReadEnds
  dsimp only
  split
  · exact h.store _
  · exact h.storeReady _

theorem sampleMark (values : Vector (BitVec 10) 16) : LinkKept s (sampleMark values t) :=
  List.foldlRecOn _ (sampleEvent values) h fun v hv i _ => kept_ite ((hv.sampleLine i _).samplingReady.settle v) hv

theorem sampleWhen (i v : Nat) (test : LineRecord → LineClass → Bool) : LinkKept s (sampleWhen i v test t) := by
  unfold Machine.sampleWhen
  split
  · exact h
  · exact kept_ite (h.sampleLine i v).samplingReady h

theorem headerReadDone : LinkKept s (headerReadDone t) := by
  unfold Machine.headerReadDone
  split
  · exact h.startupReadEnds ..
  · exact h

theorem slotReadDone : LinkKept s (slotReadDone t) := by
  unfold Machine.slotReadDone
  split
  · exact h.startupReadEnds ..
  · exact h

theorem startupReadTimeout : LinkKept s (startupReadTimeout t) := by
  unfold Machine.startupReadTimeout
  split
  · exact kept_ite (h.startupReadEnds ..) h
  · exact h

theorem frameHeard (x : Nat) (content : FrameContent) : LinkKept s (frameHeard x content t) :=
  (h.tables (onlyTables_formedClaims x content t)).picture (restKept_frameHeard x content t)

theorem peerLost (x : Nat) : LinkKept s (peerLost x t) :=
  (h.tables (onlyTables_lossTold x t)).picture (restKept_peerLost x t)

theorem setAttendance (f : Nat) (list : List Attendance) : LinkKept s (setAttendance f list t) :=
  h.picture (restKept_setAttendance f list t)

theorem placeAck (o l : Nat) (a : Ack) : LinkKept s (placeAck o l a t) := h.picture (restKept_placeAck o l a t)

/-! ### Frames -/

theorem reports (f : TowerPicture → TowerPicture) : LinkKept s (t.modPicture f) := h.same rfl

theorem takeZoneState (x : Nat) (payload : List Byte) : LinkKept s (takeZoneState x payload t) :=
  kept_ite (h.frameHeard ..) ((h.frameHeard ..).reports _)

theorem takeDirectory (x : Nat) (payload : List Byte) : LinkKept s (takeDirectory x payload t) :=
  kept_ite (h.frameHeard ..) ((h.frameHeard ..).peers _)

theorem takeMark (x : Nat) (p : List Byte) : LinkKept s (takeMark x p t) := by
  have hcounted : ∀ f, LinkKept s (countedMark x f t) := fun f => (h.frameHeard x .other).marks f
  unfold Machine.takeMark
  split
  · exact hcounted _
  · split
    · unfold takeMarkAck
      exact kept_ite (h.frameHeard ..) (hcounted _)
    · split
      · exact h.frameHeard ..
      · unfold takeMarkOff
        exact kept_ite (h.frameHeard ..) (h.frameHeard ..)

theorem takeSheetRequest (x : Nat) (p : List Byte) : LinkKept s (takeSheetRequest x p t) := by
  unfold Machine.takeSheetRequest
  split
  · exact h.counted _
  · split
    · exact h.submitRefuse ..
    · unfold newService
      split
      · exact h.submitRefuse ..
      · split
        · exact h.submitRefuse ..
        · exact LinkKept.claimBuffers (h.channel ..) ..
    · exact (h.closeChannel _).submitRefuse ..
    · rename_i c r _ _
      have hcut := ((h.engine (onlyEngine_withdrawReads c t)).discardTiles c (fun _ => true)).orphan c
      unfold replaceService
      dsimp only
      split
      · exact (hcut.channel ..).claimBuffers ..
      · unfold keepOneBuffer
        split
        · split
          · exact hcut.channel ..
          · exact (hcut.channel ..).setBuffer ..
        · exact hcut.channel ..

theorem takeSheetCancel (x : Nat) (p : List Byte) : LinkKept s (takeSheetCancel x p t) := by
  unfold Machine.takeSheetCancel
  split
  · exact h.closeChannel _
  · exact h.counted _

theorem takeSheetTile (x : Nat) (p : List Byte) : LinkKept s (takeSheetTile x p t) := by
  have hstray : LinkKept s (strayTile t) := h.counted _
  unfold Machine.takeSheetTile
  split
  · exact hstray
  · split
    · exact hstray
    · split
      · unfold acceptTile
        split
        · exact h
        · exact (h.setBuffer ..).channel ..
      · exact kept_ite (hstray.gapEvent _) hstray

theorem takeSheetRefuse (x : Nat) (p : List Byte) : LinkKept s (takeSheetRefuse x p t) := by
  have hstray : LinkKept s (t.countTransfers fun n => { n with strayRefuses := countUp n.strayRefuses }) := h.counted _
  unfold Machine.takeSheetRefuse
  dsimp only
  split
  · split
    · unfold channelRefused
      dsimp only
      split
      · exact kept_ite (h.channel ..) (h.moveNext ..)
      · exact (h.channel ..).moveNext ..
    · exact hstray
  · exact hstray

theorem holderLoss (x : Nat) : LinkKept s (holderLoss x t) :=
  List.foldlRecOn _ (loseRequester x)
    (List.foldlRecOn _ (loseHolder x) h fun _ hv c _ => kept_ite (hv.moveNext c false) hv)
    fun _ hv c _ => kept_ite (hv.closeChannel c) hv

theorem silenceExpiry (x : Nat) : LinkKept s (silenceExpiry x t) := kept_ite ((h.peerLost x).holderLoss x) h

/-! ### Crew requests -/

theorem acceptAttendOff (p : Port) (label : Text) (f : Nat) : LinkKept s (acceptAttendOff p label f t) :=
  LinkKept.submitMark (kept_ite (h.setAttendance ..) h) _

theorem withdrawAttendance (p : Port) : LinkKept s (withdrawAttendance p t) := by
  unfold Machine.withdrawAttendance
  split
  · exact h
  · exact List.foldlRecOn _ _ h fun _ hv f _ => kept_ite (hv.acceptAttendOff p _ f) hv

theorem cancelChannel (p : Port) (c : Nat) : LinkKept s (cancelChannel p c t) := by
  have hasked : LinkKept s (if (t.channel c).isRemote then Machine.submitCancel c t else t) :=
    kept_ite (h.submitCancel c) h
  exact ((hasked.withdrawRequest c).closeChannel c).port p _

theorem leavePort (p : Port) : LinkKept s (leavePort p t) :=
  LinkKept.notices (List.foldlRecOn _ (cancelOwned p) (h.withdrawAttendance p)
    fun _ hv c _ => kept_ite (hv.cancelChannel p c) hv) p _

theorem portReset (p : Port) : LinkKept s (portReset p t) :=
  kept_ite (((h.leavePort p).port p _).store _) ((h.leavePort p).port p _)

theorem respondParts (p : Port) (kind : Nat) (result : Result) (parts : List (List Byte)) :
    LinkKept s (respondParts p kind result parts t) := h.port p _

theorem respond (p : Port) (kind : Nat) (result : Result) (fields : List Byte) :
    LinkKept s (respond p kind result fields t) := h.respondParts ..

theorem takeSheet (p : Port) (floor kind first last revision : Nat) :
    LinkKept s (takeSheet p floor kind first last revision t).1 := by
  have htag : LinkKept s (t.modSte fun e => { e with tagCounter := t.nextTag }) := h.ste _
  unfold Machine.takeSheet
  dsimp only
  refine kept_ite (Q := AnswerKept s) h (kept_ite (Q := AnswerKept s) h ?_)
  split
  · exact h
  · refine kept_ite (Q := AnswerKept s) h (kept_ite (Q := AnswerKept s) h (kept_ite (Q := AnswerKept s) h ?_))
    split
    · exact htag
    · exact kept_ite (Q := AnswerKept s) htag ((htag.channel ..).enterSource ..)

theorem takeCancel (p : Port) (c : Nat) : LinkKept s (takeCancel p c t).1 := by
  unfold Machine.takeCancel
  split
  · exact h.cancelChannel p c
  · exact h

theorem takeAck (p : Port) (station line change : Nat) : LinkKept s (takeAck p station line change t).1 := by
  have hack : ∀ label, LinkKept s (acceptAck p label station line change t) := fun label => (h.placeAck ..).submitMark _
  unfold Machine.takeAck
  dsimp only
  split
  · exact h
  · refine kept_ite (Q := AnswerKept s) h (kept_ite (Q := AnswerKept s) h
      (kept_ite (Q := AnswerKept s) h (kept_ite (Q := AnswerKept s) h ?_)))
    split
    · exact h
    · exact hack _

theorem takeAttendOn (p : Port) (f : Nat) : LinkKept s (takeAttendOn p f t).1 := by
  unfold Machine.takeAttendOn
  dsimp only
  split
  · exact h
  · split
    · exact h
    · exact (h.setAttendance ..).submitMark _

theorem takeAttendOff (p : Port) (f : Nat) : LinkKept s (takeAttendOff p f t).1 := by
  unfold Machine.takeAttendOff
  dsimp only
  split
  · exact h
  · split
    · exact h
    · exact h.acceptAttendOff p _ f

theorem acceptOperation (kind : Nat) (op : MaintOp) (p : Port) : LinkKept s (acceptOperation kind op p t) := by
  unfold Machine.acceptOperation
  split
  · exact h.respond p ..
  · exact h.store _

theorem serveAttach (p : Port) (body : List Byte) : LinkKept s (serveAttach p body t) := by
  have hattached : ∀ label, LinkKept s (attachPort p label t) := fun label =>
    kept_ite (h.port p _) ((h.port p _).notices p _)
  unfold Machine.serveAttach
  split
  · exact (hattached _).respond p ..
  · exact h.respond p ..

theorem serveFinish (p : Port) (level : Nat) : LinkKept s (serveFinish p level t) := by
  unfold Machine.serveFinish
  split
  · exact h.respond p ..
  · unfold finishRecord
    exact ((h.notices p _).respond p ..).notices p _

theorem serveStreamOn (p : Port) (period : Nat) : LinkKept s (serveStreamOn p period t) :=
  LinkKept.respond (kept_ite (h.port p _) ((h.port p _).startPass p)) p ..

theorem serveStatus (p : Port) (clear : Nat) : LinkKept s (serveStatus p clear t) :=
  kept_ite (((h.respondParts p ..).port p _).notices p _) (h.respondParts p ..)

/-- A request handed to the block that serves it (R151). -/
theorem serveKind (p : Port) (body : List Byte) (k : RequestKind) : LinkKept s (serveKind p body t k) := by
  cases k with
  | attach => exact h.serveAttach p body
  | detach => exact ((h.leavePort p).port p _).respond p ..
  | picture => exact kept_ite (h.respond p ..) (h.respondParts p ..)
  | floor =>
    simp only [Machine.serveKind, serveFloor]
    exact (h.respondParts p ..).notices p _
  | watch => exact (h.notices p _).respond p ..
  | sheet => exact (h.takeSheet p ..).respond p ..
  | cancel => exact (h.takeCancel p _).respond p ..
  | ack => exact (h.takeAck p ..).respond p ..
  | attend =>
    refine LinkKept.respond ?_ p ..
    exact kept_ite (Q := AnswerKept s) (h.takeAttendOn p _) (h.takeAttendOff p _)
  | peek =>
    simp only [Machine.serveKind, servePeek]
    split <;> exact h.respond p ..
  | finish => exact h.serveFinish p _
  | mask => exact (h.notices p _).respond p ..
  | stream => exact kept_ite (h.serveStreamOn p _) ((h.port p _).respond p ..)
  | status => exact h.serveStatus p _
  | storeWrite => exact kept_ite (h.respond p ..) (h.acceptOperation _ _ p)
  | storeErase => exact kept_ite (h.respond p ..) (h.acceptOperation _ _ p)
  | storeCheck => exact h.acceptOperation _ _ p

theorem dispatch (p : Port) (r : Request) : LinkKept s (dispatch p r t) := by
  unfold Machine.dispatch
  split
  · exact h.respond p ..
  · exact kept_ite (h.respond p ..) (kept_ite (h.respond p ..) (h.serveKind p _ _))

theorem takeRequests (p : Port) (n : Nat) : LinkKept s (takeRequests p n t) := by
  induction n generalizing t with
  | zero => exact h
  | succ n ih =>
    unfold Machine.takeRequests
    split
    · exact ih ((h.port p _).dispatch p _)
    · exact h

theorem crewRequest (p : Port) (kind : Byte) (body : List Byte) : LinkKept s (crewRequest p kind body t) := by
  have hquiet : LinkKept s (t.modPort p fun q => { q with receiving := false }) := h.port p _
  exact kept_ite (kept_ite (hquiet.port p _) ((hquiet.port p _).takeRequests p _)) h

theorem messageReceived (p : Port) (kind : Byte) (body : List Byte) (check : Half) :
    LinkKept s (messageReceived p kind body check t) :=
  kept_ite (kept_ite (h.port p _) (h.crewRequest p _ _)) h

theorem framingFailure (p : Port) : LinkKept s (framingFailure p t) := kept_ite (h.port p _) h

theorem lengthFault (p : Port) (n : Nat) : LinkKept s (lengthFault p n t) :=
  kept_ite (h.framingFailure p) (kept_ite (h.port p _) h)

theorem sourceSent (p : Port) (m : OutMessage) : LinkKept s (sourceSent p m t) := by
  unfold Machine.sourceSent
  split
  · exact h.port p _
  · exact h.port p _
  · exact h
  · exact h
  · exact kept_ite (h.channel ..) h
  · split
    · unfold sheetEndSent
      split
      · exact h
      · exact (h.transferEvent ..).closeChannel _
    · exact h
  · exact h

theorem endMessage (p : Port) : LinkKept s (endMessage p t) := by
  unfold Machine.endMessage
  split
  · exact h
  · exact ((h.port p _).sourceSent p _).takeRequests p _

/-! ### The plan store -/

theorem flash (f : PlanStore → PlanStore) (n : Nat) : LinkKept s { t.modStore f with draws := n } := h.same rfl

theorem storeResult (discard : Bool) (kind : Nat) (result : Result) (fields : List Byte) :
    LinkKept s (storeResult discard kind result fields t) := kept_ite h (h.port .a _)

theorem beginAccess : LinkKept s (beginAccess t) := by
  unfold Machine.beginAccess
  split
  · split
    · exact kept_ite (h.store _) h
    · exact h.store _
  · exact h

theorem tileReadEnds (r : TileRead) (withdrawn : Bool) (data : Option (List Byte)) :
    LinkKept s (tileReadEnds r withdrawn data t) := by
  have hbegun := (h.store fun p => { p with access := .free }).beginAccess
  exact kept_ite (hbegun.bufferOver _) (hbegun.readResult ..)

theorem tileTooLate (r : TileRead) (withdrawn : Bool) : LinkKept s (tileTooLate r withdrawn t) :=
  (h.store _).tileReadEnds ..

theorem tileDelivered (r : TileRead) (withdrawn : Bool) : LinkKept s (tileDelivered r withdrawn t) :=
  (h.store _).tileReadEnds ..

theorem tileReadTimeout : LinkKept s (tileReadTimeout t) := by
  unfold Machine.tileReadTimeout
  split
  · exact kept_ite (h.tileTooLate ..) h
  · exact h

theorem writeFaulted (offset : Nat) (data : List Byte) (discard : Bool) : LinkKept s (writeFaulted offset data discard t) :=
  (h.flash _ _).storeResult ..

theorem eraseFaulted (block : Nat) (discard : Bool) : LinkKept s (eraseFaulted block discard t) :=
  (h.flash _ _).storeResult ..

theorem storeWriteDone : LinkKept s (storeWriteDone t) := by
  unfold Machine.storeWriteDone
  split
  · split
    · unfold writeCompleted
      dsimp only
      split <;> exact (h.store _).storeResult ..
    · exact h.writeFaulted ..
  · exact h

theorem storeWriteTimeout : LinkKept s (storeWriteTimeout t) := by
  unfold Machine.storeWriteTimeout
  split
  · exact kept_ite (h.writeFaulted ..) h
  · exact h

theorem storeEraseDone : LinkKept s (storeEraseDone t) := by
  unfold Machine.storeEraseDone
  split
  · exact kept_ite ((h.store _).storeResult ..) (h.eraseFaulted ..)
  · exact h

theorem storeEraseTimeout : LinkKept s (storeEraseTimeout t) := by
  unfold Machine.storeEraseTimeout
  split
  · exact kept_ite (h.eraseFaulted ..) h
  · exact h

theorem checkReadEnds (slot : Option Nat) (x : StoreScan) (discard : Bool) (bytes : Option (List Byte)) :
    LinkKept s (checkReadEnds slot x discard bytes t) := by
  unfold Machine.checkReadEnds
  dsimp only
  split
  · exact h.store _
  · exact (h.store _).storeResult ..

theorem storeCheckReadDone : LinkKept s (storeCheckReadDone t) := by
  unfold Machine.storeCheckReadDone
  split
  · exact h.checkReadEnds ..
  · exact h

theorem storeCheckReadTimeout : LinkKept s (storeCheckReadTimeout t) := by
  unfold Machine.storeCheckReadTimeout
  split
  · exact kept_ite (h.checkReadEnds ..) h
  · exact h

end LinkKept

end Sys2Proof.Machine
end

section
/-! SUPPORT. What the events of the riser link leave of its laws and limits: nothing is driven but where no transmit block is
present, and a block appears only with the driver off (R97, R101). -/

namespace Sys2Proof.Machine

open Sys2Proof

/-- The four last origins are addresses (R78). -/
abbrev LastOrigins.Valid (o : LastOrigins) : Prop :=
  validAddress o.alarm = true ∧ validAddress o.control = true ∧ validAddress o.bulk = true ∧ validAddress o.routine = true

theorem LastOrigins.Valid.set {o : LastOrigins} (h : o.Valid) {a : Nat} (ha : validAddress a = true) (k : AccessClass) :
    (o.set k a).Valid := by
  obtain ⟨halarm, hcontrol, hbulk, hroutine⟩ := h
  cases k with
  | alarm => exact ⟨ha, hcontrol, hbulk, hroutine⟩
  | control => exact ⟨halarm, ha, hbulk, hroutine⟩
  | bulk => exact ⟨halarm, hcontrol, ha, hroutine⟩
  | routine => exact ⟨halarm, hcontrol, hbulk, ha⟩

theorem validOrigins_of_linkLaw {s : State} (hs : LinkLaw s) : s.rlc.lastOrigins.Valid := by
  obtain ⟨-, -, -, -, horigins⟩ := hs
  exact horigins

/-- A driving station has a valid address (R97, R180). -/
theorem validAddress_of_driving {s : State} (hs : LinkLaw s) (htx : s.rlc.tx.isSome = true) :
    validAddress s.address = true := by
  obtain ⟨hquiet, -, haddress, -⟩ := hs
  have hnone := hquiet htx
  cases hv : validAddress s.address with
  | true => rfl
  | false =>
    rw [hv] at haddress
    simp [Blocks.any, haddress] at hnone

/-- The blocks that appear at an event: all but JOIN, ADDRESS and MAINTENANCE, which a reset places (R98 to R100, R180). -/
abbrev Block.Fault (b : Block) : Prop := b = .duplicate ∨ b = .babble ∨ b = .line ∨ b = .silenced

/-- The blocks that clear by a timer (R98, R99, R183). -/
abbrev Block.Timed (b : Block) : Prop := b = .join ∨ b = .duplicate ∨ b = .babble ∨ b = .line

theorem Block.Timed.any_put {b : Block} (hb : b.Timed) {x : Blocks} (hx : x.any = false) : (x.put b false).any = false := by
  simp only [Blocks.any, Bool.or_eq_false_iff] at hx
  obtain ⟨⟨⟨⟨⟨⟨hjoin, haddress⟩, hmaintenance⟩, hduplicate⟩, hbabble⟩, hline⟩, hsilenced⟩ := hx
  rcases hb with rfl | rfl | rfl | rfl <;>
    simp [Blocks.any, Blocks.put, hjoin, haddress, hmaintenance, hduplicate, hbabble, hline, hsilenced]

/-! ### The end of a buffer's use and the link do not meet -/

theorem bufferOver_modRlc (b : Nat) (f : RiserLink → RiserLink) (s : State) :
    bufferOver b (s.modRlc f) = (bufferOver b s).modRlc f := by
  unfold bufferOver
  rw [show (s.modRlc f).buffer b = s.buffer b from rfl]
  cases (s.buffer b).holder with
  | none => rfl
  | some c =>
    dsimp only
    rw [apply_ite (State.modRlc f)]
    rfl

theorem bufferOver_rlc (b : Nat) (s : State) : (bufferOver b s).rlc = s.rlc := (onlyEngine_bufferOver s b).rlc

/-- What an abandoned attempt does to its holding is the same whatever the count of attempts is (R82). -/
theorem holdingAbandoned_count (t : Transmission) (n : Nat) (s : State) :
    (holdingAbandoned t s).modRlc (fun r => { r with abandoned := n }) =
      holdingAbandoned t (s.modRlc fun r => { r with abandoned := n }) := by
  unfold holdingAbandoned
  cases t.source with
  | tile c b =>
    dsimp only
    split
    · rfl
    · exact (bufferOver_modRlc b _ s).symm
  | _ => rfl

theorem holdingAbandoned_abandoned (t : Transmission) (s : State) :
    (holdingAbandoned t s).rlc.abandoned = s.rlc.abandoned := by
  unfold holdingAbandoned
  cases t.source with
  | tile c b =>
    dsimp only
    split
    · rfl
    · rw [bufferOver_rlc]
  | _ => rfl

namespace LinkKept

variable {s t u : State} (h : LinkKept s t)

include h

/-! ### The link's own record -/

/-- What a change of the link's record, blocks and all, must keep. -/
theorem relink {r : RiserLink}
    (hblocks : r.blocks.address = t.rlc.blocks.address ∧ r.blocks.maintenance = t.rlc.blocks.maintenance ∧
      (t.rlc.blocks.silenced = true → r.blocks.silenced = true))
    (hquiet : LinkLaw t → r.tx.isSome = true → r.blocks.any = false)
    (horigins : LinkLaw t → r.lastOrigins.Valid)
    (hlimits : LinkLimits t → LinkLimits { t with rlc := r }) : LinkKept s { t with rlc := r } := by
  obtain ⟨haddress, hmaintenance, hsilenced⟩ := hblocks
  refine h.trans ⟨rfl, ⟨rfl, rfl, rfl, rfl, haddress, hmaintenance, hsilenced⟩, fun hs => ?_, hlimits⟩
  obtain ⟨-, hstrap, haddress', hmaintenance', -⟩ := id hs
  exact ⟨hquiet hs, hstrap, haddress.trans haddress', hmaintenance.trans hmaintenance', horigins hs⟩

/-- A change that leaves the blocks, the last origins, the counts and the CONTROL queue, and drives only where the station
drove or no block is present. -/
theorem link {r : RiserLink} (hblocks : r.blocks = t.rlc.blocks) (horigins : r.lastOrigins = t.rlc.lastOrigins)
    (hdrives : r.tx.isSome = true → t.rlc.tx.isSome = true ∨ t.rlc.blocks.any = false)
    (hlimits : LinkLimits t → LinkLimits { t with rlc := r }) : LinkKept s { t with rlc := r } := by
  refine h.relink ⟨by rw [hblocks], by rw [hblocks], by rw [hblocks]; exact id⟩ (fun hs htx => ?_) (fun hs => ?_) hlimits
  · rw [hblocks]
    exact (hdrives htx).elim hs.1 id
  · rw [horigins]
    exact validOrigins_of_linkLaw hs

/-- The receiver's phase, the marks, timers and counters: all that no law of the link looks at. -/
theorem outside {f : RiserLink → RiserLink} (hf : ({ t with rlc := f t.rlc } : State).linkView = t.linkView) :
    LinkKept s (t.modRlc f) := h.same hf

/-- A change of the same kind that leaves nothing driven. -/
theorem driverOff {r : RiserLink} (hview : ({ t with rlc := { r with tx := t.rlc.tx } } : State).linkView = t.linkView)
    (htx : r.tx = none) : LinkKept s { t with rlc := r } := by
  have hsame := h.same hview
  refine hsame.trans (LinkKept.link (t := { t with rlc := { r with tx := t.rlc.tx } }) (LinkKept.refl _) rfl rfl ?_ id)
  intro hsome
  rw [htx] at hsome
  exact nomatch hsome

/-! ### A transmission begins (R77, R84, R85, R89) -/

theorem beginTransmission (hb : t.rlc.blocks.any = false) (source : TxSource) (frame : Option Frame) (more : Bool) :
    LinkKept s (beginTransmission source frame more t) := h.link rfl rfl (fun _ => .inr hb) id

theorem beginTile (hb : t.rlc.blocks.any = false) (c : Nat) : LinkKept s (beginTile c t) := by
  unfold Machine.beginTile
  split
  · exact h
  · exact h.beginTransmission hb ..

theorem beginClass (hb : t.rlc.blocks.any = false) (k : AccessClass) : LinkKept s (beginClass k t) := by
  unfold Machine.beginClass
  split
  · exact h.beginTransmission hb ..
  · unfold beginControl
    split
    · exact h
    · exact h.beginTransmission hb ..
  · split
    · exact h
    · exact h.beginTile hb _
  · exact kept_ite (h.beginTransmission hb ..) (h.beginTransmission hb ..)

theorem startMoment (offset : Nat) : LinkKept s (startMoment offset t) := by
  have hstarts : ∀ k, t.startsAt offset = some k → t.rlc.blocks.any = false := fun k hk => by
    unfold State.startsAt at hk
    split at hk
    · exact nomatch hk
    · split at hk
      · rename_i hclear
        simp only [Bool.and_eq_true, Bool.not_eq_true'] at hclear
        exact hclear.1
      · exact nomatch hk
  unfold Machine.startMoment
  split
  · split
    · split
      · rename_i k hk
        exact h.beginClass (hstarts k hk) k
      · exact h.outside rfl
    · exact h
  · exact h

theorem burstContinues : LinkKept s (burstContinues t) := by
  unfold Machine.burstContinues
  split
  · dsimp only
    have hended : LinkKept s (t.modRlc fun r => { r with burst := none }) := h.outside rfl
    split
    · rename_i hclear
      simp only [Bool.and_eq_true, Bool.not_eq_true'] at hclear
      exact hended.beginTile hclear.1 _
    · exact hended
  · exact h

theorem yieldMarkDriven : LinkKept s (yieldMarkDriven t) := by
  unfold Machine.yieldMarkDriven
  split
  · rename_i hclear
    simp only [Bool.and_eq_true, Bool.not_eq_true'] at hclear
    exact (h.beginTransmission hclear.2 .yieldMark none false).outside rfl
  · exact h

/-! ### The line (R76, R81, R84, R93) -/

theorem idleDetected : LinkKept s (idleDetected t) := kept_ite (h.driverOff rfl rfl) h

theorem idleRoundBegins : LinkKept s (idleRoundBegins t) := by
  unfold Machine.idleRoundBegins
  split
  · exact h.outside rfl
  all_goals exact h

theorem lineActive : LinkKept s (lineActive t) := by
  unfold Machine.lineActive
  split
  · exact h.outside rfl
  all_goals exact h

theorem dominantSensed : LinkKept s (dominantSensed t) := by
  unfold Machine.dominantSensed
  split
  · exact h
  · exact h.outside rfl

theorem receiveFailure (bytes : List LineByte) : LinkKept s (receiveFailure bytes t) := by
  unfold Machine.receiveFailure
  split
  · exact h
  · exact kept_ite (h.driverOff rfl rfl) h

/-! ### Blocks appear (R97 to R101) -/

/-- A block appears, and the transmission in progress is cut. -/
theorem blockCuts {b : Block} (hb : b.Fault) : LinkKept s (cutTransmission (t.putBlock b true)) := by
  have hfixed : (t.rlc.blocks.put b true).address = t.rlc.blocks.address ∧
      (t.rlc.blocks.put b true).maintenance = t.rlc.blocks.maintenance ∧
      (t.rlc.blocks.silenced = true → (t.rlc.blocks.put b true).silenced = true) := by
    rcases hb with rfl | rfl | rfl | rfl
    · exact ⟨rfl, rfl, id⟩
    · exact ⟨rfl, rfl, id⟩
    · exact ⟨rfl, rfl, id⟩
    · exact ⟨rfl, rfl, fun _ => rfl⟩
  have hcut : ∀ phase, LinkKept s { t with rlc :=
      { t.rlc.driverOff with blocks := t.rlc.blocks.put b true, phase := phase } } := fun phase =>
    h.relink hfixed (fun _ htx => nomatch htx) validOrigins_of_linkLaw id
  unfold cutTransmission
  split
  · exact hcut t.rlc.phase
  · dsimp only
    split
    · exact kept_ite (hcut _) ((hcut _).bufferOver _)
    · exact hcut _

theorem tellNoPath (e : ControlEntry) : LinkKept s (tellNoPath t e) := by
  unfold Machine.tellNoPath
  split
  · exact h.marks _
  · exact kept_ite ((h.counted _).channelNoPath _) (h.counted _)
  · exact h.counted _
  · exact h.counted _

theorem discardControl : LinkKept s (discardControl t) :=
  List.foldlRecOn _ Machine.tellNoPath (h.queue fun _ => Nat.zero_le 8) fun _ hv e _ => hv.tellNoPath e

theorem abandonServices : LinkKept s (abandonServices t) :=
  List.foldlRecOn _ abandonService h fun _ hv c _ => kept_ite (hv.closeChannel c) hv

theorem onset {b : Block} (hb : b.Fault) : LinkKept s (onset b t) :=
  (h.blockCuts hb).discardControl.abandonServices.tables (onlyTables_notifyBoth ..)

theorem silenceAt (n : Nat) : LinkKept s (silenceAt n t) := kept_ite (h.onset (.inr (.inr (.inr rfl)))) h

theorem duplicateOnset : LinkKept s (duplicateOnset t) := by
  refine LinkKept.silenceAt (LinkKept.onset ?_ (.inl rfl)) _
  refine h.link rfl rfl .inl fun hs => ?_
  obtain ⟨hqueue, -, hbabble, habandoned⟩ := hs
  exact ⟨hqueue, Nat.min_le_left 3 _, hbabble, habandoned⟩

theorem babbleOnset : LinkKept s (babbleOnset t) := by
  refine LinkKept.silenceAt (LinkKept.onset ?_ (.inr (.inl rfl))) _
  refine h.link rfl rfl .inl fun hs => ?_
  obtain ⟨hqueue, hduplicate, -, habandoned⟩ := hs
  exact ⟨hqueue, hduplicate, Nat.min_le_left 3 _, habandoned⟩

theorem lineOnset : LinkKept s (lineOnset t) := LinkKept.onset (h.outside rfl) (.inr (.inr (.inl rfl)))

theorem countLink (f : LinkCounters → LinkCounters) : LinkKept s (t.countLink f) := h.outside rfl

theorem duplicateEvent : LinkKept s (duplicateEvent t) :=
  kept_ite ((h.countLink _).outside rfl) (h.countLink _).duplicateOnset

theorem guardCut : LinkKept s (guardCut t) := by
  unfold Machine.guardCut
  split
  · exact h
  · exact kept_ite (h.countLink _).babbleOnset h

/-! ### Blocks clear, counts fall (R98, R99, R183) -/

theorem blockClears {b : Block} (hb : b.Timed) : LinkKept s (t.putBlock b false) := by
  refine h.relink ?_ (fun hs htx => hb.any_put (hs.1 htx)) validOrigins_of_linkLaw id
  rcases hb with rfl | rfl | rfl | rfl <;> exact ⟨rfl, rfl, id⟩

theorem joinListenEnd : LinkKept s (joinListenEnd t) := kept_ite ((h.blockClears (.inl rfl)).outside rfl) h

theorem refreshExpiry : LinkKept s (refreshExpiry t) := kept_ite (h.outside rfl) h

theorem directoryExpiry : LinkKept s (directoryExpiry t) := kept_ite (h.outside rfl) h

theorem duplicateHoldExpiry : LinkKept s (duplicateHoldExpiry t) :=
  kept_ite ((h.blockClears (.inr (.inl rfl))).outside rfl) h

theorem babbleClear : LinkKept s (babbleClear t) := kept_ite ((h.blockClears (.inr (.inr (.inl rfl)))).outside rfl) h

theorem lineClear : LinkKept s (lineClear t) := kept_ite ((h.blockClears (.inr (.inr (.inr rfl)))).outside rfl) h

theorem duplicateDecay : LinkKept s (duplicateDecay t) := by
  refine kept_ite (h.link rfl rfl .inl fun hs => ?_) h
  obtain ⟨hqueue, hduplicate, hbabble, habandoned⟩ := hs
  exact ⟨hqueue, (Nat.sub_le ..).trans hduplicate, hbabble, habandoned⟩

theorem babbleDecay : LinkKept s (babbleDecay t) := by
  refine kept_ite (h.link rfl rfl .inl fun hs => ?_) h
  obtain ⟨hqueue, hduplicate, hbabble, habandoned⟩ := hs
  exact ⟨hqueue, hduplicate, (Nat.sub_le ..).trans hbabble, habandoned⟩

/-! ### The end of a transmission (R77, R78, R82, R83, R90) -/

theorem controlSent : LinkKept s (controlSent t) := by
  unfold Machine.controlSent
  split
  · exact h
  · rename_i e rest hqueue
    have hleft : LinkKept s (t.modRlc fun r => { r with control := rest }) := h.queue fun hlimit => by
      rw [hqueue, List.length_cons] at hlimit
      omega
    dsimp only
    split
    · exact kept_ite hleft (hleft.channel ..)
    all_goals exact hleft

theorem serviceAdvance (c b : Nat) : LinkKept s (serviceAdvance c b t) :=
  kept_ite ((((h.setBuffer ..).channel ..).counted _).closeChannel c) ((h.setBuffer ..).channel ..)

theorem holdingSent (x : Transmission) : LinkKept s (holdingSent x t) := by
  unfold Machine.holdingSent
  split
  · exact h.outside rfl
  · exact h.outside rfl
  · exact h.controlSent
  · unfold tileSent
    exact kept_ite (LinkKept.serviceAdvance (h.outside rfl) ..) (LinkKept.bufferOver (h.outside rfl) _)
  · exact h

/-- A frame sent gives its class the station's own address, which is valid since it drove (R78). -/
theorem frameSent (htx : t.rlc.tx.isSome = true) (f : Frame) : LinkKept s (t.modRlc (RiserLink.frameSent t.address f)) := by
  refine h.relink ⟨rfl, rfl, id⟩ (fun _ hdriving => nomatch hdriving) (fun hs => ?_) fun hs => ?_
  · exact (validOrigins_of_linkLaw hs).set (validAddress_of_driving hs htx) _
  · obtain ⟨hqueue, hduplicate, hbabble, -⟩ := hs
    exact ⟨hqueue, hduplicate, hbabble, Nat.zero_le 7⟩

theorem completeTransmission : LinkKept s (completeTransmission t) := by
  unfold Machine.completeTransmission
  split
  · exact h
  · rename_i x htx
    split
    · exact h.driverOff rfl rfl
    · exact (h.frameSent (by rw [htx]; rfl) _).holdingSent x

theorem holdingAbandoned (x : Transmission) : LinkKept s (holdingAbandoned x t) := by
  unfold Machine.holdingAbandoned
  split
  · refine h.queue fun hlimit => ?_
    split
    · exact Nat.zero_le 8
    · rename_i hqueue
      rw [hqueue, List.length_cons] at hlimit
      split
      · omega
      · exact hlimit
  · exact kept_ite h (h.bufferOver _)
  all_goals exact h

/-- An abandoned attempt, the count of attempts put back at a limit it stays below (R82, R83). -/
theorem attemptAbandoned {n : Nat} (hn : LinkLimits t → n ≤ 7) :
    LinkKept s (t.modRlc fun r => { r.attemptAbandoned with abandoned := n }) := by
  refine h.link rfl rfl (fun htx => nomatch htx) fun hs => ?_
  obtain ⟨hqueue, hduplicate, hbabble, -⟩ := id hs
  exact ⟨hqueue, hduplicate, hbabble, hn hs⟩

theorem abandonAttempt : LinkKept s (abandonAttempt t) := by
  unfold Machine.abandonAttempt
  split
  · exact h
  · split
    · exact h
    · rename_i x _ _ _ _
      unfold lineFault
      rw [holdingAbandoned_abandoned]
      split
      · rw [holdingAbandoned_count]
        exact ((h.attemptAbandoned fun _ => Nat.zero_le 7).holdingAbandoned x).lineOnset
      · rename_i hbelow
        exact (h.attemptAbandoned fun _ => Nat.le_of_lt_succ (not_le.mp hbelow)).holdingAbandoned x

/-! ### Receive (R78, R94, R95) -/

theorem frameEnds (f : Frame) : LinkKept s (t.modRlc (RiserLink.frameEnds f)) := by
  refine h.relink ⟨rfl, rfl, id⟩ (fun _ hdriving => nomatch hdriving) (fun hs => ?_) id
  show LastOrigins.Valid (if _ then _ else _)
  split
  · rename_i hvalid
    exact (validOrigins_of_linkLaw hs).set hvalid _
  · exact validOrigins_of_linkLaw hs

theorem receiveFrame (f : Frame) {act : State → State} (hact : ∀ v, LinkKept s v → LinkKept s (act v)) :
    LinkKept s (receiveFrame f act t) := by
  have hended := h.frameEnds f
  exact kept_ite (kept_ite hended.duplicateEvent (kept_ite (hended.countLink _) (kept_ite (hended.countLink _)
    (kept_ite (hact _ (hended.countLink _)) ((hended.countLink _).peers _))))) h

end LinkKept

/-! ### The commands -/

theorem linkKept_event {s t : State} {f : State → State} (hf : LinkKept s (f s)) (he : event f s = .next t) :
    LinkKept s t := by
  cases he
  exact kept_ite (LinkKept.refl s) (hf.settle s)

theorem linkKept_quietEvent {s t : State} {f : State → State} (hf : LinkKept s (f s)) (he : quietEvent f s = .next t) :
    LinkKept s t := by
  cases he
  exact kept_ite (LinkKept.refl s) hf

theorem linkKept_tileReadEnd {s t : State} (he : execTileReadEnd s = .next t) : LinkKept s t := by
  have hs := LinkKept.refl s
  unfold execTileReadEnd at he
  split at he
  · split at he
    · split at he
      · cases he
      · exact linkKept_event (hs.tileDelivered _ _) he
    · exact linkKept_event (hs.tileTooLate _ _) he
  · cases he
    exact hs

/-- Every command but the two resets keeps the link. -/
theorem linkKept_exec {c : Instr} {s t : State} (hreset : ∀ a m, c ≠ .reset a m) (hasserted : c ≠ .resetAsserted)
    (he : exec c s = .next t) : LinkKept s t := by
  have hs := LinkKept.refl s
  have frame : ∀ {kind origin dest payload} {act : State → State}, (∀ v, LinkKept s v → LinkKept s (act v)) →
      event (receiveFrame (frameOf kind origin dest payload) act) s = .next t → LinkKept s t :=
    fun hact => linkKept_event (hs.receiveFrame _ hact)
  have request : ∀ {p kind body}, event (crewRequest p kind body) s = .next t → LinkKept s t :=
    linkKept_event (hs.crewRequest _ _ _)
  cases c with
  | reset a m => exact absurd rfl (hreset a m)
  | resetAsserted => exact absurd rfl hasserted
  | headerReadDone => exact linkKept_event hs.headerReadDone he
  | slotReadDone => exact linkKept_event hs.slotReadDone he
  | startupReadTimeout => exact linkKept_event hs.startupReadTimeout he
  | sample values => exact linkKept_quietEvent (hs.sampleMark values) he
  | confirmTimerExpiry i v => exact linkKept_event (hs.sampleWhen ..) he
  | troubleTimerExpiry i v => exact linkKept_event (hs.sampleWhen ..) he
  | restoreTimerExpiry i v => exact linkKept_event (hs.sampleWhen ..) he
  | normalHoldTimerExpiry i v => exact linkKept_event (hs.sampleWhen ..) he
  | decayTimerExpiry i v => exact linkKept_event (hs.sampleWhen ..) he
  | joinListenEnd => exact linkKept_quietEvent hs.joinListenEnd he
  | idleDetection => exact linkKept_quietEvent hs.idleDetected he
  | idleRound => exact linkKept_quietEvent hs.idleRoundBegins he
  | startMoment offset => exact linkKept_quietEvent (hs.startMoment offset) he
  | transmissionComplete => exact linkKept_event hs.completeTransmission he
  | attemptAbandoned => exact linkKept_event hs.abandonAttempt he
  | burstContinuation => exact linkKept_quietEvent hs.burstContinues he
  | dominantSensed => exact linkKept_quietEvent hs.dominantSensed he
  | yieldMark => exact linkKept_quietEvent hs.yieldMarkDriven he
  | transmitGuardCut => exact linkKept_event hs.guardCut he
  | duplicateHoldExpiry => exact linkKept_quietEvent hs.duplicateHoldExpiry he
  | babbleClear => exact linkKept_quietEvent hs.babbleClear he
  | lineClear => exact linkKept_quietEvent hs.lineClear he
  | duplicateCountDecay => exact linkKept_quietEvent hs.duplicateDecay he
  | babbleCountDecay => exact linkKept_quietEvent hs.babbleDecay he
  | refreshTimerExpiry => exact linkKept_quietEvent hs.refreshExpiry he
  | directoryTimerExpiry => exact linkKept_quietEvent hs.directoryExpiry he
  | receiveFailure bytes => exact linkKept_quietEvent (hs.receiveFailure bytes) he
  | lineActivity => exact linkKept_quietEvent hs.lineActive he
  | zoneState cls origin dest payload => exact frame (fun _ hv => hv.takeZoneState ..) he
  | directory origin dest payload => exact frame (fun _ hv => hv.takeDirectory ..) he
  | sheetRequest origin dest payload => exact frame (fun _ hv => (hv.frameHeard ..).takeSheetRequest ..) he
  | sheetRefuse origin dest payload => exact frame (fun _ hv => (hv.frameHeard ..).takeSheetRefuse ..) he
  | sheetCancel origin dest payload => exact frame (fun _ hv => (hv.frameHeard ..).takeSheetCancel ..) he
  | sheetTile origin dest payload => exact frame (fun _ hv => (hv.frameHeard ..).takeSheetTile ..) he
  | markAck origin dest payload => exact frame (fun _ hv => hv.takeMark ..) he
  | markAttendOn origin dest payload => exact frame (fun _ hv => hv.takeMark ..) he
  | markAttendOff origin dest payload => exact frame (fun _ hv => hv.takeMark ..) he
  | silenceTimerExpiry peer => exact linkKept_event (hs.silenceExpiry _) he
  | tileReadEnd => exact linkKept_tileReadEnd he
  | tileReadTimeout => exact linkKept_event hs.tileReadTimeout he
  | storeWriteDone => exact linkKept_event hs.storeWriteDone he
  | storeWriteTimeout => exact linkKept_event hs.storeWriteTimeout he
  | storeEraseDone => exact linkKept_event hs.storeEraseDone he
  | storeEraseTimeout => exact linkKept_event hs.storeEraseTimeout he
  | storeCheckReadDone => exact linkKept_event hs.storeCheckReadDone he
  | storeCheckReadTimeout => exact linkKept_event hs.storeCheckReadTimeout he
  | queueFullRetry channel => exact linkKept_event (kept_ite (hs.submitRequest _) hs) he
  | responseTimerExpiry channel => exact linkKept_event (kept_ite (hs.moveNext ..) hs) he
  | busyRetry channel => exact linkKept_event (kept_ite (LinkKept.buildWindow (hs.channel ..) _) hs) he
  | gapTimerExpiry channel => exact linkKept_event (kept_ite (LinkKept.gapEvent (hs.channel ..) _) hs) he
  | breakDetected port => exact linkKept_event (kept_ite (hs.portReset port) hs) he
  | crewMessageReceived port kind body check => exact linkKept_event (hs.messageReceived ..) he
  | receiveStall port => exact linkKept_quietEvent (hs.framingFailure port) he
  | crewByteFramingError port => exact linkKept_quietEvent (hs.framingFailure port) he
  | crewLengthFieldFault port length => exact linkKept_quietEvent (hs.lengthFault port _) he
  | lineReturnedHigh port => exact linkKept_quietEvent (kept_ite (hs.port port _) hs) he
  | streamPassStart port => exact linkKept_event (kept_ite (hs.startPass port) hs) he
  | messageEnd port => exact linkKept_event (hs.endMessage port) he
  | storeWrite | storeErase | storeCheck | sheet | cancel | unknown | attach | detach | picture | floor | watch | ack
  | attendOn | attendOff | peek | finish | mask | streamOn | streamOff | status => exact request he

end Sys2Proof.Machine
end

section
/-! SUPPORT. The link after a reset, and over a step. -/

namespace Sys2Proof.Machine

open Sys2Proof

variable {s t : State}

theorem atReset_addressBlock {a : Nat} (ha : a ≤ 63) (m : Bool) :
    (RiserLink.atReset a m).blocks.address = !validAddress a := by
  show decide (a = 0 ∨ a = 63) = !(decide (1 ≤ a) && decide (a ≤ 62))
  rw [Bool.eq_iff_iff]
  simp only [decide_eq_true_eq, Bool.not_eq_true', Bool.and_eq_false_iff, decide_eq_false_iff_not]
  omega

theorem linkLaw_resetStation {a : Nat} (ha : a ≤ 63) (m held : Bool) (store : PlanStore) (draws : Nat) (s : State) :
    LinkLaw (resetStation a m held store draws s) :=
  ⟨(fun htx => nomatch htx), ha, atReset_addressBlock ha m, rfl, rfl, rfl, rfl, rfl⟩

theorem linkLimits_resetStation (a : Nat) (m held : Bool) (store : PlanStore) (draws : Nat) (s : State) :
    LinkLimits (resetStation a m held store draws s) := ⟨Nat.zero_le 8, Nat.zero_le 3, Nat.zero_le 3, Nat.zero_le 7⟩

/-- A command puts the station to its reset values, or keeps the link. -/
theorem exec_resets_or_keeps {c : Instr} (he : exec c s = .next t) : LinkKept s t ∨
    ∃ a m held store draws, (a ≤ 63 ∨ a = s.address) ∧ t = resetStation a m held store draws s := by
  by_cases hreset : ∃ a m, c = .reset a m
  · obtain ⟨a, m, rfl⟩ := hreset
    cases he
    exact .inr ⟨_, _, _, _, _, .inl (Nat.le_of_lt_succ a.isLt), rfl⟩
  · by_cases hasserted : c = .resetAsserted
    · subst hasserted
      cases he
      exact .inr ⟨_, _, _, _, _, .inr rfl, rfl⟩
    · exact .inl (linkKept_exec (fun a m h => hreset ⟨a, m, h⟩) hasserted he)

theorem exec_pending {c : Instr} (he : exec c s = .next t) : t.pending = s.pending := by
  rcases exec_resets_or_keeps he with hkept | ⟨a, m, held, store, draws, -, rfl⟩
  · exact hkept.pending
  · rfl

theorem linkLaw_exec {c : Instr} (hs : LinkLaw s) (he : exec c s = .next t) : LinkLaw t := by
  rcases exec_resets_or_keeps he with hkept | ⟨a, m, held, store, draws, ha, rfl⟩
  · exact hkept.law hs
  · obtain ⟨-, haddress, -⟩ := hs
    exact linkLaw_resetStation (ha.elim id fun h => h ▸ haddress) ..

theorem linkLimits_exec {c : Instr} (hs : LinkLimits s) (he : exec c s = .next t) : LinkLimits t := by
  rcases exec_resets_or_keeps he with hkept | ⟨a, m, held, store, draws, -, rfl⟩
  · exact hkept.limits hs
  · exact linkLimits_resetStation ..

/-- A law that looks neither at the clock nor at the queue of waiting commands is kept by every step when every command keeps
it. -/
theorem kept_step {P : State → Prop} (hclock : ∀ n u, P u → P { u with clock := n })
    (hpending : ∀ l u, P u → P { u with pending := l }) (hexec : ∀ c u v, P u → exec c u = .next v → P v)
    (hs : P s) (he : step s = .next t) : P t := by
  unfold step at he
  split at he
  · cases he
    exact kept_ite hs (hclock _ s hs)
  · exact hexec _ _ t (hpending _ s hs) he

end Sys2Proof.Machine

open Sys2Proof Sys2Proof.Machine

/-- Settles O7: only a start with no block present drives, and a block appears only as the driver goes off (R97, R101). -/
theorem linkLawKept : Obligations.LinkLawKept := fun _ _ hs he =>
  kept_step (P := LinkLaw) (fun _ _ h => h) (fun _ _ h => h) (fun _ _ _ => linkLaw_exec) hs he

/-- Settles O8: an entry joins the CONTROL queue only where there is room (R90), the counts stop at their limits. -/
theorem linkLimitsKept : Obligations.LinkLimitsKept := fun _ _ hs he =>
  kept_step (P := LinkLimits) (fun _ _ h => h) (fun _ _ h => h) (fun _ _ _ => linkLimits_exec) hs he

/-- Settles O16: a command that is no reset keeps the link, and the items with it. -/
theorem fixedUntilReset : Obligations.FixedUntilReset := fun _ _ _ he =>
  ⟨exec_pending he, fun hreset hasserted => (linkKept_exec hreset hasserted he).fixed⟩

end

section
/-! SUPPORT. Slots and start moments (R79, R80). -/

namespace Sys2Proof.Machine

open Sys2Proof

variable {a b o : Nat}

/-- The modulo as R79 writes it, over the integers. -/
theorem slotOf_eq_emod (ha : validAddress a = true) (ho : validAddress o = true) :
    ((slotOf a o : Nat) : Int) = ((a : Int) - o - 1) % 62 := by
  rw [validAddress_iff] at ha ho
  unfold slotOf
  omega

theorem slotOf_le (a o : Nat) : slotOf a o ≤ 61 := Nat.le_of_lt_succ (Nat.mod_lt _ (by omega))

theorem slotOf_self (o : Nat) : slotOf o o = 61 := by
  unfold slotOf
  omega

theorem slotOf_inj (ha : validAddress a = true) (hb : validAddress b = true) (ho : validAddress o = true)
    (h : slotOf a o = slotOf b o) : a = b := by
  rw [validAddress_iff] at ha hb ho
  unfold slotOf at h
  omega

theorem startMoment_eq (a : Nat) (k : AccessClass) (r : RiserLink) :
    r.startMoment a k = k.base + 8 * slotOf a (r.lastOrigins.get k) := rfl

theorem startMoment_le (a : Nat) (k : AccessClass) (r : RiserLink) : r.startMoment a k ≤ k.base + 488 := by
  have hslot := slotOf_le a (r.lastOrigins.get k)
  rw [startMoment_eq]
  omega

theorem startMoment_apart (ha : validAddress a = true) (hb : validAddress b = true) {k : AccessClass} {r : RiserLink}
    (ho : validAddress (r.lastOrigins.get k) = true) (hne : a ≠ b) :
    r.startMoment a k + 8 ≤ r.startMoment b k ∨ r.startMoment b k + 8 ≤ r.startMoment a k := by
  have hslots : slotOf a (r.lastOrigins.get k) ≠ slotOf b (r.lastOrigins.get k) := fun h => hne (slotOf_inj ha hb ho h)
  rw [startMoment_eq, startMoment_eq]
  omega

end Sys2Proof.Machine

open Sys2Proof Sys2Proof.Machine

/-- Settles O19: different stations have different slots after one last origin. -/
theorem startMomentsKeepApart : Obligations.StartMomentsKeepApart :=
  ⟨fun a o ha ho => ⟨slotOf_eq_emod ha ho, slotOf_le a o, slotOf_self o, rfl⟩,
    fun a _ r k ha hb ho =>
      ⟨startMoment_eq a k r, Nat.le_add_right .., startMoment_le a k r, startMoment_apart ha hb ho⟩,
    rfl, rfl, rfl, rfl⟩

end

section
/-! SUPPORT. The timers of the link (R88, R89, R98, R99, R183). -/

namespace Sys2Proof.Machine

open Sys2Proof

/-- A decay timer runs on where the count stays above 0 (R99). -/
theorem decayRestart_eq (now count : Nat) : decayRestart now count = if 2 ≤ count then some now else none := by
  unfold decayRestart
  refine if_congr ?_ rfl rfl
  omega

/-- What happens at the expiry of a timer that has run its length. -/
theorem ite_timerDue {α : Type} {now length begun : Nat} {t : Option Nat} (ht : t = some begun) (h : length ≤ now - begun)
    (x y : α) : (if timerDue now length t then x else y) = x := if_pos (timerDue_of_le ht h)

theorem quietEvent_eq {f : State → State} {s x : State} (hheld : s.held = false) (hf : f s = x) :
    quietEvent f s = .next x := by
  rw [quietEvent_running hheld, hf]

theorem event_eq {f : State → State} {s x : State} (hheld : s.held = false) (hf : f s = x) :
    event f s = .next (settle s x) := by
  rw [event_running hheld, hf]

end Sys2Proof.Machine

open Sys2Proof Sys2Proof.Machine

/-- Settles O26: each timer is found expired, and its command writes out what it changes. -/
theorem linkTimersExpire : Obligations.LinkTimersExpire := by
  intro s begun hheld
  refine ⟨fun ht hd => ?_, fun ht hd => ?_, fun ht hd => ?_, fun ht hd => ?_, fun ht hd => ?_, fun ht hd => ?_,
    fun ht hd => ?_, fun ht hd => ?_⟩
  · exact quietEvent_eq hheld (ite_timerDue ht hd _ s)
  · exact quietEvent_eq hheld (ite_timerDue ht hd _ s)
  · exact quietEvent_eq hheld (ite_timerDue ht hd _ s)
  · exact quietEvent_eq hheld (ite_timerDue ht hd _ s)
  · exact quietEvent_eq hheld (ite_timerDue ht hd _ s)
  · exact quietEvent_eq hheld (ite_timerDue ht hd _ s)
  · rw [← decayRestart_eq]
    exact quietEvent_eq hheld (ite_timerDue ht hd _ s)
  · rw [← decayRestart_eq]
    exact quietEvent_eq hheld (ite_timerDue ht hd _ s)

end

section
/-! SUPPORT. The rounds, the burst and the yield mark (R76, R81, R84 to R86). -/

namespace Sys2Proof.Machine

open Sys2Proof

variable {s : State} {c : Nat}

theorem canGoIdle_of (hsilent : (s.rlc.tx.all fun t => t.frame.isNone) = true)
    (hphase : s.rlc.phase = .quiet ∨ s.rlc.phase = .awaitIdle ∨ s.rlc.phase = .receiving) : s.rlc.canGoIdle = true := by
  have hdrives : s.rlc.silent = true := by
    unfold RiserLink.silent
    cases htx : s.rlc.tx with
    | none => rfl
    | some t =>
      rw [htx] at hsilent
      exact hsilent
  rw [RiserLink.canGoIdle, hdrives]
  rcases hphase with hphase | hphase | hphase <;> rw [hphase] <;> rfl

theorem idleDetected_of (hsilent : (s.rlc.tx.all fun t => t.frame.isNone) = true)
    (hphase : s.rlc.phase = .quiet ∨ s.rlc.phase = .awaitIdle ∨ s.rlc.phase = .receiving) :
    idleDetected s = { s with rlc := { s.rlc with phase := .idle 0, tx := none, burst := none, yieldDue := false } } :=
  if_pos (canGoIdle_of hsilent hphase)

theorem idleRoundBegins_of {n : Nat} (hphase : s.rlc.phase = .idle n) :
    idleRoundBegins s = { s with rlc := { s.rlc with phase := .idle 0 } } := by
  rw [idleRoundBegins, hphase]
  rfl

theorem lineActive_of {n : Nat} (hphase : s.rlc.phase = .idle n) :
    lineActive s = { s with rlc := { s.rlc with phase := .receiving } } := by
  rw [lineActive, hphase]
  rfl

/-- The tile a serving channel begins, with its frame (R140). -/
theorem beginTile_eq {b x tag : Nat} {d : List Byte} {r : SheetRecord} {w : Nat × Nat}
    (hfull : s.fullBuffer c (s.channel c).nextTile = some (b, d)) (howner : (s.channel c).owner = .peer x tag)
    (hrecord : (s.channel c).record = some r) (hwindow : (s.channel c).window = some w) :
    beginTile c s = s.driving (.tile c b)
      (some { kind := .sheetTile, origin := s.address, dest := x, payload := s.offeredTile c tag r w d })
      (s.moreFollows c) := by
  have hframe : s.tileFrame c d =
      { kind := .sheetTile, origin := s.address, dest := x, payload := s.offeredTile c tag r w d } := by
    simp only [State.tileFrame, Channel.requester, howner, hrecord, hwindow, sheetTilePayload, byte_bit]
    rfl
  simp only [beginTile, hfull, hframe]
  rfl

theorem burstContinues_eq (hburst : s.rlc.burst = some c) (htx : s.rlc.tx = none) : burstContinues s =
    if !s.rlc.blocks.any && s.offersTile c then beginTile c (s.modRlc fun r => { r with burst := none })
    else s.modRlc fun r => { r with burst := none } := by
  rw [burstContinues, hburst, htx]
  rfl

/-- The burst goes on with the tile the channel offers (R84). -/
theorem burstContinues_tile {b x tag : Nat} {d : List Byte} {r : SheetRecord} {w : Nat × Nat}
    (hburst : s.rlc.burst = some c) (htx : s.rlc.tx = none) (hb : s.rlc.blocks.any = false)
    (hserve : (s.channel c).state = .serve) (hfull : s.fullBuffer c (s.channel c).nextTile = some (b, d))
    (howner : (s.channel c).owner = .peer x tag) (hrecord : (s.channel c).record = some r)
    (hwindow : (s.channel c).window = some w) :
    burstContinues s = s.driving (.tile c b)
      (some { kind := .sheetTile, origin := s.address, dest := x, payload := s.offeredTile c tag r w d })
      (s.moreFollows c) := by
  have hoffers : s.offersTile c = true := by rw [State.offersTile, hserve, hfull]; rfl
  rw [burstContinues_eq hburst htx, hb, hoffers]
  exact beginTile_eq (s := s.modRlc fun r => { r with burst := none }) hfull howner hrecord hwindow

theorem burstContinues_ends (hburst : s.rlc.burst = some c) (htx : s.rlc.tx = none)
    (h : s.rlc.blocks.any = true ∨ s.offersTile c = false) :
    burstContinues s = { s with rlc := { s.rlc with burst := none } } := by
  rw [burstContinues_eq hburst htx]
  refine if_neg fun hyes => ?_
  rw [Bool.and_eq_true, Bool.not_eq_true'] at hyes
  obtain ⟨hb, hoffers⟩ := hyes
  rcases h with h | h
  · exact Bool.noConfusion (hb.symm.trans h)
  · exact Bool.noConfusion (hoffers.symm.trans h)

theorem dominantSensed_of (hburst : s.rlc.burst = some c) : dominantSensed s = { s with
    rlc := { s.rlc with
      burst := none
      counters := { s.rlc.counters with burstsYielded := min 65535 (s.rlc.counters.burstsYielded + 1) } } } := by
  rw [dominantSensed, hburst]
  rfl

theorem yieldMarkDriven_of (hdue : s.rlc.yieldDue = true) (hb : s.rlc.blocks.any = false) :
    yieldMarkDriven s = { s.driving .yieldMark none false with
      rlc := { (s.driving .yieldMark none false).rlc with
        yieldDue := false
        counters := { s.rlc.counters with yieldMarks := min 65535 (s.rlc.counters.yieldMarks + 1) } } } := by
  rw [yieldMarkDriven, hdue, hb]
  rfl

/-- The more-follows flag of a channel whose window is known (R140). -/
theorem moreFollows_of_window {more : Bool} {w : Nat × Nat} (hwindow : (s.channel c).window = some w)
    (hmore : more = true ↔ (s.channel c).burstMode = true ∧ (s.channel c).nextTile < w.2 ∧
      ∃ e < 16, ∃ y, s.holdsFull c ((s.channel c).nextTile + 1) e y) : s.moreFollows c = more := by
  have hexists : (∃ v, (s.channel c).window = some v ∧ (s.channel c).nextTile < v.2) ↔ (s.channel c).nextTile < w.2 := by
    simp [hwindow]
  rw [Bool.eq_iff_iff, moreFollows_iff, hexists]
  exact hmore.symm

end Sys2Proof.Machine

open Sys2Proof Sys2Proof.Machine

/-- Settles O28: the burst goes on where the channel offers its next tile; the window and the buffers give the flag. -/
theorem roundsBurstsAndYieldMarks : Obligations.RoundsBurstsAndYieldMarks := by
  refine ⟨fun s hheld => ⟨fun hsilent hphase => ?_, fun n hphase => ⟨?_, ?_⟩⟩, fun s c hheld => ⟨?_, ?_, ?_, ?_⟩⟩
  · exact quietEvent_eq hheld (idleDetected_of hsilent hphase)
  · exact quietEvent_eq hheld (idleRoundBegins_of hphase)
  · exact quietEvent_eq hheld (lineActive_of hphase)
  · intro b d x tag r w more hburst htx hb hserve hlt hfull hlowest howner hrecord hwindow hmore
    have hflag : s.moreFollows c = more := moreFollows_of_window hwindow hmore
    subst hflag
    exact quietEvent_eq hheld (burstContinues_tile hburst htx hb hserve
      ((fullBuffer_eq_some s c _ b d).mpr ⟨hlt, hfull, hlowest⟩) howner hrecord hwindow)
  · intro hburst htx h
    refine quietEvent_eq hheld (burstContinues_ends hburst htx (h.imp_right fun hnone => ?_))
    rw [Bool.eq_false_iff, Ne, offersTile_iff]
    rintro ⟨hserve, b, hlt, d, hfull⟩
    exact hnone.elim (· hserve) fun hnone => hnone b hlt d hfull
  · exact fun hburst => quietEvent_eq hheld (dominantSensed_of hburst)
  · exact fun hdue hb => quietEvent_eq hheld (yieldMarkDriven_of hdue hb)

end

section
/-! SUPPORT. The receiver's discards (R93). -/

namespace Sys2Proof.Machine

open Sys2Proof

/-! ### The first failure of the bytes taken -/

theorem anyFraming_of_mem {l : List LineByte} (h : ∃ x ∈ l, x.framingError = true) : anyFraming l = true :=
  List.any_eq_true.mpr h

theorem anyFraming_of_all {l : List LineByte} (h : ∀ x ∈ l, x.framingError = false) : anyFraming l = false :=
  List.any_eq_false.mpr fun x hx hf => Bool.noConfusion ((h x hx).symm.trans hf)

theorem anyFraming_take {l : List LineByte} (h : ∀ x ∈ l, x.framingError = false) (n : Nat) :
    anyFraming (l.take n) = false := anyFraming_of_all fun x hx => h x (List.mem_of_mem_take hx)

/-- The value of a first byte, as the receiver reads it. -/
theorem byteAt_first (b : LineByte) (rest : List LineByte) : byteAt ((b :: rest).map (·.value)) 0 = b.value.toNat := rfl

theorem receiveFault_badStart {b : LineByte} {rest : List LineByte} (hb : b.value ≠ 0xA5#8) :
    receiveFault (b :: rest) = some .badStart := by
  have hstart : byteAt ((b :: rest).map (·.value)) 0 ≠ 0xA5 := fun h => hb (BitVec.eq_of_toNat_eq h)
  rw [receiveFault, if_neg (by simp), if_pos hstart]

section

variable {b : LineByte} {rest l : List LineByte} (hl : l = b :: rest) (hb : b.value = 0xA5#8)

include hl hb

/-- Past a good first byte, the failures come in the order in which the bytes arrive. -/
theorem receiveFault_started {len : Nat} (hlen : len = halfAt (l.map (·.value)) 4) : receiveFault l =
    if anyFraming (l.take 6) then some .framing
    else if 6 ≤ l.length ∧ 416 < len then some .badLength
    else if anyFraming (l.take (8 + len)) then some .framing
    else if l.length < 6 ∨ l.length < 8 + len then some .truncated
    else if (crc16 (slice (l.map (·.value)) 1 (5 + len))).toNat ≠ halfAt (l.map (·.value)) (6 + len) then some .badCrc
    else if frameCodes.contains (byteAt (l.map (·.value)) 1) then none
    else some .unknownKind := by
  subst hl hlen
  have hstart : byteAt ((b :: rest).map (·.value)) 0 = 0xA5 := by rw [byteAt_first, hb]; rfl
  rw [receiveFault, if_neg (by simp), if_neg (not_not.mpr hstart)]

theorem receiveFault_early (h : ∃ x ∈ l.take 6, x.framingError = true) : receiveFault l = some .framing := by
  rw [receiveFault_started hl hb rfl, if_pos (anyFraming_of_mem h)]

theorem receiveFault_badLength (h : ∀ x ∈ l.take 6, x.framingError = false) (hsix : 6 ≤ l.length)
    (hlong : 416 < halfAt (l.map (·.value)) 4) : receiveFault l = some .badLength := by
  rw [receiveFault_started hl hb rfl, anyFraming_of_all h, if_neg Bool.false_ne_true, if_pos ⟨hsix, hlong⟩]

theorem receiveFault_late (h : ∀ x ∈ l.take 6, x.framingError = false) (hfits : halfAt (l.map (·.value)) 4 ≤ 416)
    (hlate : ∃ x ∈ l.take (8 + halfAt (l.map (·.value)) 4), x.framingError = true) : receiveFault l = some .framing := by
  rw [receiveFault_started hl hb rfl, anyFraming_of_all h, if_neg Bool.false_ne_true, if_neg (by omega),
    if_pos (anyFraming_of_mem hlate)]

/-- With no framing error, and a length that fits where there is one. -/
theorem receiveFault_clean (h : ∀ x ∈ l, x.framingError = false) {len : Nat} (hlen : len = halfAt (l.map (·.value)) 4)
    (hfits : l.length < 6 ∨ len ≤ 416) : receiveFault l =
    if l.length < 6 ∨ l.length < 8 + len then some .truncated
    else if (crc16 (slice (l.map (·.value)) 1 (5 + len))).toNat ≠ halfAt (l.map (·.value)) (6 + len) then some .badCrc
    else if frameCodes.contains (byteAt (l.map (·.value)) 1) then none
    else some .unknownKind := by
  rw [receiveFault_started hl hb hlen, anyFraming_take h, if_neg Bool.false_ne_true, if_neg (by omega),
    anyFraming_take h, if_neg Bool.false_ne_true]

end

theorem frameCodes_not {n : Nat} (h : n ∉ [0x31, 0x32, 0x33, 0x41, 0x42, 0x43, 0x44, 0x51]) :
    frameCodes.contains n = false := by
  rw [Bool.eq_false_iff]
  exact fun hn => h (List.mem_of_elem_eq_true hn)

/-! ### The discard -/

/-- What the receiver leaves of the link when it discards a frame. -/
def State.gone (s : State) (phase : RiserPhase) (k : LinkCounters) : State :=
  { s with rlc := { s.rlc with tx := none, burst := none, yieldDue := false, phase := phase, counters := k } }

theorem exec_receiveFailure {s : State} {bytes : List LineByte} {f : ReceiveFault} (hheld : s.held = false)
    (hreceives : s.receives = true) (hf : receiveFault bytes = some f) :
    exec (.receiveFailure bytes) s = .next (s.gone (f.next s.rlc.phase) (s.rlc.counters.fault f)) := by
  refine quietEvent_eq hheld ?_
  rw [receiveFailure, hf]
  exact if_pos hreceives

end Sys2Proof.Machine

open Sys2Proof Sys2Proof.Machine

/-- Settles O31: the bytes decide the failure, and the failure the phase and the counter. -/
theorem receiverDiscards : Obligations.ReceiverDiscards := by
  intro s bytes hheld hreceives
  have discards : ∀ {f : ReceiveFault}, receiveFault bytes = some f →
      exec (.receiveFailure bytes) s = .next (s.gone (f.next s.rlc.phase) (s.rlc.counters.fault f)) :=
    exec_receiveFailure hheld hreceives
  refine ⟨fun b rest hl hb => discards (f := .badStart) (hl ▸ receiveFault_badStart hb), fun b rest hl hb => ⟨?_, ?_, ?_⟩⟩
  · exact fun h => discards (receiveFault_early hl hb h)
  · exact fun h hsix => ⟨fun hlong => discards (receiveFault_badLength hl hb h hsix hlong),
      fun hfits hlate => discards (receiveFault_late hl hb h hfits hlate)⟩
  · intro h
    refine ⟨fun phase hshort hphase => ?_, fun hfits hlength => ⟨fun hcrc => ?_, fun hcrc hkind => ?_⟩⟩
    · have hfault := (receiveFault_clean hl hb h rfl (hshort.imp_right And.left)).trans
        (if_pos (hshort.imp_right And.right))
      subst hphase
      exact discards hfault
    · have hfull : ¬(bytes.length < 6 ∨ bytes.length < 8 + halfAt (bytes.map (·.value)) 4) := by omega
      exact discards ((receiveFault_clean hl hb h rfl (.inr hfits)).trans ((if_neg hfull).trans (if_pos hcrc)))
    · have hfull : ¬(bytes.length < 6 ∨ bytes.length < 8 + halfAt (bytes.map (·.value)) 4) := by omega
      refine discards (f := .unknownKind) ?_
      rw [receiveFault_clean hl hb h rfl (.inr hfits), if_neg hfull, if_neg (not_not.mpr hcrc), frameCodes_not hkind]
      rfl

end

section
/-! SUPPORT. A transmission given up: an abandoned attempt, the eighth of which brings LINE, and the transmit guard's cut,
which brings BABBLE (R82, R83, R92, R99 to R101). -/

namespace Sys2Proof.Machine

open Sys2Proof

section

variable {s v u : State} {f : RiserLink → RiserLink} (h : OnlyEngine (s.modRlc f) v)

include h

/-- What was done to the link and the transfer engine before an onset does not show in what R101 leaves, when it kept the
marks and their timers. -/
theorem AfterOnset.before (g : AfterOnset v u) (halarm : (f s.rlc).alarmPending = s.rlc.alarmPending)
    (hrefresh : (f s.rlc).refreshMark = s.rlc.refreshMark ∧ (f s.rlc).refreshTimer = s.rlc.refreshTimer)
    (hdirectory : (f s.rlc).directoryMark = s.rlc.directoryMark ∧ (f s.rlc).directoryTimer = s.rlc.directoryTimer) :
    AfterOnset s u := by
  have hrlc : v.rlc = f s.rlc := h.rlc
  obtain ⟨hzones, hpicture, hpeers, hholders, hmemory, hclock, hpending⟩ := g.untouched
  exact
    { silent := g.silent
      noControl := g.noControl
      noService := g.noService
      alarm := g.alarm.trans (hrlc ▸ halarm)
      refresh := ⟨g.refresh.1.trans (hrlc ▸ hrefresh.1), g.refresh.2.trans (hrlc ▸ hrefresh.2)⟩
      directory := ⟨g.directory.1.trans (hrlc ▸ hdirectory.1), g.directory.2.trans (hrlc ▸ hdirectory.2)⟩
      untouched := ⟨hzones.trans h.zones, hpicture.trans h.picture, hpeers.trans h.peers, hholders.trans h.holders,
        hmemory.trans h.memory, hclock.trans h.clock, hpending.trans h.pending⟩ }

theorem BlockNoticed.before {b : Block} (g : BlockNoticed b v u) : BlockNoticed b s u := by
  intro p hattached hroom
  refine g p ?_ ?_
  · rw [h.port p, State.modRlc_port]
    exact hattached
  · rw [h.notices p, State.modRlc_notices]
    exact hroom

end

/-! ### An abandoned attempt -/

section

variable {s : State} {x : Transmission}

/-- An abandoned attempt changes, of the link, only the queue its withdrawn head leaves (R82, R90). -/
theorem onlyEngine_holdingAbandoned (x : Transmission) (s : State) :
    ∃ q, OnlyEngine (s.modRlc fun r => { r with control := q }) (holdingAbandoned x s) := by
  unfold holdingAbandoned
  split
  · exact ⟨_, OnlyEngine.refl _⟩
  · refine ⟨s.rlc.control, ?_⟩
    split
    · exact OnlyEngine.refl s
    · exact onlyEngine_bufferOver s _
  all_goals exact ⟨s.rlc.control, OnlyEngine.refl s⟩

/-- A holding that keeps its place: a mark, an entry not withdrawn, a tile of a live service (R82). -/
theorem holdingAbandoned_kept (h : x.source = .zoneState ∨ x.source = .directory ∨
    (x.source = .control ∧ ∀ e rest, s.rlc.control = e :: rest → e.withdrawn = false) ∨
    (x.serviceLive = true ∧ ∃ c b, x.source = .tile c b)) : holdingAbandoned x s = s := by
  unfold holdingAbandoned
  rcases h with h | h | ⟨h, hhead⟩ | ⟨hlive, c, b, h⟩
  · rw [h]
  · rw [h]
  · rw [h]
    have hqueue : (match s.rlc.control with | [] => [] | e :: rest => if e.withdrawn then rest else e :: rest) =
        s.rlc.control := by
      cases hq : s.rlc.control with
      | nil => rfl
      | cons e rest => exact if_neg (by rw [hhead e rest hq]; exact Bool.false_ne_true)
    show ({ s with rlc := { s.rlc with control := _ } } : State) = s
    exact congrArg (fun q => ({ s with rlc := { s.rlc with control := q } } : State)) hqueue
  · rw [h]
    exact if_pos hlive

theorem abandonAttempt_eq {f : Frame} (htx : s.rlc.tx = some x) (hf : x.frame = some f) :
    abandonAttempt s = lineFault (holdingAbandoned x (s.modRlc RiserLink.attemptAbandoned)) := by
  rw [abandonAttempt, htx]
  dsimp only
  rw [hf]

/-- Short of the eighth in a row (R83). -/
theorem lineFault_below (h : s.rlc.abandoned < 8) : lineFault s = s := if_neg (Nat.not_le.mpr h)

/-- The station after the eighth abandoned attempt in a row, its count back at 0 (R83). -/
def State.eighthAbandoned (s : State) : State :=
  (s.modRlc RiserLink.attemptAbandoned).modRlc fun r => { r with abandoned := 0 }

/-- The station as the eighth abandoned attempt takes it to the onset of LINE, with its timer (R99). -/
def State.lineTimed (x : Transmission) (s : State) : State :=
  (holdingAbandoned x s.eighthAbandoned).modRlc fun r => { r with lineTimer := some s.clock }

/-- The link as the eighth abandoned attempt takes it to the onset of LINE. -/
def RiserLink.lineTimed (now : Nat) (q : List ControlEntry) (r : RiserLink) : RiserLink :=
  { r.attemptAbandoned with abandoned := 0, control := q, lineTimer := some now }

theorem abandonAttempt_eighth {f : Frame} (htx : s.rlc.tx = some x) (hf : x.frame = some f)
    (hseven : s.rlc.abandoned = 7) : abandonAttempt s = onset .line (s.lineTimed x) := by
  have hcount : 8 ≤ (holdingAbandoned x (s.modRlc RiserLink.attemptAbandoned)).rlc.abandoned := by
    rw [holdingAbandoned_abandoned]
    show 8 ≤ s.rlc.abandoned + 1
    omega
  obtain ⟨q, hq⟩ := onlyEngine_holdingAbandoned x s.eighthAbandoned
  have hclock : (holdingAbandoned x s.eighthAbandoned).clock = s.clock := hq.clock
  rw [abandonAttempt_eq htx hf, lineFault, if_pos hcount, holdingAbandoned_count]
  show lineOnset (holdingAbandoned x s.eighthAbandoned) = _
  rw [lineOnset, hclock]
  rfl

theorem onlyEngine_lineTimed (x : Transmission) (s : State) :
    ∃ q, OnlyEngine (s.modRlc (RiserLink.lineTimed s.clock q)) (s.lineTimed x) := by
  obtain ⟨q, hq⟩ := onlyEngine_holdingAbandoned x s.eighthAbandoned
  exact ⟨q, hq.modRlc fun r => { r with lineTimer := some s.clock }⟩

/-- The onset of LINE leaves what R101 says, with its block, its timer and the count of attempts (R83). -/
theorem onset_lineTimed (x : Transmission) (s : State) {u : State} (hu : u = onset .line (s.lineTimed x)) :
    AfterOnset s u ∧ BlockNoticed .line s u ∧ u.rlc.blocks = { s.rlc.blocks with line := true } ∧
      u.rlc.lineTimer = some s.clock ∧ u.rlc.abandoned = 0 ∧
      u.rlc.counters = { s.rlc.counters with collisions := min 65535 (s.rlc.counters.collisions + 1) } := by
  obtain ⟨q, hq⟩ := onlyEngine_lineTimed x s
  have hafter := afterOnset_onset .line (s.lineTimed x)
  have hnoticed := blockNoticed_onset .line (s.lineTimed x)
  have hrlc : u.rlc = (s.rlc.lineTimed s.clock q).quelled .line := by rw [hu, onset_rlc, hq.rlc, State.modRlc]
  rw [← hu] at hafter hnoticed
  refine ⟨hafter.before hq rfl ⟨rfl, rfl⟩ ⟨rfl, rfl⟩, hnoticed.before hq, ?_⟩
  rw [hrlc]
  exact ⟨rfl, rfl, rfl, rfl⟩

end

/-! ### The guard's cut -/

section

variable {s : State} {x : Transmission}

/-- The station as the guard takes it to the onset of BABBLE: the cut counted, the onset's count and
timers given (R92, R99). -/
def State.babbleTimed (s : State) : State :=
  s.modRlc fun r =>
    { r with
      counters := { r.counters with guardCuts := countUp r.counters.guardCuts }
      babbleCount := satNext 3 s.rlc.babbleCount
      babbleDecay := some s.clock
      babbleTimer := some s.clock }

theorem guardCut_eq (htx : s.rlc.tx = some x) (hlong : 10 ≤ s.clock - x.start) :
    guardCut s = silenceAt (satNext 3 s.rlc.babbleCount) (onset .babble s.babbleTimed) := by
  rw [guardCut, htx]
  exact if_pos hlong

theorem afterOnset_babble (s : State) :
    AfterOnset s (silenceAt (satNext 3 s.rlc.babbleCount) (onset .babble s.babbleTimed)) :=
  ((afterOnset_onset .babble s.babbleTimed).silenceAt _).before (OnlyEngine.refl _) rfl ⟨rfl, rfl⟩ ⟨rfl, rfl⟩

theorem blockNoticed_babble (s : State) :
    BlockNoticed .babble s (silenceAt (satNext 3 s.rlc.babbleCount) (onset .babble s.babbleTimed)) :=
  ((blockNoticed_onset .babble s.babbleTimed).silenceAt (by decide) _).before (OnlyEngine.refl _)

/-- The counters, the blocks, BABBLE's count and timers, and what stays of the link (R92, R99, R100). -/
theorem babble_link (s : State) {u : State}
    (hu : u = silenceAt (satNext 3 s.rlc.babbleCount) (onset .babble s.babbleTimed)) :
    u.rlc.counters = { s.rlc.counters with guardCuts := min 65535 (s.rlc.counters.guardCuts + 1) } ∧
    u.rlc.blocks = { s.rlc.blocks with
      babble := true, silenced := s.rlc.blocks.silenced || decide (2 ≤ s.rlc.babbleCount) } ∧
    u.rlc.babbleCount = min 3 (s.rlc.babbleCount + 1) ∧ u.rlc.babbleTimer = some s.clock ∧
    u.rlc.babbleDecay = some s.clock ∧ u.rlc.abandoned = s.rlc.abandoned ∧ u.rlc.lastOrigins = s.rlc.lastOrigins := by
  obtain ⟨r, hr, heq, hblocks⟩ := silenceAt_rlc (satNext 3 s.rlc.babbleCount) (onset .babble s.babbleTimed)
  rw [onset_rlc] at hr hblocks
  rw [hu, heq, hblocks, ← decide_eq_decide.mpr (satNext_three_iff s.rlc.babbleCount)]
  rcases hr with rfl | rfl
  · exact ⟨rfl, rfl, rfl, rfl, rfl, rfl, rfl⟩
  · exact ⟨rfl, rfl, rfl, rfl, rfl, rfl, rfl⟩

end

end Sys2Proof.Machine

open Sys2Proof Sys2Proof.Machine

/-- Settles O30: an attempt short of the eighth keeps its holding; the eighth and the guard's cut are onsets (R101). -/
theorem transmissionsGivenUp : Obligations.TransmissionsGivenUp := by
  refine ⟨fun s x f hheld htx hf => ⟨fun hseven hkept => ?_, fun hseven => ?_⟩, fun s x hheld htx hlong => ?_⟩
  · refine event_eq hheld ?_
    rw [abandonAttempt_eq htx hf, holdingAbandoned_kept (s := s.modRlc RiserLink.attemptAbandoned) hkept]
    exact lineFault_below (Nat.succ_lt_succ hseven)
  · exact ⟨_, event_eq hheld (abandonAttempt_eighth htx hf hseven), onset_lineTimed x s rfl⟩
  · exact ⟨_, event_eq hheld (guardCut_eq htx hlong), afterOnset_babble s, blockNoticed_babble s, babble_link s rfl⟩

end

section
/-! SUPPORT. The end of a transmission, holding by holding (R77, R78, R84, R87, R88, R90, R91, R141, R142). -/

namespace Sys2Proof.Machine

open Sys2Proof

theorem tset_tget_self {α : Type} {n : Nat} (d : α) (t : Vector α n) (i : Nat) : tset t i (tget d t i) = t := by
  by_cases h : i < n
  · apply Vector.toList_inj.mp
    rw [tset_toList, tget_eq, List.getD_eq_getElem _ _ (by simpa using h), List.set_getElem_self]
  · exact tset_beyond t (Nat.le_of_not_lt h) _

/-- A channel changed to what it is. -/
theorem State.modChannel_of_eq {c : Nat} {f : Channel → Channel} {s : State} (h : f (s.channel c) = s.channel c) :
    s.modChannel c f = s := by
  have hsame : tset s.ste.channels c (f (s.channel c)) = s.ste.channels := by
    rw [h]
    exact tset_tget_self ..
  show ({ s with ste := { s.ste with channels := tset s.ste.channels c (f (s.channel c)) } } : State) = s
  rw [hsame]

section

variable {s : State} {x : Transmission} {f : Frame}

/-- A frame sent to its end, before its holding is told (R77, R78, R83). -/
theorem completeTransmission_frame (htx : s.rlc.tx = some x) (hf : x.frame = some f) :
    completeTransmission s = holdingSent x (s.sent f.kind.cls) := by
  rw [completeTransmission, htx]
  dsimp only
  rw [hf]
  rfl

theorem completeTransmission_yieldMark (htx : s.rlc.tx = some x) (hf : x.frame = none) :
    completeTransmission s = { s with rlc := { s.rlc with tx := none } } := by
  rw [completeTransmission, htx]
  dsimp only
  rw [hf]
  rfl

theorem holdingSent_zoneState (hx : x.source = .zoneState) : holdingSent x s = zoneStateSent x s := by
  rw [holdingSent, hx]

theorem holdingSent_directory (hx : x.source = .directory) : holdingSent x s = directoryFrameSent s := by
  rw [holdingSent, hx]

theorem holdingSent_control (hx : x.source = .control) : holdingSent x s = controlSent s := by
  rw [holdingSent, hx]

theorem holdingSent_tile {c b : Nat} (hx : x.source = .tile c b) : holdingSent x s = tileSent c b x s := by
  rw [holdingSent, hx]

/-! ### A CONTROL entry (R90) -/

variable {e : ControlEntry} {rest : List ControlEntry} {c : Nat} {gap : Bool}

theorem controlSent_untold (hq : s.rlc.control = e :: rest)
    (h : e.submitter = .mark ∨ e.submitter = .refuse ∨ e.submitter = .cancel ∨ e.withdrawn = true) :
    controlSent s = { s with rlc := { s.rlc with control := rest } } := by
  rw [controlSent, hq]
  rcases h with h | h | h | h
  · simp only [h]
    rfl
  · simp only [h]
    rfl
  · simp only [h]
    rfl
  · dsimp only
    split
    · exact if_pos h
    all_goals rfl

theorem controlSent_told (hq : s.rlc.control = e :: rest) (he : e.submitter = .request c gap) (hw : e.withdrawn = false) :
    controlSent s = requestSent c gap { s with rlc := { s.rlc with control := rest } } := by
  rw [controlSent, hq]
  simp only [he, hw]
  rfl

end

section

variable {s : State} {c : Nat} {k : Channel} {gap : Bool}

/-- A request that opens a window starts the response timer (R127). -/
theorem requestSent_response (hk : s.channel c = k) (hr : k.isRemote = true) (hnone : k.result = none) :
    requestSent c false s = s.setChannel c { k with responseTimer := some s.clock } := by
  subst hk
  have hwaits : ((s.channel c).isRemote && (s.channel c).result.isNone) = true := by rw [hr, hnone]; rfl
  exact congrArg (fun k => s.setChannel c k) (if_pos hwaits)

theorem expected_of_window {w : Nat × Nat} (hw : k.window = some w) (hfirst : w.1 ≤ k.fetch)
    (hlast : k.fetch ≤ w.2) (hcur : k.fetch ≤ k.curLast) : k.expected = some k.fetch := by
  rw [Channel.expected, hw]
  exact if_pos ⟨hfirst, Nat.le_min.mpr ⟨hlast, hcur⟩⟩

/-- A request for a gap starts the gap timer (R130, log 32). -/
theorem requestSent_gap (hk : s.channel c = k) (hr : k.state = .receive) (hnone : k.result = none)
    (hexpected : k.expected.isSome = true) : requestSent c true s = s.setChannel c { k with gapTimer := some s.clock } := by
  subst hk
  have hwaits : ((s.channel c).isRemote && (s.channel c).result.isNone) = true := by rw [Channel.isRemote, hr, hnone]; rfl
  have hgap : (s.channel c).state = .receive ∧ (s.channel c).expected.isSome = true := ⟨hr, hexpected⟩
  exact congrArg (fun k => s.setChannel c k) ((if_pos hwaits).trans ((if_pos rfl).trans (if_pos hgap)))

/-- A request whose channel no longer waits for it starts nothing. -/
theorem requestSent_nothing (hk : s.channel c = k) (h : k.isRemote = false ∨ k.result ≠ none ∨
    (gap = true ∧ (k.state ≠ .receive ∨ k.expected = none))) : requestSent c gap s = s := by
  subst hk
  refine State.modChannel_of_eq ?_
  split
  · rename_i hwaits
    rw [Bool.and_eq_true, Option.isNone_iff_eq_none] at hwaits
    obtain ⟨hremote, hnone⟩ := hwaits
    rcases h with h | h | ⟨rfl, h⟩
    · exact Bool.noConfusion (hremote.symm.trans h)
    · exact absurd hnone h
    · refine (if_pos rfl).trans (if_neg ?_)
      rintro ⟨hstate, hexpected⟩
      rcases h with h | h
      · exact h hstate
      · rw [h] at hexpected
        exact nomatch hexpected
  · rfl

end

/-! ### A tile (R84, R91, R141, R142) -/

section

variable {s : State} {x : Transmission} {c b : Nat}

/-- The link after a tile of channel `c`, the burst going on when more follows and no ALARM waits (R84, R91). -/
def State.tilePassed (c : Nat) (x : Transmission) (s : State) : State :=
  s.modRlc fun r => { r with bulkRotation := c, burst := if x.moreFollows && !r.alarmPending then some c else none }

theorem tileSent_live (hlive : x.serviceLive = true) : tileSent c b x s = serviceAdvance c b (s.tilePassed c x) :=
  if_pos hlive

theorem tileSent_over (hover : x.serviceLive = false) : tileSent c b x s = bufferOver b (s.tilePassed c x) :=
  if_neg (by rw [hover]; exact Bool.false_ne_true)

theorem serviceAdvance_next {k : Channel} {w : Nat × Nat} (hk : s.channel c = k) (hw : k.window = some w)
    (hnext : k.nextTile < w.2) : serviceAdvance c b s =
      (s.setBuffer b { holder := some c, state := .empty }).setChannel c { k with nextTile := k.nextTile + 1 } := by
  subst hk
  have hlast : ((s.channel c).window.getD (0, 0)).2 = w.2 := by rw [hw]; rfl
  exact if_neg (by rw [hlast]; exact Nat.not_le.mpr hnext)

theorem serviceAdvance_last {k : Channel} {w : Nat × Nat} (hk : s.channel c = k) (hw : k.window = some w)
    (hend : w.2 ≤ k.nextTile) : serviceAdvance c b s =
      closeChannel c (((s.setBuffer b { holder := some c, state := .empty }).setChannel c
        { k with nextTile := k.nextTile + 1 }).countTransfers fun n =>
          { n with servicesCompleted := min 65535 (n.servicesCompleted + 1) }) := by
  subst hk
  have hlast : ((s.channel c).window.getD (0, 0)).2 = w.2 := by rw [hw]; rfl
  exact if_pos (by rw [hlast]; exact hend)

theorem bufferOver_free (h : (s.buffer b).holder = none) : bufferOver b s = s := by rw [bufferOver, h]

theorem bufferOver_held {d : Nat} {k : Channel} (hk : s.channel d = k) (h : (s.buffer b).holder = some d) :
    bufferOver b s = s.setBuffer b
      (if k.state = .free ∨ (k.state = .serve ∧ k.burstMode = false ∧ 1 < s.heldBy d) then
        { holder := none, state := .empty }
      else { holder := some d, state := .empty }) := by
  subst hk
  rw [bufferOver, h, apply_ite (fun y => s.setBuffer b y)]
  rfl

end

/-! ### The command -/

section

variable {s u : State} {x : Transmission} {f : Frame} (hheld : s.held = false) (htx : s.rlc.tx = some x)
  (hf : x.frame = some f)

include hheld htx hf

theorem exec_frameSent (hu : holdingSent x (s.sent f.kind.cls) = u) :
    exec .transmissionComplete s = .next (settle s u) :=
  event_eq hheld ((completeTransmission_frame htx hf).trans hu)

theorem exec_requestSent {e : ControlEntry} {rest : List ControlEntry} {c : Nat} {gap : Bool} (hx : x.source = .control)
    (hq : s.rlc.control = e :: rest) (he : e.submitter = .request c gap) (hw : e.withdrawn = false)
    (hu : requestSent c gap { s.sent f.kind.cls with rlc := { (s.sent f.kind.cls).rlc with control := rest } } = u) :
    exec .transmissionComplete s = .next (settle s u) :=
  exec_frameSent hheld htx hf
    ((holdingSent_control hx).trans ((controlSent_told (s := s.sent f.kind.cls) hq he hw).trans hu))

theorem exec_tileSent {c b : Nat} (hx : x.source = .tile c b) (hu : tileSent c b x (s.sent f.kind.cls) = u) :
    exec .transmissionComplete s = .next (settle s u) :=
  exec_frameSent hheld htx hf ((holdingSent_tile hx).trans hu)

end

end Sys2Proof.Machine

open Sys2Proof Sys2Proof.Machine

/-- Settles O29: the frame is counted sent, then its holding is told. -/
theorem frameSentToItsEnd : Obligations.FrameSentToItsEnd := by
  refine ⟨fun s x f hheld htx hf => ?_, fun s x hheld htx hf => event_eq hheld (completeTransmission_yieldMark htx hf)⟩
  refine ⟨fun hx => exec_frameSent hheld htx hf (holdingSent_zoneState hx),
    fun hx => exec_frameSent hheld htx hf (holdingSent_directory hx),
    fun e rest hx hq => ⟨fun h => ?_, fun c he hw hremote hnone => ?_,
      fun c w he hw hstate hnone hwindow hfirst hlast hcur => ?_, fun c gap he hw h => ?_⟩,
    fun c b w hx hlive hw hnext => ?_,
    fun c b v hx hv => ⟨fun w hc hlive hw hlast => ?_, fun hover hfree => ?_, fun d k hover hd hk => ?_⟩⟩
  · exact exec_frameSent hheld htx hf
      ((holdingSent_control hx).trans (controlSent_untold (s := s.sent f.kind.cls) hq h))
  · exact exec_requestSent hheld htx hf hx hq he hw (requestSent_response (k := s.channel c) rfl hremote hnone)
  · have hexpected := Option.isSome_of_eq_some (expected_of_window hwindow hfirst hlast hcur)
    exact exec_requestSent hheld htx hf hx hq he hw (requestSent_gap (k := s.channel c) rfl hstate hnone hexpected)
  · exact exec_requestSent hheld htx hf hx hq he hw (requestSent_nothing (k := s.channel c) rfl h)
  · exact exec_tileSent hheld htx hf hx
      ((tileSent_live hlive).trans (serviceAdvance_next (k := s.channel c) rfl hw hnext))
  · subst hv
    exact ⟨_, exec_tileSent hheld htx hf hx
      ((tileSent_live hlive).trans (serviceAdvance_last (k := s.channel c) rfl hw hlast)), channelClosed hc _⟩
  · subst hv
    exact exec_tileSent hheld htx hf hx ((tileSent_over hover).trans (bufferOver_free hfree))
  · subst hv hk
    exact exec_tileSent hheld htx hf hx ((tileSent_over hover).trans (bufferOver_held (k := s.channel d) rfl hd))

end

section
/-! SUPPORT. STATUS: its five parts written out, and the clear option (R96, R143, R147, R150, R158). -/

namespace Sys2Proof.Machine

open Sys2Proof

/-! ### The parts in the state in which the request is served -/

section

variable (p : Port) (s : State)

theorem statusPort_hunting : (s.hunting p).statusPort p = s.statusPort p := by cases p <;> rfl

theorem statusRiser_hunting : (s.hunting p).statusRiser = s.statusRiser := by cases p <;> rfl

theorem statusCounters_hunting : (s.hunting p).statusCounters = s.statusCounters := by cases p <;> rfl

theorem statusPeers_hunting (first count : Nat) : (s.hunting p).statusPeers first count = s.statusPeers first count := by
  cases p <;> rfl

end

/-! ### The bytes of the parts -/

/-- A sum over the items that pass a test is a sum in which the others count nothing. -/
theorem sum_map_filter_eq {α : Type} (q : α → Bool) (f : α → Nat) (l : List α) :
    ((l.filter q).map f).sum = (l.map fun x => if q x = true then f x else 0).sum := by
  induction l with
  | nil => rfl
  | cons x l ih =>
    rw [List.filter_cons, List.map_cons, List.sum_cons, ← ih]
    split
    · rw [List.map_cons, List.sum_cons]
    · rw [Nat.zero_add]

/-- The channels of a port, one bit each (R147). -/
theorem channelBits_eq (p : Port) (s : State) : ((s.channelsOf p).map fun c => 2 ^ c).sum =
    ((List.range 6).map fun c => if (s.channel c).owner = .port p then 2 ^ c else 0).sum := by
  rw [State.channelsOf, sum_map_filter_eq]
  simp only [State.ownedBy, decide_eq_true_eq]

/-- What STATUS says of an address (R158, and the presence codes of 8.2). -/
theorem statusPeer_eq (s : State) (a : Nat) : s.statusPeer a =
    if a = s.address then [0#8, 0#8, 0#8, 0xFF#8, 0xFF#8]
    else [if (s.peer a).presence = .unknown then 1#8 else if (s.peer a).presence = .present then 2#8 else 3#8] ++
      be16 (s.peer a).framesHeard ++
      (match (s.peer a).directory with
        | none => [0xFF#8, 0xFF#8]
        | some d => [byte d.condition.code, if d.noConfig then 1#8 else 0#8]) := by
  have hpresence : byte (s.peer a).presence.code =
      if (s.peer a).presence = .unknown then 1#8 else if (s.peer a).presence = .present then 2#8 else 3#8 := by
    cases (s.peer a).presence <;> rfl
  unfold State.statusPeer
  refine if_congr Iff.rfl rfl ?_
  dsimp only
  rw [hpresence]
  cases (s.peer a).directory with
  | none => rfl
  | some d =>
    dsimp only
    rw [byte_bit]

theorem statusPort_eq (p : Port) (s : State) : s.statusPort p =
    [byte s.address, byte s.condition.code, if s.noConfig then 1#8 else 0#8] ++
      padTo 16 (match s.store.image with | none => [] | some i => i.name) ++
      be32 (min 4294967295 (s.clock / 1000)) ++ [if (s.port p).attached then 1#8 else 0#8] ++
      padTo 8 ((s.port p).label.getD []) ++
      [byte (statusFlags (s.port p).flags (s.notices p).lost), if (s.port p).stream.isOn then 1#8 else 0#8,
        byte (s.port p).stream.period,
        byte (((List.range 6).map fun c => if (s.channel c).owner = .port p then 2 ^ c else 0).sum)] := by
  simp only [State.statusPort, byte_bit, channelBits_eq, satAt] <;> rfl

/-! ### The request -/

section

variable {p : Port} {clear : Byte} {s : State}

/-- The five parts of a STATUS response (R158). -/
def State.statusParts (s : State) (p : Port) : List (List Byte) :=
  [[0x0E#8, 0#8, 1#8, 5#8] ++ s.statusPort p, [0x0E#8, 0#8, 2#8, 5#8] ++ s.statusRiser,
    [0x0E#8, 0#8, 3#8, 5#8] ++ s.statusCounters, [0x0E#8, 0#8, 4#8, 5#8] ++ s.statusPeers 1 31,
    [0x0E#8, 0#8, 5#8, 5#8] ++ s.statusPeers 32 31]

theorem serveStatus_hunting (clear : Nat) : serveStatus p clear (s.hunting p) =
    if clear = 1 then clearFlags p ((s.hunting p).answer p (s.statusParts p))
    else (s.hunting p).answer p (s.statusParts p) := by
  rw [serveStatus, statusPort_hunting, statusRiser_hunting, statusCounters_hunting, statusPeers_hunting,
    statusPeers_hunting]
  rfl

theorem dispatch_statusRefused (h : 1 < clear.toNat) :
    dispatch p { kind := 0x0E, body := [clear] } s = s.answer p [[0x0E#8, 0x41#8, 1#8, 1#8]] := by
  have hform : RequestKind.status.formatGood [clear] = false := by
    show (decide (1 = 1) && decide (clear.toNat ≤ 1)) = false
    rw [decide_eq_false (Nat.not_le.mpr h), Bool.and_false]
  show (if !RequestKind.status.formatGood [clear] then respond p 0x0E .format [] s else _) = _
  rw [hform]
  rfl

theorem dispatch_status (h : clear.toNat ≤ 1) :
    dispatch p { kind := 0x0E, body := [clear] } s = serveStatus p clear.toNat s := by
  have hform : RequestKind.status.formatGood [clear] = true := by
    show (decide (1 = 1) && decide (clear.toNat ≤ 1)) = true
    rw [decide_eq_true h]
    rfl
  exact dispatch_served (k := .status) rfl hform rfl

theorem exec_status {u : State} (h : Ready p s) (hd : dispatch p { kind := 0x0E, body := [clear] } (s.hunting p) = u)
    (hu : (u.port p).responseSlot ≠ []) : exec (.status p clear) s = .next (settle s u) :=
  crewEvent_ready h 0x0E (body := [clear]) (show 1 ≤ 299 by decide) hd (.inr hu)

theorem clearFlags_slot (p : Port) (s : State) : ((clearFlags p s).port p).responseSlot = (s.port p).responseSlot := by
  rw [clearFlags, State.modNotices_port, State.modPort_port]

end

end Sys2Proof.Machine

open Sys2Proof Sys2Proof.Machine

/-- Settles O59: the request is served while the receiver hunts, and the parts are those of the state found. -/
theorem statusReportsStation : Obligations.StatusReportsStation := by
  intro p clear s h u q l b m counter peers hready hl hb hm hh hq hcounter hpeers hu
  subst hl hb hm hh hq hcounter hpeers
  have hparts : u = (s.hunting p).answer p (s.statusParts p) := by
    rw [hu, State.statusParts, statusPort_eq]
    simp only [State.statusPeers, statusPeer_eq]
    rfl
  have hslot : (((s.hunting p).answer p (s.statusParts p)).port p).responseSlot ≠ [] := by
    rw [State.answer_slot]
    exact List.cons_ne_nil _ _
  rw [hparts]
  refine ⟨fun hclear => ?_, fun hclear => ?_, fun hclear => ?_⟩
  · refine exec_status hready (dispatch_statusRefused hclear) ?_
    rw [State.answer_slot]
    exact List.cons_ne_nil _ _
  · subst hclear
    exact exec_status hready ((dispatch_status (clear := 0#8) (Nat.zero_le 1)).trans (serveStatus_hunting 0)) hslot
  · subst hclear
    refine exec_status hready ((dispatch_status (clear := 1#8) (Nat.le_refl 1)).trans (serveStatus_hunting 1)) ?_
    show ((clearFlags p _).port p).responseSlot ≠ []
    rw [clearFlags_slot]
    exact hslot

end

section
/-! SUPPORT. What the commands but the resets leave of the plan store: its bytes in canonical form (6.1), and, outside a start-up
read, all that the store-ready event fixes (R104 to R107). -/

namespace Sys2Proof.Machine

open Sys2Proof

/-! ### What is kept -/

/-- What the store-ready event fixes (R56, R104, R105, R106). -/
structure FixedImages where
  ready : Bool
  image : Option HeaderImage
  sheets : List SheetRecord
  counts : DirectoryCounts
  noConfig : Bool
  own : Option OwnHoldings

def State.fixedImages (s : State) : FixedImages where
  ready := s.store.ready
  image := s.store.image
  sheets := s.store.sheets
  counts := s.store.counts
  noConfig := s.noConfig
  own := s.holders.own

/-- Between `s` and `t` no reset has taken effect: the bytes stay canonical, no start-up read has begun that was not in progress
before, and where none was, what the store-ready event fixes has stayed. -/
structure PlanKept (s t : State) : Prop where
  memory : MemoryLaw s → MemoryLaw t
  startup : t.store.access.isStartup = true → s.store.access.isStartup = true
  images : s.store.access.isStartup = false → t.fixedImages = s.fixedImages

theorem PlanKept.refl (s : State) : PlanKept s s := ⟨id, id, fun _ => rfl⟩

namespace PlanKept

variable {s t u : State}

theorem trans (h : PlanKept s t) (g : PlanKept t u) : PlanKept s u where
  memory := g.memory ∘ h.memory
  startup := h.startup ∘ g.startup
  images hs := by
    have ht : t.store.access.isStartup = false :=
      Bool.eq_false_iff.mpr fun ht => Bool.false_ne_true (hs.symm.trans (h.startup ht))
    exact (g.images ht).trans (h.images hs)

/-- The channels, the link, the ports, the notices and the store reader leave what is kept. -/
theorem blind (s : State) : Blind (PlanKept s) where
  ste _ _ h := h.trans ⟨id, id, fun _ => rfl⟩
  rlc _ _ h := h.trans ⟨id, id, fun _ => rfl⟩
  port p _ _ h := by cases p <;> exact h.trans ⟨id, id, fun _ => rfl⟩
  notices p _ _ h := by cases p <;> exact h.trans ⟨id, id, fun _ => rfl⟩
  store f t hf h := by
    refine h.trans ⟨fun hm => ?_, hf.startup, fun _ => ?_⟩
    · exact (congrArg Memory.wf hf.memory).trans hm
    · simp only [State.fixedImages, State.modStore_store, hf.ready, hf.image, hf.sheets, hf.counts, State.modStore_noConfig,
        State.modStore_holders]

section

variable (h : PlanKept s t)

include h

/-- A change that the store, NO_CONFIG and the own holdings take no part in. -/
theorem same (hstore : u.store = t.store) (hconfig : u.noConfig = t.noConfig) (hown : u.holders.own = t.holders.own) :
    PlanKept s u := by
  refine h.trans ⟨fun hm => ?_, fun ha => ?_, fun _ => ?_⟩
  · rwa [MemoryLaw, hstore]
  · rwa [hstore] at ha
  · simp only [State.fixedImages, hstore, hconfig, hown]

theorem picture (g : RestKept t u) : PlanKept s u := h.same g.store g.noConfig (congrArg (·.own) g.holders)

theorem tables (g : OnlyTables t u) : PlanKept s u := h.same g.store (congrArg (·.noConfig) g.rest :) g.own

theorem rlc (f : RiserLink → RiserLink) : PlanKept s (t.modRlc f) := (blind s).rlc f t h

theorem port (p : Port) (f : CrewPort → CrewPort) : PlanKept s (t.modPort p f) := (blind s).port p f t h

theorem notices (p : Port) (f : NoticeController → NoticeController) : PlanKept s (t.modNotices p f) :=
  (blind s).notices p f t h

theorem store {f : PlanStore → PlanStore} (hf : t.store.Lasts (f t.store)) : PlanKept s (t.modStore f) :=
  (blind s).store f t hf h

theorem peers (f : PeerTable → PeerTable) : PlanKept s (t.modPeers f) := h.same rfl rfl rfl

theorem reports (f : TowerPicture → TowerPicture) : PlanKept s (t.modPicture f) := h.same rfl rfl rfl

theorem marks (f : MarkCounts → MarkCounts) : PlanKept s (t.modMarks f) := h.same rfl rfl rfl

theorem channel (c : Nat) (k : Channel) : PlanKept s (t.setChannel c k) := blind_setChannel (blind s) c k h

theorem modChannel (c : Nat) (f : Channel → Channel) : PlanKept s (t.modChannel c f) := blind_modChannel (blind s) c f h

theorem setBuffer (b : Nat) (x : TileBuffer) : PlanKept s (t.setBuffer b x) := blind_setBuffer (blind s) b x h

theorem counted (f : TransferCounters → TransferCounters) : PlanKept s (t.countTransfers f) :=
  blind_countTransfers (blind s) f h

theorem countLink (f : LinkCounters → LinkCounters) : PlanKept s (t.countLink f) := blind_countLink (blind s) f h

theorem closeChannel (c : Nat) : PlanKept s (closeChannel c t) := blind_closeChannel (blind s) c h

theorem submitRefuse (dest tag : Nat) (reason : RefuseReason) : PlanKept s (submitRefuse dest tag reason t) :=
  blind_submitRefuse (blind s) dest tag reason h

theorem claimBuffers (c n : Nat) : PlanKept s (claimBuffers c n t) := blind_claimBuffers (blind s) c n h

theorem bufferOver (b : Nat) : PlanKept s (bufferOver b t) := blind_bufferOver (blind s) b h

theorem moveNext (c : Nat) (cancel : Bool) : PlanKept s (moveNext c cancel t) := blind_moveNext (blind s) c cancel h

theorem gapEvent (c : Nat) : PlanKept s (gapEvent c t) := blind_gapEvent (blind s) c h

theorem settle (before : State) : PlanKept s (settle before t) := blind_settle (blind s) before h

/-! ### The riser link -/

theorem beginTransmission (source : TxSource) (frame : Option Frame) (more : Bool) :
    PlanKept s (beginTransmission source frame more t) := h.same rfl rfl rfl

theorem beginTile (c : Nat) : PlanKept s (beginTile c t) := by
  unfold Machine.beginTile
  split
  · exact h
  · exact h.beginTransmission ..

theorem beginClass (k : AccessClass) : PlanKept s (beginClass k t) := by
  unfold Machine.beginClass
  split
  · exact h.beginTransmission ..
  · unfold beginControl
    split
    · exact h
    · exact h.beginTransmission ..
  · split
    · exact h
    · exact h.beginTile _
  · split <;> exact h.beginTransmission ..

theorem startMoment (offset : Nat) : PlanKept s (startMoment offset t) := by
  unfold Machine.startMoment
  split
  · refine kept_ite ?_ h
    split
    · exact h.beginClass _
    · exact h.rlc _
  · exact h

theorem burstContinues : PlanKept s (burstContinues t) := by
  unfold Machine.burstContinues
  split
  · exact kept_ite ((h.rlc _).beginTile _) (h.rlc _)
  · exact h

theorem idleRoundBegins : PlanKept s (idleRoundBegins t) := by
  unfold Machine.idleRoundBegins
  split
  · exact h.rlc _
  all_goals exact h

theorem lineActive : PlanKept s (lineActive t) := by
  unfold Machine.lineActive
  split
  · exact h.rlc _
  all_goals exact h

theorem dominantSensed : PlanKept s (dominantSensed t) := by
  unfold Machine.dominantSensed
  split
  · exact h
  · exact h.rlc _

theorem receiveFailure (bytes : List LineByte) : PlanKept s (receiveFailure bytes t) := by
  unfold Machine.receiveFailure
  split
  · exact h
  · exact kept_ite (h.rlc _) h

theorem cutTransmission : PlanKept s (cutTransmission t) := by
  unfold Machine.cutTransmission
  split
  · exact h.rlc _
  · dsimp only
    split
    · exact kept_ite (h.rlc _) ((h.rlc _).bufferOver _)
    · exact h.rlc _

theorem tellNoPath (e : ControlEntry) : PlanKept s (tellNoPath t e) := by
  unfold Machine.tellNoPath
  split
  · exact h.marks _
  · exact kept_ite (blind_channelNoPath (blind s) _ (h.counted _)) (h.counted _)
  · exact h.counted _
  · exact h.counted _

theorem onset (b : Block) : PlanKept s (onset b t) := by
  refine blind_notifyBoth (blind s) _ (List.foldlRecOn _ abandonService ?_ fun _ hv _ _ => kept_ite (hv.closeChannel _) hv)
  exact List.foldlRecOn _ _ ((h.rlc _).cutTransmission.rlc _) fun _ hv e _ => hv.tellNoPath e

theorem silenceAt (n : Nat) : PlanKept s (silenceAt n t) := kept_ite (h.onset .silenced) h

theorem duplicateEvent : PlanKept s (duplicateEvent t) :=
  kept_ite ((h.countLink _).rlc _) ((((h.countLink _).rlc _).onset _).silenceAt _)

theorem guardCut : PlanKept s (guardCut t) := by
  unfold Machine.guardCut
  split
  · exact h
  · exact kept_ite ((((h.countLink _).rlc _).onset _).silenceAt _) h

theorem controlSent : PlanKept s (controlSent t) := by
  unfold Machine.controlSent
  split
  · exact h
  · dsimp only
    split
    · exact kept_ite (h.rlc _) ((h.rlc _).modChannel ..)
    all_goals exact h.rlc _

theorem tileSent (c b : Nat) (x : Transmission) : PlanKept s (tileSent c b x t) :=
  kept_ite (kept_ite ((((((h.rlc _).setBuffer ..).channel ..).counted _).closeChannel c)) (((h.rlc _).setBuffer ..).channel ..))
    ((h.rlc _).bufferOver b)

theorem completeTransmission : PlanKept s (completeTransmission t) := by
  unfold Machine.completeTransmission
  split
  · exact h
  · split
    · exact h.rlc _
    · unfold holdingSent
      split
      · exact (h.rlc _).rlc _
      · exact (h.rlc _).rlc _
      · exact (h.rlc _).controlSent
      · exact (h.rlc _).tileSent ..
      · exact h.rlc _

theorem holdingAbandoned (x : Transmission) : PlanKept s (holdingAbandoned x t) := by
  unfold Machine.holdingAbandoned
  split
  · exact h.rlc _
  · exact kept_ite h (h.bufferOver _)
  all_goals exact h

theorem abandonAttempt : PlanKept s (abandonAttempt t) := by
  unfold Machine.abandonAttempt
  split
  · exact h
  · split
    · exact h
    · exact kept_ite ((((h.rlc _).holdingAbandoned _).rlc _).rlc _ |>.onset _) ((h.rlc _).holdingAbandoned _)

/-! ### Frames -/

theorem receiveFrame (f : Frame) {act : State → State} (hact : ∀ v, PlanKept s v → PlanKept s (act v)) :
    PlanKept s (receiveFrame f act t) := by
  have hends := h.rlc (RiserLink.frameEnds f)
  refine kept_ite ?_ h
  exact kept_ite hends.duplicateEvent (kept_ite (hends.countLink _) (kept_ite (hends.countLink _)
    (kept_ite (hact _ (hends.countLink _)) ((hends.countLink _).peers _))))

theorem frameHeard (x : Nat) (content : FrameContent) : PlanKept s (frameHeard x content t) :=
  (h.tables (onlyTables_formedClaims x content t)).picture (restKept_frameHeard x content t)

theorem takeZoneState (x : Nat) (payload : List Byte) : PlanKept s (takeZoneState x payload t) :=
  kept_ite (h.frameHeard ..) ((h.frameHeard ..).reports _)

theorem takeDirectory (x : Nat) (payload : List Byte) : PlanKept s (takeDirectory x payload t) :=
  kept_ite (h.frameHeard ..) ((h.frameHeard ..).peers _)

theorem takeMark (x : Nat) (p : List Byte) : PlanKept s (takeMark x p t) := by
  have hcounted : ∀ f, PlanKept s (countedMark x f t) := fun f => (h.frameHeard x .other).marks f
  unfold Machine.takeMark
  split
  · exact hcounted _
  · exact kept_ite (kept_ite (h.frameHeard ..) (hcounted _))
      (kept_ite (h.frameHeard ..) (kept_ite (h.frameHeard ..) (h.frameHeard ..)))

theorem replaceService (c x : Nat) (p : List Byte) (r : SheetRecord) : PlanKept s (replaceService c x p r t) := by
  have hcut := (blind_discardTiles (blind s) c (fun _ => true) (blind_withdrawReads (blind s) c h)).rlc (RiserLink.orphan c)
  refine kept_ite ((hcut.channel ..).claimBuffers ..) ?_
  unfold keepOneBuffer
  split
  · split
    · exact hcut.channel ..
    · exact (hcut.channel ..).setBuffer ..
  · exact hcut.channel ..

theorem takeSheetRequest (x : Nat) (p : List Byte) : PlanKept s (takeSheetRequest x p t) := by
  unfold Machine.takeSheetRequest
  refine kept_ite (h.counted _) ?_
  split
  · exact h.submitRefuse ..
  · unfold newService
    split
    · exact h.submitRefuse ..
    · exact kept_ite (h.submitRefuse ..) ((h.channel ..).claimBuffers ..)
  · exact (h.closeChannel _).submitRefuse ..
  · exact h.replaceService ..

theorem takeSheetCancel (x : Nat) (p : List Byte) : PlanKept s (takeSheetCancel x p t) := by
  unfold Machine.takeSheetCancel
  split
  · exact h.closeChannel _
  · exact h.counted _

theorem takeSheetTile (x : Nat) (p : List Byte) : PlanKept s (takeSheetTile x p t) := by
  have hstray : PlanKept s (strayTile t) := h.counted _
  unfold Machine.takeSheetTile
  refine kept_ite hstray ?_
  split
  · exact hstray
  · refine kept_ite ?_ (kept_ite (hstray.gapEvent _) hstray)
    unfold acceptTile
    split
    · exact h
    · exact (h.setBuffer ..).modChannel ..

theorem takeSheetRefuse (x : Nat) (p : List Byte) : PlanKept s (takeSheetRefuse x p t) := by
  unfold Machine.takeSheetRefuse
  dsimp only
  split
  · exact kept_ite (kept_ite (kept_ite (h.modChannel ..) (h.moveNext ..)) ((h.modChannel ..).moveNext ..)) (h.counted _)
  · exact h.counted _

theorem silenceExpiry (x : Nat) : PlanKept s (silenceExpiry x t) := by
  have hlost : PlanKept s (peerLost x t) := (h.tables (onlyTables_lossTold x t)).picture (restKept_peerLost x t)
  refine kept_ite (List.foldlRecOn _ (loseRequester x) (List.foldlRecOn _ (loseHolder x) hlost ?_) ?_) h
  · exact fun _ hv c _ => kept_ite (hv.moveNext c false) hv
  · exact fun _ hv c _ => kept_ite (hv.closeChannel c) hv

end

end PlanKept

end Sys2Proof.Machine
end

section
/-! SUPPORT. What the crew requests, the plan store's own commands and the samples leave of the plan store; and the two laws of
the plan store over every command (6.1, R106, R107). -/

namespace Sys2Proof.Machine

open Sys2Proof

namespace PlanKept

/-- A crew request answered in one of two ways. -/
theorem answerIte {s : State} {c : Prop} [Decidable c] {x y : State × Result × List Byte} (hx : PlanKept s x.1)
    (hy : PlanKept s y.1) : PlanKept s (if c then x else y).1 :=
  kept_ite (Q := fun r : State × Result × List Byte => PlanKept s r.1) hx hy

variable {s t u : State} (h : PlanKept s t)

include h

/-! ### Crew requests -/

theorem submitMark (payload : List Byte) : PlanKept s (submitMark payload t) :=
  rlc (kept_ite h (h.marks _)) (RiserLink.submit .mark 63 payload .mark)

theorem setAttendance (f : Nat) (list : List Attendance) : PlanKept s (setAttendance f list t) :=
  h.picture (restKept_setAttendance f list t)

theorem acceptAttendOff (p : Port) (label : Text) (f : Nat) : PlanKept s (acceptAttendOff p label f t) :=
  submitMark (kept_ite (h.setAttendance ..) h) _

theorem cancelChannel (p : Port) (c : Nat) : PlanKept s (cancelChannel p c t) :=
  port (closeChannel (blind_withdrawRequest (blind s) c (kept_ite (blind_submitCancel (blind s) c h) h)) c) p _

theorem leavePort (p : Port) : PlanKept s (leavePort p t) := by
  have hwithdrawn : PlanKept s (withdrawAttendance p t) := by
    unfold withdrawAttendance
    split
    · exact h
    · exact List.foldlRecOn _ _ h fun _ hv f _ => kept_ite (hv.acceptAttendOff p _ f) hv
  exact notices (List.foldlRecOn _ (cancelOwned p) hwithdrawn fun _ hv c _ => kept_ite (hv.cancelChannel p c) hv) p _

theorem portReset (p : Port) : PlanKept s (portReset p t) :=
  kept_ite (((h.leavePort p).port p _).store (PlanStore.lasts_discardResponses _)) ((h.leavePort p).port p _)

theorem respond (p : Port) (kind : Nat) (result : Result) (fields : List Byte) :
    PlanKept s (respond p kind result fields t) := h.port p _

theorem takeSheet (p : Port) (floor kind first last revision : Nat) :
    PlanKept s (takeSheet p floor kind first last revision t).1 := by
  have htag : PlanKept s (t.modSte fun e => { e with tagCounter := t.nextTag }) := (blind s).ste _ t h
  refine answerIte h (answerIte h ?_)
  split
  · exact h
  · refine answerIte h (answerIte h (answerIte h ?_))
    dsimp only
    split
    · exact htag
    · exact answerIte htag (blind_enterSource (blind s) _ _ (htag.channel ..))

theorem takeAck (p : Port) (station line change : Nat) : PlanKept s (takeAck p station line change t).1 := by
  have hack : ∀ label, PlanKept s (acceptAck p label station line change t) := fun label =>
    (h.picture (restKept_placeAck ..)).submitMark _
  unfold Machine.takeAck
  dsimp only
  split
  · exact h
  · refine answerIte h (answerIte h (answerIte h (answerIte h ?_)))
    split
    · exact h
    · exact hack _

theorem takeAttendOn (p : Port) (f : Nat) : PlanKept s (takeAttendOn p f t).1 := by
  unfold Machine.takeAttendOn
  dsimp only
  split
  · exact h
  · exact answerIte h ((h.setAttendance ..).submitMark _)

theorem takeAttendOff (p : Port) (f : Nat) : PlanKept s (takeAttendOff p f t).1 := by
  unfold Machine.takeAttendOff
  dsimp only
  split
  · exact h
  · exact answerIte h (h.acceptAttendOff p _ f)

theorem acceptOperation (kind : Nat) (op : MaintOp) (p : Port) : PlanKept s (acceptOperation kind op p t) :=
  kept_ite (h.respond ..) (h.store ⟨rfl, rfl, rfl, rfl, rfl, id⟩)

theorem serveAttach (p : Port) (body : List Byte) : PlanKept s (serveAttach p body t) :=
  kept_ite (respond (kept_ite (h.port p _) ((h.port p _).notices p _)) ..) (h.respond ..)

theorem serveFinish (p : Port) (level : Nat) : PlanKept s (serveFinish p level t) := by
  unfold Machine.serveFinish
  split
  · exact h.respond ..
  · unfold finishRecord
    exact ((h.notices p _).respond ..).notices p _

theorem serveStreamOn (p : Port) (period : Nat) : PlanKept s (serveStreamOn p period t) :=
  respond (kept_ite (h.port p _) (blind_startPass (blind s) p (h.port p _))) ..

theorem serveStatus (p : Port) (clear : Nat) : PlanKept s (serveStatus p clear t) :=
  kept_ite (((h.port p _).port p _).notices p _) (h.port p _)

/-- A request handed to the block that serves it (R151). -/
theorem serveKind (p : Port) (body : List Byte) (k : RequestKind) : PlanKept s (serveKind p body t k) := by
  cases k with
  | attach => exact h.serveAttach ..
  | detach => exact ((h.leavePort p).port p _).respond ..
  | picture => exact kept_ite (h.port p _) (h.respond ..)
  | floor =>
    simp only [Machine.serveKind, serveFloor]
    exact notices (h.port p _) p _
  | watch => exact (h.notices p _).respond ..
  | sheet => exact (h.takeSheet ..).respond ..
  | cancel =>
    exact respond (answerIte (h.cancelChannel p _) h) ..
  | ack => exact (h.takeAck ..).respond ..
  | attend =>
    exact respond (answerIte (h.takeAttendOn p _)
      (h.takeAttendOff p _)) ..
  | peek =>
    simp only [Machine.serveKind, servePeek]
    split <;> exact h.respond ..
  | finish => exact h.serveFinish ..
  | mask => exact (h.notices p _).respond ..
  | stream => exact kept_ite (h.serveStreamOn ..) ((h.port p _).respond ..)
  | status => exact h.serveStatus ..
  | storeWrite => exact kept_ite (h.respond ..) (h.acceptOperation ..)
  | storeErase => exact kept_ite (h.respond ..) (h.acceptOperation ..)
  | storeCheck => exact h.acceptOperation ..

theorem dispatch (p : Port) (r : Request) : PlanKept s (dispatch p r t) := by
  unfold Machine.dispatch
  split
  · exact h.respond ..
  · exact kept_ite (h.respond ..) (kept_ite (h.respond ..) (h.serveKind ..))

theorem takeRequests (p : Port) (n : Nat) : PlanKept s (takeRequests p n t) := by
  induction n generalizing t with
  | zero => exact h
  | succ n ih =>
    unfold Machine.takeRequests
    split
    · exact ih (dispatch (h.port p _) p _)
    · exact h

theorem crewRequest (p : Port) (kind : Byte) (body : List Byte) : PlanKept s (crewRequest p kind body t) :=
  kept_ite (kept_ite ((h.port p _).port p _) (((h.port p _).port p _).takeRequests p _)) h

theorem messageReceived (p : Port) (kind : Byte) (body : List Byte) (check : Half) :
    PlanKept s (messageReceived p kind body check t) := kept_ite (kept_ite (h.port p _) (h.crewRequest ..)) h

theorem framingFailure (p : Port) : PlanKept s (framingFailure p t) := kept_ite (h.port p _) h

theorem lengthFault (p : Port) (n : Nat) : PlanKept s (lengthFault p n t) :=
  kept_ite (h.framingFailure p) (kept_ite (h.port p _) h)

theorem sourceSent (p : Port) (m : OutMessage) : PlanKept s (sourceSent p m t) := by
  unfold Machine.sourceSent
  split
  · exact h.port p _
  · exact h.port p _
  · exact h
  · exact h
  · exact kept_ite (h.modChannel ..) h
  · refine kept_ite ?_ h
    unfold sheetEndSent
    split
    · exact h
    · exact closeChannel (blind_transferEvent (blind s) _ _ h) _
  · exact h

theorem endMessage (p : Port) : PlanKept s (endMessage p t) := by
  unfold Machine.endMessage
  split
  · exact h
  · exact ((h.port p _).sourceSent p _).takeRequests p _

/-! ### The plan store -/

theorem storeResult (discard : Bool) (kind : Nat) (result : Result) (fields : List Byte) :
    PlanKept s (storeResult discard kind result fields t) := kept_ite h (h.port .a _)

theorem beginAccess : PlanKept s (beginAccess t) := by
  unfold Machine.beginAccess
  refine kept_ite ?_ h
  split
  · exact kept_ite (h.store (PlanStore.lasts_start ..)) h
  · exact h.store (PlanStore.lasts_start ..)

theorem tileReadEnds (r : TileRead) (withdrawn : Bool) (data : Option (List Byte)) :
    PlanKept s (tileReadEnds r withdrawn data t) := by
  have hfree : PlanKept s (t.modStore fun p => { p with access := .free }) :=
    h.store ⟨rfl, rfl, rfl, rfl, rfl, fun ha => Bool.noConfusion ha⟩
  exact kept_ite (hfree.beginAccess.bufferOver _) (blind_readResult (blind s) _ _ hfree.beginAccess)

theorem tileTooLate (r : TileRead) (withdrawn : Bool) : PlanKept s (tileTooLate r withdrawn t) :=
  tileReadEnds (h.store ⟨rfl, rfl, rfl, rfl, rfl, id⟩) ..

theorem tileDelivered (r : TileRead) (withdrawn : Bool) : PlanKept s (tileDelivered r withdrawn t) := by
  refine tileReadEnds (h.store ?_) ..
  unfold PlanStore.countRead
  split <;> exact ⟨rfl, rfl, rfl, rfl, rfl, id⟩

theorem tileReadTimeout : PlanKept s (tileReadTimeout t) := by
  unfold Machine.tileReadTimeout
  split
  · exact kept_ite (h.tileTooLate ..) h
  · exact h

/-- The flash holds other bytes when an operation ends, in canonical form again (R113, R114). -/
theorem flash {m : Memory} (hm : MemoryLaw t → m.wf = true) : PlanKept s (t.modStore (PlanStore.operationOver m)) :=
  h.trans ⟨hm, fun ha => Bool.noConfusion ha, fun _ => rfl⟩

theorem flashDrawn {m : Memory} (hm : MemoryLaw t → m.wf = true) (n : Nat) :
    PlanKept s { t.modStore (PlanStore.operationOver m) with draws := n } :=
  h.trans ⟨hm, fun ha => Bool.noConfusion ha, fun _ => rfl⟩

theorem writeFaulted (offset : Nat) (data : List Byte) (discard : Bool) : PlanKept s (writeFaulted offset data discard t) :=
  storeResult (h.flashDrawn (Memory.timeoutWrite_wf _ _ _) _) ..

theorem eraseFaulted (block : Nat) (discard : Bool) : PlanKept s (eraseFaulted block discard t) :=
  storeResult (h.flashDrawn (Memory.timeoutErase_wf _ _) _) ..

theorem writeCompleted (offset : Nat) (data : List Byte) (discard : Bool) :
    PlanKept s (writeCompleted offset data discard t) := by
  have hover := h.flash (Memory.program_wf offset data)
  unfold Machine.writeCompleted
  dsimp only
  split <;> exact hover.storeResult ..

theorem storeWriteDone : PlanKept s (storeWriteDone t) := by
  unfold Machine.storeWriteDone
  split
  · exact kept_ite (h.writeCompleted ..) (h.writeFaulted ..)
  · exact h

theorem storeWriteTimeout : PlanKept s (storeWriteTimeout t) := by
  unfold Machine.storeWriteTimeout
  split
  · exact kept_ite (h.writeFaulted ..) h
  · exact h

theorem storeEraseDone : PlanKept s (storeEraseDone t) := by
  unfold Machine.storeEraseDone
  split
  · exact kept_ite ((h.flash (Memory.eraseBlock_wf _)).storeResult ..) (h.eraseFaulted ..)
  · exact h

theorem storeEraseTimeout : PlanKept s (storeEraseTimeout t) := by
  unfold Machine.storeEraseTimeout
  split
  · exact kept_ite (h.eraseFaulted ..) h
  · exact h

theorem checkReadEnds (slot : Option Nat) (x : StoreScan) (discard : Bool) (bytes : Option (List Byte)) :
    PlanKept s (checkReadEnds slot x discard bytes t) := by
  unfold Machine.checkReadEnds
  dsimp only
  split
  · exact h.store ⟨rfl, rfl, rfl, rfl, rfl, fun ha => Bool.noConfusion ha⟩
  · exact storeResult (h.store ⟨rfl, rfl, rfl, rfl, rfl, fun ha => Bool.noConfusion ha⟩) ..

theorem storeCheckReadDone : PlanKept s (storeCheckReadDone t) := by
  unfold Machine.storeCheckReadDone
  split
  · exact h.checkReadEnds ..
  · exact h

theorem storeCheckReadTimeout : PlanKept s (storeCheckReadTimeout t) := by
  unfold Machine.storeCheckReadTimeout
  split
  · exact kept_ite (h.checkReadEnds ..) h
  · exact h

/-! ### Start-up and samples -/

/-- A start-up read ends: what the store-ready event fixes is not fixed before it (R103, R106). -/
theorem startupReadEnds (ha : t.store.access.isStartup = true) (slot : Option Nat) (x : StoreScan)
    (bytes : Option (List Byte)) : PlanKept s (startupReadEnds slot x bytes t) := by
  refine h.trans ⟨?_, fun _ => ha, fun hnone => Bool.noConfusion (ha.symm.trans hnone)⟩
  unfold Machine.startupReadEnds
  dsimp only
  split
  · exact id
  · intro hm
    rw [MemoryLaw, storeReady_readied, samplingReady_store, (readied_rest ..).store]
    exact hm

theorem headerReadDone : PlanKept s (headerReadDone t) := by
  unfold Machine.headerReadDone
  split
  · rename_i ha
    exact h.startupReadEnds (congrArg FlashAccess.isStartup ha) ..
  · exact h

theorem slotReadDone : PlanKept s (slotReadDone t) := by
  unfold Machine.slotReadDone
  split
  · rename_i ha
    exact h.startupReadEnds (congrArg FlashAccess.isStartup ha) ..
  · exact h

theorem startupReadTimeout : PlanKept s (startupReadTimeout t) := by
  unfold Machine.startupReadTimeout
  split
  · rename_i ha
    exact kept_ite (h.startupReadEnds (congrArg FlashAccess.isStartup ha) ..) h
  · exact h

theorem samplingReady : PlanKept s (samplingReady t) := by
  unfold Machine.samplingReady
  exact kept_ite (h.trans ⟨id, id, fun _ => rfl⟩) h

theorem evaluateLine (i : Nat) : PlanKept s (evaluateLine i t) := by
  unfold Machine.evaluateLine
  extract_lets old new
  rw [writeOwn_eq]
  exact picture (kept_ite ((h.picture (restKept_setLine i new t)).picture (restKept_markAlarm _))
    (h.picture (restKept_setLine i new t))) (restKept_pictureEvent ..)

theorem sampleLine (i v : Nat) : PlanKept s (sampleLine i v t) :=
  sampleLine_induction v h (h.picture (restKept_setLine ..)) fun _ hu _ => hu.evaluateLine i

theorem sampleMark (values : Vector (BitVec 10) 16) : PlanKept s (sampleMark values t) :=
  List.foldlRecOn _ (sampleEvent values) h fun v hv i _ => kept_ite ((hv.sampleLine i _).samplingReady.settle v) hv

theorem sampleWhen (i v : Nat) (test : LineRecord → LineClass → Bool) : PlanKept s (sampleWhen i v test t) := by
  unfold Machine.sampleWhen
  split
  · exact h
  · exact kept_ite (h.sampleLine i v).samplingReady h

end PlanKept

/-! ### The commands -/

section

variable {s t : State}

theorem planKept_event {f : State → State} (hf : PlanKept s (f s)) (he : event f s = .next t) : PlanKept s t := by
  cases he
  exact kept_ite (PlanKept.refl s) (hf.settle s)

theorem planKept_quietEvent {f : State → State} (hf : PlanKept s (f s)) (he : quietEvent f s = .next t) : PlanKept s t := by
  cases he
  exact kept_ite (PlanKept.refl s) hf

theorem planKept_tileReadEnd (he : execTileReadEnd s = .next t) : PlanKept s t := by
  have hs := PlanKept.refl s
  unfold execTileReadEnd at he
  split at he
  · split at he
    · split at he
      · cases he
      · exact planKept_event (hs.tileDelivered _ _) he
    · exact planKept_event (hs.tileTooLate _ _) he
  · cases he
    exact hs

/-- Every command but the two resets keeps the plan store. -/
theorem planKept_exec {c : Instr} (hreset : ∀ a m, c ≠ .reset a m) (hasserted : c ≠ .resetAsserted)
    (he : exec c s = .next t) : PlanKept s t := by
  have hs := PlanKept.refl s
  have frame : ∀ {kind origin dest payload} {act : State → State}, (∀ v, PlanKept s v → PlanKept s (act v)) →
      event (receiveFrame (frameOf kind origin dest payload) act) s = .next t → PlanKept s t :=
    fun hact => planKept_event (hs.receiveFrame _ hact)
  have request : ∀ {p kind body}, event (crewRequest p kind body) s = .next t → PlanKept s t :=
    planKept_event (hs.crewRequest _ _ _)
  cases c with
  | reset a m => exact absurd rfl (hreset a m)
  | resetAsserted => exact absurd rfl hasserted
  | headerReadDone => exact planKept_event hs.headerReadDone he
  | slotReadDone => exact planKept_event hs.slotReadDone he
  | startupReadTimeout => exact planKept_event hs.startupReadTimeout he
  | sample values => exact planKept_quietEvent (hs.sampleMark values) he
  | confirmTimerExpiry | troubleTimerExpiry | restoreTimerExpiry | normalHoldTimerExpiry | decayTimerExpiry =>
    exact planKept_event (hs.sampleWhen ..) he
  | joinListenEnd | duplicateHoldExpiry | babbleClear | lineClear =>
    exact planKept_quietEvent (kept_ite ((hs.rlc _).rlc _) hs) he
  | idleDetection | duplicateCountDecay | babbleCountDecay | refreshTimerExpiry | directoryTimerExpiry =>
    exact planKept_quietEvent (kept_ite (hs.rlc _) hs) he
  | idleRound => exact planKept_quietEvent hs.idleRoundBegins he
  | startMoment offset => exact planKept_quietEvent (hs.startMoment offset) he
  | transmissionComplete => exact planKept_event hs.completeTransmission he
  | attemptAbandoned => exact planKept_event hs.abandonAttempt he
  | burstContinuation => exact planKept_quietEvent hs.burstContinues he
  | dominantSensed => exact planKept_quietEvent hs.dominantSensed he
  | yieldMark => exact planKept_quietEvent (kept_ite ((hs.beginTransmission ..).rlc _) hs) he
  | transmitGuardCut => exact planKept_event hs.guardCut he
  | receiveFailure bytes => exact planKept_quietEvent (hs.receiveFailure bytes) he
  | lineActivity => exact planKept_quietEvent hs.lineActive he
  | zoneState cls origin dest payload => exact frame (fun _ hv => hv.takeZoneState ..) he
  | directory origin dest payload => exact frame (fun _ hv => hv.takeDirectory ..) he
  | sheetRequest origin dest payload => exact frame (fun _ hv => (hv.frameHeard ..).takeSheetRequest ..) he
  | sheetRefuse origin dest payload => exact frame (fun _ hv => (hv.frameHeard ..).takeSheetRefuse ..) he
  | sheetCancel origin dest payload => exact frame (fun _ hv => (hv.frameHeard ..).takeSheetCancel ..) he
  | sheetTile origin dest payload => exact frame (fun _ hv => (hv.frameHeard ..).takeSheetTile ..) he
  | markAck | markAttendOn | markAttendOff => exact frame (fun _ hv => hv.takeMark ..) he
  | silenceTimerExpiry peer => exact planKept_event (hs.silenceExpiry _) he
  | tileReadEnd => exact planKept_tileReadEnd he
  | tileReadTimeout => exact planKept_event hs.tileReadTimeout he
  | storeWriteDone => exact planKept_event hs.storeWriteDone he
  | storeWriteTimeout => exact planKept_event hs.storeWriteTimeout he
  | storeEraseDone => exact planKept_event hs.storeEraseDone he
  | storeEraseTimeout => exact planKept_event hs.storeEraseTimeout he
  | storeCheckReadDone => exact planKept_event hs.storeCheckReadDone he
  | storeCheckReadTimeout => exact planKept_event hs.storeCheckReadTimeout he
  | queueFullRetry channel => exact planKept_event (kept_ite (blind_submitRequest (PlanKept.blind s) _ hs) hs) he
  | responseTimerExpiry channel => exact planKept_event (kept_ite (hs.moveNext ..) hs) he
  | busyRetry channel =>
    exact planKept_event (kept_ite (blind_buildWindow (PlanKept.blind s) _ (hs.modChannel ..)) hs) he
  | gapTimerExpiry channel => exact planKept_event (kept_ite ((hs.modChannel ..).gapEvent _) hs) he
  | breakDetected port => exact planKept_event (kept_ite (hs.portReset port) hs) he
  | crewMessageReceived port kind body check => exact planKept_event (hs.messageReceived ..) he
  | receiveStall port => exact planKept_quietEvent (hs.framingFailure port) he
  | crewByteFramingError port => exact planKept_quietEvent (hs.framingFailure port) he
  | crewLengthFieldFault port length => exact planKept_quietEvent (hs.lengthFault port _) he
  | lineReturnedHigh port => exact planKept_quietEvent (kept_ite (hs.port port _) hs) he
  | streamPassStart port => exact planKept_event (kept_ite (blind_startPass (PlanKept.blind s) port hs) hs) he
  | messageEnd port => exact planKept_event (hs.endMessage port) he
  | storeWrite | storeErase | storeCheck | sheet | cancel | unknown | attach | detach | picture | floor | watch | ack
  | attendOn | attendOff | peek | finish | mask | streamOn | streamOff | status => exact request he

/-- What an abandoned access leaves in the flash is in canonical form (R116). -/
theorem PlanStore.abandoned_wf {p : PlanStore} (draw : Nat) (h : p.memory.wf = true) : (p.abandoned draw).wf = true := by
  unfold PlanStore.abandoned
  split
  · exact Memory.abandonWrite_wf _ _ _ h
  · exact Memory.abandonErase_wf _ _ h
  all_goals exact h

theorem memoryLaw_exec {c : Instr} (hs : MemoryLaw s) (he : exec c s = .next t) : MemoryLaw t := by
  by_cases hreset : (∀ a m, c ≠ .reset a m) ∧ c ≠ .resetAsserted
  · exact (planKept_exec hreset.1 hreset.2 he).memory hs
  · have habandoned := PlanStore.abandoned_wf s.draws hs
    cases c with
    | reset a m =>
      cases he
      exact habandoned
    | resetAsserted =>
      cases he
      exact habandoned
    | _ => exact absurd ⟨fun _ _ h => Instr.noConfusion h, fun h => Instr.noConfusion h⟩ hreset

end

end Sys2Proof.Machine

open Sys2Proof Sys2Proof.Machine

/-- Settles O6: the bytes change at the ends of writes and erases and at the resets alone, and each leaves canonical form. -/
theorem memoryStaysCanonical : Obligations.MemoryStaysCanonical := fun _ _ hs he =>
  kept_step (P := MemoryLaw) (fun _ _ h => h) (fun _ _ h => h) (fun _ _ _ => memoryLaw_exec) hs he

/-- Settles O17: a ready store is past its start-up reads, and no command but a reset begins one. -/
theorem readyStoreIsFixed : Obligations.ReadyStoreIsFixed := by
  intro c s t ⟨hreading, _, _⟩ hready hreset hasserted he
  have hnone : s.store.access.isStartup = false :=
    Bool.eq_false_iff.mpr fun h => Bool.noConfusion (hready.symm.trans (hreading h))
  have himages := (planKept_exec hreset hasserted he).images hnone
  have hsheets : t.store.sheets = s.store.sheets := congrArg (·.sheets) himages
  refine ⟨(congrArg (·.ready) himages).trans hready, congrArg (·.image) himages, hsheets, congrArg (·.counts) himages,
    congrArg (·.noConfig) himages, congrArg (·.own) himages, fun floor kind revision => ?_⟩
  rw [State.lookup, hsheets, State.lookup]

end

section
/-! SUPPORT. The lookup of the Sheet Directory (R107). -/

namespace Sys2Proof.Machine

open Sys2Proof

/-- The records of a directory that fit a floor, a kind and a revision, 0 meaning any (R107). -/
def fittingSheets (sheets : List SheetRecord) (floor kind revision : Nat) : List SheetRecord :=
  sheets.filter fun r =>
    decide (r.floor = floor) && decide (r.kind = kind) && (decide (revision = 0) || decide (r.revision = revision))

section

variable {sheets : List SheetRecord} {floor kind revision : Nat}

theorem mem_fittingSheets {r : SheetRecord} : r ∈ fittingSheets sheets floor kind revision ↔
    r ∈ sheets ∧ r.floor = floor ∧ r.kind = kind ∧ (revision = 0 ∨ r.revision = revision) := by
  simp [fittingSheets, and_assoc]

/-- The OWNER record of those that fit, otherwise the first of them. -/
theorem lookupSheet_eq : lookupSheet sheets floor kind revision =
    ((fittingSheets sheets floor kind revision).find? fun r => r.role == .owner).or
      (fittingSheets sheets floor kind revision).head? := by
  unfold lookupSheet fittingSheets
  dsimp only
  split <;> rename_i h <;> rw [h] <;> rfl

theorem lookupSheet_mem {r : SheetRecord} (h : lookupSheet sheets floor kind revision = some r) :
    r ∈ fittingSheets sheets floor kind revision := by
  rw [lookupSheet_eq, Option.or_eq_some_iff] at h
  rcases h with hfind | ⟨-, hhead⟩
  · exact List.mem_of_find?_eq_some hfind
  · exact List.mem_of_head? hhead

/-- An OWNER record that fits goes before every REPLICA record. -/
theorem lookupSheet_owner {q r : SheetRecord} (h : lookupSheet sheets floor kind revision = some r)
    (hq : q ∈ fittingSheets sheets floor kind revision) (howner : q.role = .owner) : r.role = .owner := by
  rw [lookupSheet_eq, Option.or_eq_some_iff] at h
  rcases h with hfind | ⟨hnone, -⟩
  · simpa using List.find?_some hfind
  · exact absurd (List.find?_eq_none.mp hnone q hq) (by simp [howner])

theorem lookupSheet_none : lookupSheet sheets floor kind revision = none ↔
    fittingSheets sheets floor kind revision = [] := by
  rw [lookupSheet_eq, Option.or_eq_none_iff, List.head?_eq_none_iff]
  exact ⟨And.right, fun h => ⟨by rw [h]; rfl, h⟩⟩

end

end Sys2Proof.Machine

open Sys2Proof Sys2Proof.Machine

/-- Settles O20: a lookup looks among the records that fit, the OWNER record first. -/
theorem lookupGives : Obligations.LookupGives := by
  refine fun sheets floor kind revision => ⟨fun r h => ?_, ?_⟩
  · obtain ⟨hmem, hfloor, hkind, hrevision⟩ := mem_fittingSheets.mp (lookupSheet_mem h)
    exact ⟨hmem, hfloor, hkind, hrevision, fun ⟨q, hq, hqfloor, hqkind, hqrevision, howner⟩ =>
      lookupSheet_owner h (mem_fittingSheets.mpr ⟨hq, hqfloor, hqkind, hqrevision⟩) howner⟩
  · rw [lookupSheet_none, List.eq_nil_iff_forall_not_mem]
    exact ⟨fun h q hq ⟨hfloor, hkind, hrevision⟩ => h q (mem_fittingSheets.mpr ⟨hq, hfloor, hkind, hrevision⟩),
      fun h q hq => by
        obtain ⟨hmem, hfits⟩ := mem_fittingSheets.mp hq
        exact h q hmem hfits⟩

end

section
/-! SUPPORT. The STORE requests (R112 to R115, R151): which port is served, what is refused, and what is accepted. -/

namespace Sys2Proof.Machine

open Sys2Proof

/-- A four-byte field read back (0.7). -/
theorem wordAt_be32 {n : Nat} (h : n < 4294967296) (l : List Byte) : wordAt (be32 n ++ l) 0 = n := by
  have hbyte : ∀ m, (byte m).toNat = m % 256 := fun m => BitVec.toNat_ofNat ..
  simp only [wordAt, halfAt, be32, be16, byteAt, List.cons_append, List.nil_append, List.getD_cons_zero,
    List.getD_cons_succ, hbyte]
  omega

/-- An operation waits or runs (R112). -/
theorem maintBusy_iff (q : PlanStore) : q.maintBusy = true ↔ q.waiting.isSome = true ∨
    (∃ o d b w, q.access = .write o d b w) ∨ (∃ k b w, q.access = .erase k b w) ∨ ∃ n x b w, q.access = .check n x b w := by
  unfold PlanStore.maintBusy
  rw [Bool.or_eq_true]
  cases q.access <;> simp

/-- A STORE request needs no label (8.2). -/
theorem needsLabel_store {k : RequestKind} (h : k.isStore = true) : k.needsLabel = false := by
  cases k <;> trivial

section

variable {p : Port} {s : State}

/-- The STORE requests are served at port A in maintenance mode alone (R112). -/
theorem kindServed_store {code : Nat} {k : RequestKind} (hcode : RequestKind.ofCode code = some k) (hstore : k.isStore = true) :
    (s.hunting p).kindServed p code = if s.maintenance = true ∧ p = .a then some k else none := by
  have hmaintenance : (s.hunting p).maintenance = s.maintenance := State.modPort_maintenance ..
  simp only [State.kindServed, hcode, hstore, hmaintenance, Bool.true_and]
  cases s.maintenance <;> cases p <;> rfl

theorem dispatch_unserved {r : Request} {s : State} (h : s.kindServed p r.kind.toNat = none) :
    dispatch p r s = respond p r.kind.toNat .unknown [] s := by
  unfold dispatch
  rw [h]

theorem dispatch_badFormat {r : Request} {s : State} {k : RequestKind} (hk : s.kindServed p r.kind.toNat = some k)
    (hform : k.formatGood r.body = false) : dispatch p r s = respond p r.kind.toNat .format [] s := by
  unfold dispatch
  simp only [hk, hform]
  rfl

/-- A request whose dispatch places a response of its port. -/
theorem crewEvent_answered (h : Ready p s) {kind : Byte} {body : List Byte} (hb : body.length ≤ 299)
    {parts : List (List Byte)} (hparts : parts ≠ [])
    (hd : dispatch p { kind := kind, body := body } (s.hunting p) = (s.hunting p).answer p parts) :
    event (crewRequest p kind body) s = .next (settle s ((s.hunting p).answer p parts)) :=
  crewEvent_ready h kind hb hd (.inr (by rwa [State.answer_slot]))

/-- A STORE request at another port or outside maintenance mode (R112). -/
theorem storeRequest_unknown (h : Ready p s) (hno : s.maintenance = false ∨ p = .b) {kind : Byte} {k : RequestKind}
    {body : List Byte} (hcode : RequestKind.ofCode kind.toNat = some k) (hstore : k.isStore = true)
    (hb : body.length ≤ 299) :
    event (crewRequest p kind body) s =
      .next (settle s ((s.hunting p).answer p [[byte kind.toNat, byte Result.unknown.code, 1#8, 1#8] ++ []])) := by
  refine crewEvent_answered h hb (List.cons_ne_nil _ _) (dispatch_unserved ?_)
  refine (kindServed_store hcode hstore).trans (if_neg fun ⟨hm, hp⟩ => ?_)
  rcases hno with hm' | hp'
  · exact Bool.noConfusion (hm.symm.trans hm')
  · exact Port.noConfusion (hp.symm.trans hp')

end

section

variable {s : State}

/-- A STORE request that port A hands to the Plan Store in maintenance mode. -/
theorem dispatch_store (hm : s.maintenance = true) {kind : Byte} {k : RequestKind} {body : List Byte}
    (hcode : RequestKind.ofCode kind.toNat = some k) (hstore : k.isStore = true) (hform : k.formatGood body = true) :
    dispatch .a { kind := kind, body := body } (s.hunting .a) = serveKind .a body (s.hunting .a) k :=
  dispatch_served ((kindServed_store hcode hstore).trans (if_pos ⟨hm, rfl⟩)) hform
    (needsLabel_store hstore)

/-- An accepted operation waits; it places no response (R112, R149). -/
theorem storeRequest_accepted (h : Ready .a s) (hfree : s.store.maintBusy = false) {kind : Byte} {body : List Byte} {code : Nat}
    {op : MaintOp} (hb : body.length ≤ 299)
    (hd : dispatch .a { kind := kind, body := body } (s.hunting .a) = acceptOperation code op .a (s.hunting .a)) :
    event (crewRequest .a kind body) s = .next (settle s { s.hunting .a with
      store := { s.store with waiting := some (op, false) } }) := by
  obtain ⟨hheld, hhears, hempty, hslot⟩ := h
  refine crewEvent_ready ⟨hheld, hhears, hempty, hslot⟩ kind hb (hd.trans ?_) (.inl hempty)
  exact if_neg (by rw [show (s.hunting .a).store = s.store from rfl, hfree]; exact Bool.false_ne_true)

/-- While an operation waits or runs the next is refused (R112). -/
theorem acceptOperation_busy (hbusy : s.store.maintBusy = true) (code : Nat) (op : MaintOp) :
    acceptOperation code op .a (s.hunting .a) = respond .a code .busy [] (s.hunting .a) :=
  if_pos hbusy

end

end Sys2Proof.Machine

open Sys2Proof Sys2Proof.Machine

/-- Settles O41: the port, then the form of the body, then the range of R113 and R114, then the operation in progress. -/
theorem storeRequestsTaken : Obligations.StoreRequestsTaken := by
  intro p offset data block s hready hdata
  have hlength : (be32 offset.toNat ++ data).length = data.length + 4 := by
    rw [List.length_append, Nat.add_comm]
    rfl
  have hwrite : (be32 offset.toNat ++ data).length ≤ 299 := by omega
  have herase : (be16 block.toNat).length ≤ 299 := show 2 ≤ 299 by decide
  have hcheck : ([] : List Byte).length ≤ 299 := Nat.zero_le 299
  refine ⟨fun hno => ⟨?_, ?_, ?_⟩, fun hm hp => ?_, maintBusy_iff s.store⟩
  · exact storeRequest_unknown hready hno (kind := 0x10#8) rfl rfl hwrite
  · exact storeRequest_unknown hready hno (kind := 0x11#8) rfl rfl herase
  · exact storeRequest_unknown hready hno (kind := 0x12#8) rfl rfl hcheck
  subst hp
  have hserveWrite : 1 ≤ data.length → data.length ≤ 256 →
      dispatch .a { kind := 0x10#8, body := be32 offset.toNat ++ data } (s.hunting .a) =
        if writeOutOfRange offset.toNat data.length then respond .a 0x10 .range [] (s.hunting .a)
        else acceptOperation 0x10 (.write offset.toNat data) .a (s.hunting .a) := fun hone hmost => by
    rw [dispatch_store hm (k := .storeWrite) rfl rfl (by simp [RequestKind.formatGood, hlength]; omega), serveKind,
      serveStoreWrite, wordAt_be32 offset.isLt]
    rfl
  have hserveErase : dispatch .a { kind := 0x11#8, body := be16 block.toNat } (s.hunting .a) =
      if 1023 < block.toNat then respond .a 0x11 .range [] (s.hunting .a)
      else acceptOperation 0x11 (.erase block.toNat) .a (s.hunting .a) := by
    have hhalf : halfAt (be16 block.toNat) 0 = block.toNat := by
      rw [← List.append_nil (be16 block.toNat), halfAt_be16 block.isLt]
    rw [dispatch_store hm (k := .storeErase) rfl rfl rfl, serveKind, serveStoreErase, hhalf]
  have hserveCheck : dispatch .a { kind := 0x12#8, body := [] } (s.hunting .a) =
      acceptOperation 0x12 .check .a (s.hunting .a) := dispatch_store hm (k := .storeCheck) rfl rfl rfl
  have hwrites : 1 ≤ data.length → offset.toNat + data.length ≤ 67108864 → offset.toNat % 256 + data.length ≤ 256 →
      dispatch .a { kind := 0x10#8, body := be32 offset.toNat ++ data } (s.hunting .a) =
        acceptOperation 0x10 (.write offset.toNat data) .a (s.hunting .a) := fun hone hend hpage => by
    rw [hserveWrite hone (by omega), if_neg]
    rw [writeOutOfRange_iff]
    omega
  have herases : block.toNat ≤ 1023 → dispatch .a { kind := 0x11#8, body := be16 block.toNat } (s.hunting .a) =
      acceptOperation 0x11 (.erase block.toNat) .a (s.hunting .a) := fun hin => by
    rw [hserveErase, if_neg (Nat.not_lt.mpr hin)]
  refine ⟨fun hform => ?_, fun hone hmost hrange => ?_, fun hbeyond => ?_, fun hbusy => ⟨fun hone hend hpage => ?_, fun hin => ?_, ?_⟩,
    fun hfree => ⟨fun hone hend hpage => ?_, fun hin => ?_, ?_⟩⟩
  · refine crewEvent_answered hready hwrite (List.cons_ne_nil _ _) (dispatch_badFormat (k := .storeWrite) ?_ ?_)
    · exact (kindServed_store rfl rfl).trans (if_pos ⟨hm, rfl⟩)
    · have hsize : data.length = 0 ∨ 256 < data.length := hform.imp_left (congrArg List.length)
      simp [RequestKind.formatGood, hlength]
      omega
  · refine crewEvent_answered hready hwrite (List.cons_ne_nil _ _) ((hserveWrite hone hmost).trans (if_pos ?_))
    rw [writeOutOfRange_iff]
    omega
  · exact crewEvent_answered hready herase (List.cons_ne_nil _ _) (hserveErase.trans (if_pos hbeyond))
  · exact crewEvent_answered hready hwrite (List.cons_ne_nil _ _)
      ((hwrites hone hend hpage).trans (acceptOperation_busy hbusy ..))
  · exact crewEvent_answered hready herase (List.cons_ne_nil _ _) ((herases hin).trans (acceptOperation_busy hbusy ..))
  · exact crewEvent_answered hready hcheck (List.cons_ne_nil _ _) (hserveCheck.trans (acceptOperation_busy hbusy ..))
  · exact storeRequest_accepted hready hfree hwrite (hwrites hone hend hpage)
  · exact storeRequest_accepted hready hfree herase (herases hin)
  · exact storeRequest_accepted hready hfree hcheck hserveCheck

end

section
/-! SUPPORT. The bytes of the flash after each operation (6.1, R113, R114), and the ends of the maintenance operations. -/

namespace Sys2Proof.Machine

open Sys2Proof

/-! ### Bytes after programming and erasing -/

/-- Programming leaves in each byte of its range the bits that were 1 both before and in the data (R113). -/
theorem Memory.read_program {m : Memory} (a : Nat) (data : List Byte) (h : m.wf = true)
    (hend : a + data.length ≤ storeSize) (b : Nat) : (m.program a data).read b =
      if a ≤ b ∧ b < a + data.length then m.read b &&& data.getD (b - a) 0#8 else m.read b := by
  by_cases hout : b < a ∨ a + data.length ≤ b
  · rw [Memory.read_program_outside data h hout, if_neg (by omega)]
  · rw [if_pos (by omega)]
    induction data generalizing m a with
    | nil => exact absurd (Nat.lt_or_ge b a) hout
    | cons d rest ih =>
      simp only [List.length_cons] at hend hout
      rw [Memory.program]
      by_cases hb : b = a
      · subst hb
        rw [Memory.read_program_outside rest (Memory.programByte_wf b d h) (.inl (Nat.lt_succ_self b)), Memory.programByte,
          Memory.read_write_same _ h (by omega), Nat.sub_self, List.getD_cons_zero]
      · rw [ih (a + 1) (Memory.programByte_wf a d h) (by omega) (by omega), Memory.programByte,
          Memory.read_write_ne _ h (Ne.symm hb), show b - a = (b - (a + 1)) + 1 by omega, List.getD_cons_succ]

/-- The data of a write with the bits set that the flash may have left unprogrammed (R113; log 4). -/
def unprogrammed (draw a : Nat) (data : List Byte) : List Byte :=
  data.mapIdx fun i d => d ||| Config.flashResidue draw (a + i)

theorem unprogrammed_getD (draw a : Nat) {data : List Byte} {i : Nat} (h : i < data.length) :
    (unprogrammed draw a data).getD i 0#8 = data.getD i 0#8 ||| Config.flashResidue draw (a + i) := by
  simp [unprogrammed, List.getD_eq_getElem?_getD, h]

/-- A write that timed out has programmed its data but for those bits. -/
theorem Memory.timeoutWrite_eq_program (m : Memory) (draw a : Nat) (data : List Byte) :
    m.timeoutWrite draw a data = m.program a (unprogrammed draw a data) := by
  induction data generalizing m a with
  | nil => rfl
  | cons d rest ih =>
    have htail : unprogrammed draw a (d :: rest) =
        (d ||| Config.flashResidue draw a) :: unprogrammed draw (a + 1) rest := by
      simp only [unprogrammed, List.mapIdx_cons, Nat.add_zero, Nat.add_assoc, Nat.add_comm 1]
    rw [htail]
    exact ih _ (a + 1)

theorem Memory.read_timeoutWrite {m : Memory} (draw a : Nat) (data : List Byte) (h : m.wf = true)
    (hend : a + data.length ≤ storeSize) (b : Nat) : (m.timeoutWrite draw a data).read b =
      if a ≤ b ∧ b < a + data.length then m.read b &&& (data.getD (b - a) 0#8 ||| Config.flashResidue draw b)
      else m.read b := by
  have hlength : (unprogrammed draw a data).length = data.length := List.length_mapIdx
  rw [Memory.timeoutWrite_eq_program, Memory.read_program _ _ h (by rwa [hlength]), hlength]
  split
  · rename_i hb
    rw [unprogrammed_getD draw a (by omega), Nat.add_sub_cancel' hb.1]
  · rfl

/-- No byte differs from the data. -/
theorem Memory.firstDiffering_none {m : Memory} {a : Nat} {data : List Byte}
    (h : ∀ i < data.length, m.read (a + i) = data.getD i 0#8) : m.firstDiffering a data = none := by
  induction data generalizing a with
  | nil => rfl
  | cons d rest ih =>
    have hhead : m.read a = d := h 0 (Nat.succ_pos _)
    rw [Memory.firstDiffering, if_pos hhead]
    refine ih fun i hi => ?_
    rw [Nat.add_assoc, Nat.add_comm 1]
    exact h (i + 1) (Nat.succ_lt_succ hi)

/-- The first byte that differs from the data. -/
theorem Memory.firstDiffering_some {m : Memory} {a i : Nat} {data : List Byte} (hi : i < data.length)
    (hdiffers : m.read (a + i) ≠ data.getD i 0#8) (hbefore : ∀ j < i, m.read (a + j) = data.getD j 0#8) :
    m.firstDiffering a data = some (a + i) := by
  induction data generalizing a i with
  | nil => exact absurd hi (Nat.not_lt_zero i)
  | cons d rest ih =>
    rw [Memory.firstDiffering]
    cases i with
    | zero => exact if_neg hdiffers
    | succ i =>
      have hhead : m.read a = d := hbefore 0 (Nat.succ_pos i)
      rw [if_pos hhead, ← Nat.add_assoc, Nat.add_right_comm]
      rw [← Nat.add_assoc, Nat.add_right_comm] at hdiffers
      refine ih (Nat.lt_of_succ_lt_succ hi) hdiffers fun j hj => ?_
      rw [Nat.add_right_comm]
      exact hbefore (j + 1) (Nat.succ_lt_succ hj)

/-- A store of which only the offsets that pass a test stay listed reads erased at the others. -/
theorem Memory.read_filter_offsets {m : Memory} {low : Nat} (f : Nat → Bool) (h : Memory.wfFrom low m = true) (a : Nat) :
    Memory.read (m.filter fun c => f c.1) a = if f a = true then m.read a else erasedByte := by
  induction m generalizing low with
  | nil => exact (ite_self _).symm
  | cons c rest ih =>
    obtain ⟨k, v⟩ := c
    simp only [Memory.wfFrom, Bool.and_eq_true, decide_eq_true_eq] at h
    by_cases hk : k = a
    · subst hk
      cases hf : f k with
      | true => simp [hf, Memory.read]
      | false => simp only [List.filter_cons, hf, Bool.false_eq_true, if_false, ih h.2]
    · have hbelow : a < k → Memory.read rest a = erasedByte := fun hlt => Memory.read_below h.2 (by omega)
      rw [List.filter_cons]
      split
      · rw [Memory.read, Memory.read, if_neg hk, if_neg hk, ih h.2]
        split
        · exact (ite_self _).symm
        · rfl
      · rw [ih h.2, Memory.read, if_neg hk]
        split
        · split
          · exact hbelow ‹_›
          · rfl
        · rfl

/-- An erased block reads 0xFF (R114). -/
theorem Memory.read_eraseBlock {m : Memory} (block : Nat) (h : m.wf = true) (a : Nat) : (m.eraseBlock block).read a =
    if 65536 * block ≤ a ∧ a < 65536 * block + 65536 then 0xFF#8 else m.read a := by
  rw [Memory.eraseBlock, Memory.read_filter_offsets (fun k => !inBlock block k) h, inBlock, ← Bool.decide_and]
  by_cases hin : 65536 * block ≤ a ∧ a < 65536 * block + 65536
  · simp only [hin, and_self, decide_true, Bool.not_true, Bool.false_eq_true, if_false, if_true]
    rfl
  · simp only [hin, decide_false, Bool.not_false, if_true, if_false]

/-- An erase that timed out leaves a free value in each byte of the block (R114; log 4). -/
theorem Memory.read_timeoutErase {m : Memory} (draw block : Nat) (h : m.wf = true) (a : Nat) :
    (m.timeoutErase draw block).read a =
      if 65536 * block ≤ a ∧ a < 65536 * block + 65536 ∧ a < 67108864 then Config.flashResidue draw a else m.read a := by
  rw [Memory.timeoutErase]
  exact Memory.read_residue draw (65536 * block) 65536 a h

/-! ### The ends of the operations -/

section

variable {s : State} {begun : Nat} {discard : Bool}

theorem inTime_eq {limit now : Nat} (h : now - begun ≤ limit) : inTime limit begun now = true := decide_eq_true h

theorem late_eq {limit now : Nat} (h : limit < now - begun) : inTime limit begun now = false :=
  decide_eq_false (Nat.not_le.mpr h)

/-- A write ends in time with the bytes it has programmed (R113). -/
theorem storeWriteDone_inTime {offset : Nat} {data : List Byte} (ha : s.store.access = .write offset data begun discard)
    (ht : s.clock - begun ≤ 5) : storeWriteDone s = writeCompleted offset data discard s := by
  rw [storeWriteDone, ha]
  exact if_pos (inTime_eq ht)

/-- A write not completed within its 5 ms, whichever row tells it (R113; log 11). -/
theorem exec_writeFaulted (hheld : s.held = false) {offset : Nat} {data : List Byte}
    (ha : s.store.access = .write offset data begun discard) {cmd : Instr}
    (hcmd : (cmd = .storeWriteTimeout ∧ 5 ≤ s.clock - begun) ∨ (cmd = .storeWriteDone ∧ 5 < s.clock - begun)) :
    exec cmd s = .next (settle s (writeFaulted offset data discard s)) := by
  rcases hcmd with ⟨rfl, ht⟩ | ⟨rfl, ht⟩
  · refine event_eq hheld ?_
    rw [storeWriteTimeout, ha]
    exact if_pos ht
  · refine event_eq hheld ?_
    rw [storeWriteDone, ha]
    exact if_neg (by rw [late_eq (limit := writeLimit) ht]; exact Bool.false_ne_true)

theorem eraseResult_eq (m : Memory) : storeResult discard 0x11 .storeFault []
    { s.modStore (PlanStore.operationOver m) with draws := s.draws + 1 } =
      (let v := { s with store := { s.store with memory := m, access := .free }, draws := s.draws + 1 }
      if discard then v else v.storeAnswer [0x11#8, 0x4F#8, 1#8, 1#8]) := rfl

/-- An erase not completed within its 2000 ms, whichever row tells it (R114; log 11). -/
theorem exec_eraseFaulted (hheld : s.held = false) {block : Nat} (ha : s.store.access = .erase block begun discard)
    {cmd : Instr}
    (hcmd : (cmd = .storeEraseTimeout ∧ 2000 ≤ s.clock - begun) ∨ (cmd = .storeEraseDone ∧ 2000 < s.clock - begun)) :
    exec cmd s = .next (settle s (eraseFaulted block discard s)) := by
  rcases hcmd with ⟨rfl, ht⟩ | ⟨rfl, ht⟩
  · refine event_eq hheld ?_
    rw [storeEraseTimeout, ha]
    exact if_pos ht
  · refine event_eq hheld ?_
    rw [storeEraseDone, ha]
    exact if_neg (by rw [late_eq (limit := eraseLimit) ht]; exact Bool.false_ne_true)

end

end Sys2Proof.Machine

open Sys2Proof Sys2Proof.Machine

/-- Settles O42: what a completed operation and one not completed leave in each byte, and the one response of each. -/
theorem storeOperationsEnd : Obligations.StoreOperationsEnd := by
  intro s begun discard hheld hlaw
  refine ⟨fun offset data m ha hend hm => ?_, fun block ha => ⟨fun ht => ?_, fun cmd hcmd => ?_⟩⟩
  · subst hm
    have hdone : s.clock - begun ≤ 5 → ∀ u, writeCompleted offset data discard s = u →
        exec .storeWriteDone s = .next (settle s u) := fun ht u hu => by
      exact event_eq hheld ((storeWriteDone_inTime ha ht).trans hu)
    refine ⟨Memory.read_program offset data hlaw hend, fun ht hdiscard => hdone ht _ ?_,
      fun ht hdiscard hequal => hdone ht _ ?_, fun ht hdiscard i hi hdiffers hbefore => hdone ht _ ?_, fun cmd hcmd => ?_⟩
    · subst hdiscard
      unfold writeCompleted
      dsimp only
      split <;> rfl
    · subst hdiscard
      rw [writeCompleted, Memory.firstDiffering_none hequal]
      rfl
    · subst hdiscard
      rw [writeCompleted, Memory.firstDiffering_some hi hdiffers hbefore]
      rfl
    · exact ⟨s.store.memory.timeoutWrite s.draws offset data, _, rfl, exec_writeFaulted hheld ha hcmd,
        Memory.read_timeoutWrite s.draws offset data hlaw hend⟩
  · refine ⟨s.store.memory.eraseBlock block, event_eq hheld ?_,
      Memory.read_eraseBlock block hlaw⟩
    rw [storeEraseDone, ha]
    exact if_pos (inTime_eq ht)
  · have hexec := exec_eraseFaulted hheld ha hcmd
    rw [eraseFaulted, eraseResult_eq] at hexec
    exact ⟨_, _, rfl, hexec, Memory.read_timeoutErase s.draws block hlaw⟩

end

section
/-! SUPPORT. The reading of header and directory (R103 to R105): which header is good and what is kept of it, the checks of a slot
by offset, and the reads one after another. -/

namespace Sys2Proof.Machine

open Sys2Proof

/-! ### The header (R104) -/

/-- Which header is good, by offset. -/
theorem headerGood_iff {h : List Byte} (hl : h.length = 207) : headerGood h = true ↔
    halfAt h 0 = 0x5A31 ∧ (crc16 (h.take 205)).toNat = halfAt h 205 ∧
      1 ≤ byteAt h 19 ∧ byteAt h 19 ≤ 4 ∧ byteAt h 18 + byteAt h 19 ≤ 256 ∧
      (∀ k < 16, byteAt h (36 + 10 * k) ≤ 4 ∧ byteAt h (37 + 10 * k) ≤ 3) ∧ byteAt h 196 ≤ 8 ∧
      (∀ n < 16, 0x20 ≤ byteAt h (2 + n) ∧ byteAt h (2 + n) ≤ 0x7E) ∧
      (∀ n < 4 * byteAt h 19, 0x20 ≤ byteAt h (20 + n) ∧ byteAt h (20 + n) ≤ 0x7E) ∧
      ∀ k < 16, ∀ n < 8, 0x20 ≤ byteAt h (38 + 10 * k + n) ∧ byteAt h (38 + 10 * k + n) ≤ 0x7E := by
  have hname := allPrintable_slice (l := h) (i := 2) (n := 16) (by omega)
  have hlabels : (∀ k < 16, allPrintable (slice h (38 + 10 * k) 8) = true) ↔
      ∀ k < 16, ∀ n < 8, 0x20 ≤ byteAt h (38 + 10 * k + n) ∧ byteAt h (38 + 10 * k + n) ≤ 0x7E :=
    forall₂_congr fun k hk => allPrintable_slice (by omega)
  by_cases hcount : byteAt h 19 ≤ 4
  · have hfloors := allPrintable_slice (l := h) (i := 20) (n := 4 * byteAt h 19) (by omega)
    simp only [headerGood, Bool.and_eq_true, decide_eq_true_eq, List.all_eq_true, List.mem_range, hname, hlabels, hfloors,
      and_assoc, headerLength, hl, true_and]
  · simp [headerGood, hcount]

theorem scanHeader_eq (h : List Byte) : scanHeader (some h) = if headerGood h then some (headerImageOf h) else none := rfl

/-- The code of a line's type (6.1). -/
theorem zoneType_ofCode {n : Nat} (h : n ≤ 4) : ZoneType.ofCode n = if n = 0 then .unused else if n = 1 then .detector
    else if n = 2 then .callpoint else if n = 3 then .flow else .valve := by
  interval_cases n <;> rfl

/-! ### A slot (R105) -/

section

variable {l : List Byte} (hl : l.length = 40)

include hl

theorem slotEmpty_iff : slotEmpty l = true ↔ ∀ n < 37, byteAt l n = 0xFF := by
  have hslice : l.take 37 = slice l 0 37 := by rw [slice, List.drop_zero]
  rw [slotEmpty, hslice, List.all_eq_true, forall_mem_slice (by omega) fun b => (b == 0xFF#8) = true]
  refine forall₂_congr fun n _ => ?_
  rw [beq_iff_eq, ← BitVec.toNat_inj, Nat.zero_add]
  rfl

theorem slotInRange_iff : slotInRange l = true ↔
    byteAt l 1 ≤ 5 ∧ (byteAt l 2 = 1 ∨ byteAt l 2 = 2) ∧ 1 ≤ halfAt l 3 ∧ 1 ≤ halfAt l 5 ∧
      halfAt l 5 ≤ 1024 ∧ 65536 ≤ wordAt l 7 ∧ wordAt l 7 + 258 * halfAt l 5 ≤ 67108864 ∧
      ∀ n < 24, 0x20 ≤ byteAt l (11 + n) ∧ byteAt l (11 + n) ≤ 0x7E := by
  simp only [slotInRange, Bool.and_eq_true, Bool.or_eq_true, decide_eq_true_eq, and_assoc,
    allPrintable_slice (l := l) (i := 11) (n := 24) (by omega), Nat.one_le_iff_ne_zero]

omit hl in
theorem slotCheckGood_iff : slotCheckGood l = true ↔ (crc16 (l.take 35)).toNat = halfAt l 35 := decide_eq_true_iff

omit hl in
theorem recordFits_iff {image : Option HeaderImage} (hrole : byteAt l 2 = 1 ∨ byteAt l 2 = 2) :
    recordFits image (sheetRecordOf l) = true ↔ ∃ h, image = some h ∧
      ((byteAt l 2 = 1 ∧ h.firstFloor ≤ byteAt l 0 ∧ byteAt l 0 < h.firstFloor + h.floorCount) ∨
        (byteAt l 2 = 2 ∧ byteAt l 0 ∈ h.replicas)) := by
  cases image with
  | none => simp [recordFits]
  | some h => rcases hrole with hr | hr <;> simp [recordFits, sheetRecordOf, hr, covers_iff]

omit hl in
theorem duplicates_iff {records : List SheetRecord} : duplicates records (sheetRecordOf l) = true ↔
    ∃ q ∈ records, q.floor = byteAt l 0 ∧ q.kind = byteAt l 1 ∧ (q.role = .owner ↔ byteAt l 2 = 1) := by
  have hrole : ∀ r : Role, r = (sheetRecordOf l).role ↔ (r = .owner ↔ byteAt l 2 = 1) := fun r => by
    by_cases h : byteAt l 2 = 1 <;> cases r <;> simp [sheetRecordOf, h]
  simp only [duplicates, List.any_eq_true, Bool.and_eq_true, decide_eq_true_eq, hrole, and_assoc]
  rfl

end

/-- What becomes of a slot, first check first. -/
theorem takeSlot_some (l : List Byte) (x : StoreScan) : x.takeSlot (some l) =
    if slotEmpty l = true then x
    else if ¬slotCheckGood l = true then { x with counts := { x.counts with badCheck := x.counts.badCheck + 1 } }
    else if ¬slotInRange l = true then { x with counts := { x.counts with outOfRange := x.counts.outOfRange + 1 } }
    else if ¬recordFits x.header (sheetRecordOf l) = true then
      { x with counts := { x.counts with beyond := x.counts.beyond + 1 } }
    else if duplicates x.records (sheetRecordOf l) = true then
      { x with counts := { x.counts with duplicate := x.counts.duplicate + 1 } }
    else { x with
        records := x.records ++ [sheetRecordOf l], counts := { x.counts with accepted := x.counts.accepted + 1 } } := by
  simp only [StoreScan.takeSlot, Bool.not_eq_true', Bool.not_eq_true]

/-! ### The reads (R103) -/

section

variable {s : State} {begun : Nat}

theorem scanRead_inTime (slot : Option Nat) (h : s.clock - begun ≤ 1) :
    s.scanRead slot begun = some (scanBytes s.store.memory slot) := if_pos (inTime_eq h)

theorem scanRead_late (slot : Option Nat) (h : 1 < s.clock - begun) : s.scanRead slot begun = none :=
  if_neg (by rw [late_eq (limit := readLimit) h]; exact Bool.false_ne_true)

theorem nextRead_slot {n : Nat} (h : n < 95) : nextRead (some n) = some (n + 1) := if_pos h

/-- The next of the 97 reads of start-up begins. -/
theorem startupReadEnds_next {slot : Option Nat} {n : Nat} (h : nextRead slot = some n) (x : StoreScan)
    (bytes : Option (List Byte)) (s : State) : startupReadEnds slot x bytes s = { s with
      store := { s.store with access := .startup (some n) (x.takeRead slot bytes) s.clock } } := by
  unfold startupReadEnds
  dsimp only
  rw [h]
  rfl

theorem headerReadDone_eq {x : StoreScan} (ha : s.store.access = .startup none x begun) :
    headerReadDone s = startupReadEnds none x (s.scanRead none begun) s := by
  rw [headerReadDone, ha]

theorem slotReadDone_eq {x : StoreScan} {n : Nat} (ha : s.store.access = .startup (some n) x begun) :
    slotReadDone s = startupReadEnds (some n) x (s.scanRead (some n) begun) s := by
  rw [slotReadDone, ha]

theorem startupReadTimeout_eq {x : StoreScan} {slot : Option Nat} (ha : s.store.access = .startup slot x begun)
    (ht : 1 ≤ s.clock - begun) : startupReadTimeout s = startupReadEnds slot x none s := by
  rw [startupReadTimeout, ha]
  exact if_pos ht

end

end Sys2Proof.Machine

open Sys2Proof Sys2Proof.Machine

/-- Settles O24: each read is dealt with and the next begins; the checks of header and slot by offset. -/
theorem startUpReadsFollow : Obligations.StartUpReadsFollow := by
  refine ⟨fun s x begun hheld => ⟨fun ha => ⟨fun ht => ?_, fun ht => ?_, fun ht => ?_⟩,
    fun n hn ha => ⟨fun ht => ?_, fun ht => ?_, fun ht => ?_⟩⟩, fun h hl => ?_, rfl, fun l x hl => ?_⟩
  · exact event_eq hheld (by rw [headerReadDone_eq ha, scanRead_inTime none ht, startupReadEnds_next rfl]; rfl)
  · exact event_eq hheld (by rw [headerReadDone_eq ha, scanRead_late none ht, startupReadEnds_next rfl]; rfl)
  · exact event_eq hheld (by rw [startupReadTimeout_eq ha ht, startupReadEnds_next rfl]; rfl)
  · exact event_eq hheld (by
      rw [slotReadDone_eq ha, scanRead_inTime _ ht, startupReadEnds_next (nextRead_slot hn)]; rfl)
  · exact event_eq hheld (by rw [slotReadDone_eq ha, scanRead_late _ ht, startupReadEnds_next (nextRead_slot hn)]; rfl)
  · exact event_eq hheld (by rw [startupReadTimeout_eq ha ht, startupReadEnds_next (nextRead_slot hn)]; rfl)
  · intro text good
    have hgood : headerGood h = true ↔ good := headerGood_iff hl
    rw [scanHeader_eq]
    refine ⟨fun hbad => if_neg (mt hgood.mp hbad), fun hall => ⟨headerImageOf h, if_pos (hgood.mpr hall), rfl, rfl, rfl,
      by simp [headerImageOf], fun k hk => by simp [headerImageOf, hk], rfl, fun k hk => ?_, rfl⟩⟩
    obtain ⟨-, -, -, -, -, hlines, -⟩ := hall
    obtain ⟨hcode, -⟩ := hlines k hk
    exact ⟨lineConfigAt h k, by simp [headerImageOf, hk], rfl, rfl, zoneType_ofCode hcode⟩
  · intro empty check inRange fits twice
    have hempty : slotEmpty l = true ↔ empty := slotEmpty_iff hl
    have hcheck : slotCheckGood l = true ↔ check := slotCheckGood_iff
    have hrange : slotInRange l = true ↔ inRange := slotInRange_iff hl
    have hfits : inRange → (recordFits x.header (sheetRecordOf l) = true ↔ fits) := fun h => recordFits_iff h.2.1
    have htwice : duplicates x.records (sheetRecordOf l) = true ↔ twice := duplicates_iff
    rw [takeSlot_some]
    refine ⟨rfl, fun h => if_pos (hempty.mpr h), fun he hc => ?_, fun he hc hr => ?_, fun he hc hr hf => ?_,
      fun he hc hr hf ht => ?_, fun he hc hr hf ht => ?_⟩
    all_goals rw [if_neg (mt hempty.mp he)]
    · exact if_pos (mt hcheck.mp hc)
    all_goals rw [if_neg (not_not.mpr (hcheck.mpr hc))]
    · exact if_pos (mt hrange.mp hr)
    all_goals rw [if_neg (not_not.mpr (hrange.mpr hr))]
    · exact if_pos (mt (hfits hr).mp hf)
    all_goals rw [if_neg (not_not.mpr ((hfits hr).mpr hf))]
    · exact if_pos (htwice.mpr ht)
    · exact if_neg (mt htwice.mp ht)

end

section
/-! SUPPORT. A STORE CHECK's reads and its answer (R103, R115). -/

namespace Sys2Proof.Machine

open Sys2Proof

section

variable {s : State} {begun : Nat} {discard : Bool} {slot : Option Nat} {x : StoreScan}

theorem storeCheckReadDone_eq (ha : s.store.access = .check slot x begun discard) :
    storeCheckReadDone s = checkReadEnds slot x discard (s.scanRead slot begun) s := by
  rw [storeCheckReadDone, ha]

theorem storeCheckReadTimeout_eq (ha : s.store.access = .check slot x begun discard) (ht : 1 ≤ s.clock - begun) :
    storeCheckReadTimeout s = checkReadEnds slot x discard none s := by
  rw [storeCheckReadTimeout, ha]
  exact if_pos ht

/-- The next of the 97 reads of a STORE CHECK begins. -/
theorem checkReadEnds_next {n : Nat} (h : nextRead slot = some n) (bytes : Option (List Byte)) :
    checkReadEnds slot x discard bytes s = { s with
      store := { s.store with access := .check (some n) (x.takeRead slot bytes) s.clock discard } } := by
  unfold checkReadEnds
  dsimp only
  rw [h]
  rfl

/-- After slot 95 the operation ends with its answer (R115). -/
theorem checkReadEnds_last (bytes : Option (List Byte)) : checkReadEnds (some 95) x discard bytes s =
    storeResult discard 0x12 .checked (checkedFields (x.takeSlot bytes))
      { s with store := { s.store with access := .free } } := rfl

/-- The fields of the answer, written out (R115). -/
theorem checkedFields_eq (y : StoreScan) : checkedFields y =
    (match y.header with
      | none => 0#8 :: List.replicate 16 0x20#8 ++ [0#8, 0#8, 0#8]
      | some h => 1#8 :: padTo 16 h.name ++ [byte h.firstFloor, byte h.floorCount, byte h.replicas.length]) ++
      [byte y.counts.accepted, byte y.counts.badCheck, byte y.counts.outOfRange, byte y.counts.beyond,
        byte y.counts.duplicate] := by
  unfold checkedFields
  cases y.header <;> rfl

end

end Sys2Proof.Machine

open Sys2Proof Sys2Proof.Machine

/-- Settles O43: each read is dealt with as at start-up, and after the last the answer is placed or discarded. -/
theorem storeCheckReadsAgain : Obligations.StoreCheckReadsAgain := by
  refine fun s x begun discard hheld => ⟨fun ha => ⟨fun ht => ?_, fun ht => ?_, fun ht => ?_⟩,
    fun n hn ha => ⟨fun ht => ?_, fun ht => ?_, fun ht => ?_⟩, fun y cmd ha hcmd => ?_⟩
  · exact event_eq hheld (by rw [storeCheckReadDone_eq ha, scanRead_inTime none ht, checkReadEnds_next rfl]; rfl)
  · exact event_eq hheld (by rw [storeCheckReadDone_eq ha, scanRead_late none ht, checkReadEnds_next rfl]; rfl)
  · exact event_eq hheld (by rw [storeCheckReadTimeout_eq ha ht, checkReadEnds_next rfl]; rfl)
  · exact event_eq hheld (by
      rw [storeCheckReadDone_eq ha, scanRead_inTime _ ht, checkReadEnds_next (nextRead_slot hn)]; rfl)
  · exact event_eq hheld (by
      rw [storeCheckReadDone_eq ha, scanRead_late _ ht, checkReadEnds_next (nextRead_slot hn)]; rfl)
  · exact event_eq hheld (by rw [storeCheckReadTimeout_eq ha ht, checkReadEnds_next (nextRead_slot hn)]; rfl)
  · have hend : exec cmd s = .next (settle s (storeResult discard 0x12 .checked (checkedFields y)
        { s with store := { s.store with access := .free } })) := by
      rcases hcmd with ⟨rfl, ht, rfl⟩ | ⟨⟨rfl, ht⟩ | ⟨rfl, ht⟩, rfl⟩
      · exact event_eq hheld (by rw [storeCheckReadDone_eq ha, scanRead_inTime _ ht, checkReadEnds_last]; rfl)
      · exact event_eq hheld (by rw [storeCheckReadDone_eq ha, scanRead_late _ ht, checkReadEnds_last]; rfl)
      · exact event_eq hheld (by rw [storeCheckReadTimeout_eq ha ht, checkReadEnds_last]; rfl)
    rw [checkedFields_eq] at hend
    refine ⟨fun hdiscard => ?_, fun hdiscard => ?_⟩
    · subst hdiscard
      exact hend
    · subst hdiscard
      exact hend

end

section
/-! SUPPORT. A break as a port reset (R145, R146), and what it leaves of a maintenance operation (R112). -/

namespace Sys2Proof.Machine

open Sys2Proof

theorem cancelChannel_access (p : Port) (c : Nat) (s : State) :
    (cancelChannel p c s).store.access = s.store.access.withdraw c := by
  obtain ⟨hrest, -⟩ := cancelTold_rest c s
  obtain ⟨buffers, hclosed, -⟩ := closeChannel_eq c (withdrawRequest c (s.cancelTold c))
  have htold : (s.cancelTold c).store.access = s.store.access := congrArg (·.store.access) hrest
  rw [cancelChannel_eq, State.modPort_store, hclosed, ← htold]
  rfl

/-- An access that is no tile read goes on when a port is left (R112). -/
theorem leavePort_access (p : Port) {s : State} (h : ∀ c, s.store.access.withdraw c = s.store.access) :
    (leavePort p s).store.access = s.store.access := by
  have hwithdrawn : (withdrawAttendance p s).store.access = s.store.access :=
    congrArg (·.access) (withdrawn_withdrawAttendance p s).store
  rw [leavePort, State.modNotices_store]
  refine List.foldlRecOn (motive := fun t => t.store.access = s.store.access) _ (cancelOwned p) hwithdrawn fun t ht c _ => ?_
  refine kept_ite (Q := fun t : State => t.store.access = s.store.access) ?_ ht
  rw [cancelChannel_access, ht]
  exact h c

/-- The port reset, but for the mark that the Plan Store takes (R146). -/
def State.portCleared (p : Port) (s : State) : State := (leavePort p s).modPort p CrewPort.afterReset

theorem portReset_eq (p : Port) (s : State) :
    portReset p s = if p = .a then (s.portCleared p).modStore PlanStore.discardResponses else s.portCleared p := rfl

theorem portCleared_store (p : Port) (s : State) : (s.portCleared p).store = (leavePort p s).store := State.modPort_store ..

theorem portReset_port (p : Port) (s : State) : (portReset p s).port p = (s.port p).afterReset := by
  obtain ⟨m, hm, -⟩ := (leavePort_rest p s).ownPort
  have hcleared : (s.portCleared p).port p = (s.port p).afterReset := by
    rw [State.portCleared, State.modPort_port, hm]
    rfl
  rw [portReset_eq]
  split
  · rw [State.modStore_port]
    exact hcleared
  · exact hcleared

theorem portReset_left (p : Port) (s : State) : PortLeft p s (portReset p s) := by
  have hleft : PortLeft p s (s.portCleared p) := portLeft_modPort p s fun _ => ⟨rfl, rfl⟩
  rw [portReset_eq]
  refine kept_ite ?_ hleft
  exact
    { detached := by rw [State.modStore_port]; exact hleft.detached
      notices := by rw [State.modStore_notices]; exact hleft.notices
      attendance := hleft.attendance
      freed := hleft.freed
      others := hleft.others
      marksFirst := hleft.marksFirst
      otherPort := fun q hq => (State.modStore_port ..).trans (hleft.otherPort q hq)
      rest := hleft.rest }

theorem portReset_waiting (p : Port) (s : State) : (portReset p s).store.waiting =
    if p = .a then s.store.waiting.map fun w => (w.1, true) else s.store.waiting := by
  have hwaiting : (s.portCleared p).store.waiting = s.store.waiting := by
    rw [portCleared_store]
    exact (leavePort_rest p s).waiting
  rw [portReset_eq, ← hwaiting]
  split <;> rfl

/-- A maintenance operation goes on; at port A's reset it answers nothing (R112). -/
theorem portReset_access (p : Port) {s : State} (h : ∀ c, s.store.access.withdraw c = s.store.access) :
    (portReset p s).store.access = if p = .a then s.store.access.discardResponse else s.store.access := by
  have haccess : (s.portCleared p).store.access = s.store.access := by
    rw [portCleared_store]
    exact leavePort_access p h
  rw [portReset_eq, ← haccess]
  split <;> rfl

end Sys2Proof.Machine

open Sys2Proof Sys2Proof.Machine

/-- Settles O47: the port is left as at a DETACH and takes its reset values; then the Plan Store marks the operation. -/
theorem breakResetsPort : Obligations.BreakResetsPort := by
  intro p s hheld hopen hbreak
  have hhears : (s.port p).hears = true := by rw [CrewPort.hears, hopen, hbreak]; rfl
  have hmark : ∀ (w : Bool), (w || decide (p = .a)) = if p = .a then true else w := fun w => by
    cases p <;> cases w <;> rfl
  refine ⟨portReset p s, event_eq hheld (if_pos hhears), portReset_left p s, ?_, portReset_waiting p s,
    fun o d b w ha => ?_, fun k b w ha => ?_, fun n x b w ha => ?_⟩
  · rw [portReset_port, CrewPort.afterReset, hopen]
    rfl
  all_goals
    rw [portReset_access p (by rw [ha]; exact fun _ => rfl), ha, hmark]
    split <;> rfl

end

section
/-! SUPPORT. What the store's arbiter takes next (R109), and a crew channel's window request in each of its answers (R127). -/

namespace Sys2Proof.Machine

open Sys2Proof

/-! ### The arbiter's choice (R109) -/

section

variable {p : PlanStore}

theorem next_waiting {op : MaintOp} {w : Bool} (h : p.waiting = some (op, w)) : p.next = .maintenance op w := by
  rw [PlanStore.next, h]

theorem next_nothing (hw : p.waiting = none) (hall : ∀ c < 6, tget [] p.lists c = []) : p.next = .nothing := by
  have hnone : (rotationOrder p.rotation).findSome? (fun c => (tget [] p.lists c).head?) = none := by
    simp only [rotationOrder, List.findSome?_eq_none_iff, List.mem_map, List.mem_range, List.head?_eq_none_iff]
    rintro c ⟨k, -, rfl⟩
    exact hall _ (Nat.mod_lt _ (by decide))
  rw [PlanStore.next, hw]
  dsimp only
  rw [hnone]

/-- The oldest request of the first channel in the rotation that has one. -/
theorem next_tile (hw : p.waiting = none) {k c : Nat} (hk : k < 6) (hc : c = (p.rotation + 1 + k) % 6) {q : TileRead}
    {rest : List TileRead} (hl : tget [] p.lists c = q :: rest)
    (hearlier : ∀ j < k, tget [] p.lists ((p.rotation + 1 + j) % 6) = []) : p.next = .tile q := by
  have hfirst : (rotationOrder p.rotation).findSome? (fun c => (tget [] p.lists c).head?) = some q := by
    rw [rotationOrder, List.findSome?_map, findSome?_range_eq_some]
    refine ⟨k, hk, ?_, fun j hj => ?_⟩
    · rw [Function.comp_apply, ← hc, hl]
      rfl
    · rw [Function.comp_apply, hearlier j hj]
      rfl
  rw [PlanStore.next, hw]
  dsimp only
  rw [hfirst]

theorem isFree_iff : p.isFree = true ↔ p.access = .free := by
  unfold PlanStore.isFree
  cases p.access <;> simp

end

/-- The state in which a tile read has begun (R109). -/
def State.readBegun (q : TileRead) (s : State) : State := { s with
  store := { s.store with
    lists := tset s.store.lists q.channel ((s.readList q.channel).drop 1), rotation := q.channel
    access := .tile q s.clock false } }

theorem readBegun_lists {q : TileRead} (hq : q.channel < 6) (s : State) :
    (s.readBegun q).readList q.channel = (s.readList q.channel).drop 1 ∧
    ∀ d, d ≠ q.channel → (s.readBegun q).readList d = s.readList d :=
  ⟨tget_tset_same _ _ hq _, fun _ hd => tget_tset_ne _ _ (Ne.symm hd) _⟩

/-- The next access in its three cases (R109, R110). -/
theorem beginAccess_cases {s : State} (hfree : s.store.access = .free) :
    (∀ op w, s.store.next = .maintenance op w → beginAccess s = { s with
      store := { s.store with access := op.begin s.clock w, waiting := none } }) ∧
    (s.store.next = .nothing → beginAccess s = s) ∧
    ∀ q, s.store.next = .tile q → beginAccess s = if q.tile < q.record.tileCount then s.readBegun q else s := by
  unfold beginAccess
  rw [if_pos (isFree_iff.mpr hfree)]
  refine ⟨fun op w h => ?_, fun h => ?_, fun q h => ?_⟩ <;> rw [h] <;> rfl

/-- A beginning access leaves the flash and the counts, and all but the store. -/
theorem beginAccess_store (s : State) : ∃ p, beginAccess s = { s with store := p } ∧ p.memory = s.store.memory ∧
    p.tilesBad = s.store.tilesBad ∧ p.timeouts = s.store.timeouts := by
  unfold beginAccess
  split
  · split
    · split
      · exact ⟨_, rfl, rfl, rfl, rfl⟩
      · exact ⟨s.store, rfl, rfl, rfl, rfl⟩
    · cases s.store.next <;> exact ⟨_, rfl, rfl, rfl, rfl⟩
  · exact ⟨s.store, rfl, rfl, rfl, rfl⟩

/-! ### A window request in each of its answers (R127) -/

theorem submitSheet_refused {w : State} (hq : w.rlc.answer ≠ .queued) (kind : FrameKind) (dest : Nat) (payload : List Byte)
    (who : Submitter) : submitSheet kind dest payload who w = w.countTransfers TransferCounters.notSent := by
  rw [submitSheet, if_neg hq]
  exact congrArg (fun r => { w.countTransfers TransferCounters.notSent with rlc := r }) (submit_refused hq ..)

theorem answer_full {r : RiserLink} (hb : r.blocks.any = false) (hc : 8 ≤ r.control.length) : r.answer = .queueFull := by
  rw [RiserLink.answer, hb, if_neg Bool.noConfusion, if_pos (show controlLimit ≤ _ from hc)]

theorem answer_noPath {r : RiserLink} (hb : r.blocks.any = true) : r.answer = .noPath := if_pos hb

section

variable {c : Nat} {w : State} {k : Channel}

/-- A channel's fields as it asks for a window up to a tile. -/
def Channel.asking (k : Channel) (last : Nat) : Channel := { k with wantWindow := false, window := some (k.fetch, last) }

/-- With an empty buffer a window's request is submitted. -/
theorem buildWindow_submits (hk : w.channel c = k) {n last : Nat}
    (hn : n = min 4 ((crewClaim c w).emptyBuffers c).length) (hpos : 1 ≤ n)
    (hlast : last = min (k.fetch + n - 1) k.curLast) :
    buildWindow c w = submitRequest c ((crewClaim c w).setChannel c (k.asking last)) := by
  rw [buildWindow, ← hn, if_neg (by omega), modChannel_eq ((crewClaim_channel c w c).trans hk), ← hlast]
  rfl

/-- A refused submission is counted, and the channel told (R90, R127, R135). -/
theorem submitRequest_refused (hk : w.channel c = k) {x : Nat × Nat} {a : Nat} (hw : k.window = some x)
    (ha : k.currentPeer = some a) :
    (w.rlc.answer = .queueFull → submitRequest c w =
      (w.countTransfers TransferCounters.notSent).setChannel c { k with queueFullWait := some w.clock }) ∧
    (w.rlc.answer = .noPath → submitRequest c w = channelNoPath c (w.countTransfers TransferCounters.notSent)) := by
  have hchannel : (w.countTransfers TransferCounters.notSent).channel c = k := hk
  refine ⟨fun hq => ?_, fun hq => ?_⟩
  all_goals
    have hrefused := submitSheet_refused (w := w) (by rw [hq]; exact fun h => nomatch h)
    unfold submitRequest
    simp only [hk, hw, ha, hq, hrefused]
  rw [modChannel_eq hchannel, ← hw]

/-- A submission with no block present changes of the channel its wait for room, and leaves the store. -/
theorem submitRequest_fetches (hc : c < 6) {z : State} {l : Channel} (hl : z.channel c = l) (hb : z.rlc.blocks.any = false)
    {last a : Nat} (hw : l.window = some (l.fetch, last)) (ha : l.currentPeer = some a) :
    (∃ wait, (submitRequest c z).channel c = { l with queueFullWait := wait }) ∧ (submitRequest c z).store = z.store := by
  by_cases hroom : z.rlc.control.length < 8
  · rw [submitRequest_queued hl hw ha (answer_queued hb hroom)]
    exact ⟨⟨_, State.setChannel_channel_same hc _ _⟩, rfl⟩
  · rw [(submitRequest_refused hl hw ha).1 (answer_full hb (Nat.not_lt.mp hroom))]
    exact ⟨⟨_, State.setChannel_channel_same hc _ _⟩, rfl⟩

/-- With no block present a window asked for changes of the channel what it waits for and its window, and leaves the
store. -/
theorem buildWindow_fetches (hc : c < 6) (hk : w.channel c = k) (hb : w.rlc.blocks.any = false) {a : Nat}
    (ha : k.currentPeer = some a) :
    (∃ want window wait, (buildWindow c w).channel c =
      { k with wantWindow := want, window := window, queueFullWait := wait }) ∧ (buildWindow c w).store = w.store := by
  have hstore : (crewClaim c w).store = w.store := by
    obtain ⟨buffers, h⟩ := crewClaim_eq c w
    rw [h]
    rfl
  by_cases hn : min 4 ((crewClaim c w).emptyBuffers c).length = 0
  · rw [buildWindow_waits hk hn]
    exact ⟨⟨_, _, _, State.setChannel_channel_same hc _ _⟩, hstore⟩
  · rw [buildWindow_submits hk rfl (by omega) rfl]
    have hrlc := crewClaim_rlc c w
    generalize min (k.fetch + min 4 ((crewClaim c w).emptyBuffers c).length - 1) k.curLast = last
    generalize crewClaim c w = z at hstore hrlc
    obtain ⟨⟨wait, hchannel⟩, hkept⟩ := submitRequest_fetches (z := z.setChannel c (k.asking last)) (l := k.asking last)
      (last := last) hc (State.setChannel_channel_same hc _ _) (by rw [State.setChannel_rlc, hrlc, hb]) rfl ha
    exact ⟨⟨_, _, _, hchannel⟩, hkept.trans hstore⟩

end

end Sys2Proof.Machine
end

section
/-! SUPPORT. The end of a tile read in each of its cases (R109, R110, R111, R126, R141). -/

namespace Sys2Proof.Machine

open Sys2Proof

/-! ### A remote path (R126) -/

theorem not_self {l : List Source} (h : Source.self ∉ l) : ∀ x ∈ l, (x == Source.self) = false := fun x hx =>
  beq_eq_false_iff_ne.mpr fun he => h (by rw [← he]; exact hx)

theorem afterSelf_none {k : Channel} (h : Source.self ∉ k.candidates) : k.afterSelf = 0 := by
  rw [Channel.afterSelf, List.findIdx?_eq_none_iff.mpr (not_self h)]

theorem afterSelf_append {k : Channel} {before rest : List Source} (hk : k.candidates = before ++ .self :: rest)
    (h : Source.self ∉ before) : k.afterSelf = before.length + 1 := by
  have hfirst : k.candidates.findIdx? (fun x => x == .self) = some before.length := by
    rw [hk, List.findIdx?_append, List.findIdx?_eq_none_iff.mpr (not_self h)]
    simp [List.findIdx?_cons]
  rw [Channel.afterSelf, hfirst]

/-- The candidates after the station itself. -/
theorem drop_afterSelf {k : Channel} {rest : List Source}
    (h : (Source.self ∉ k.candidates ∧ rest = k.candidates) ∨
      ∃ before, k.candidates = before ++ .self :: rest ∧ Source.self ∉ before) :
    k.candidates.drop k.afterSelf = rest := by
  rcases h with ⟨hno, rfl⟩ | ⟨before, hk, hno⟩
  · rw [afterSelf_none hno, List.drop_zero]
  · rw [afterSelf_append hk hno, hk, ← List.drop_drop, List.drop_left]
    rfl

theorem present_iff {s : State} {a : Nat} : s.present a = true ↔
    1 ≤ a ∧ a ≤ 62 ∧ a ≠ s.address ∧ (s.peer a).presence = .present := by
  simp [State.present, State.isPeer, validAddress, and_assoc]

/-- The candidate is a PRESENT peer. -/
def State.presentPeer (s : State) : Source → Bool
  | .self => false
  | .peer a => s.present a

theorem remotePath_eq (k : Channel) (s : State) :
    s.remotePath k = (!s.rlc.blocks.any && (k.candidates.drop k.afterSelf).any s.presentPeer) := rfl

theorem remotePath_iff {k : Channel} {s : State} {rest : List Source} (h : k.candidates.drop k.afterSelf = rest) :
    s.remotePath k = true ↔ s.rlc.blocks.any = false ∧ ∃ a, Source.peer a ∈ rest ∧ s.present a = true := by
  rw [remotePath_eq, h, Bool.and_eq_true, Bool.not_eq_true', List.any_eq_true]
  refine and_congr_right fun _ => ⟨fun ⟨x, hx, hp⟩ => ?_, fun ⟨a, ha, hp⟩ => ⟨.peer a, ha, hp⟩⟩
  cases x with
  | self => exact Bool.noConfusion hp
  | peer a => exact ⟨a, hx, hp⟩

/-! ### The move to a remote candidate -/

section

variable {c : Nat} {w : State} {k : Channel}

/-- The first candidate that serves is the one after some that do not. -/
theorem nextSource_after {passed before after : List Source} {a : Nat}
    (hk : k.candidates = passed ++ (before ++ .peer a :: after)) (hpos : k.position = passed.length)
    (hbefore : ∀ x ∈ before, ∃ y, x = .peer y ∧ w.present y = false) (ha : w.present a = true) :
    w.nextSource k = some (passed.length + before.length) := by
  have hhere : k.candidates[passed.length + before.length]? = some (.peer a) := by
    rw [hk, List.getElem?_append_right (Nat.le_add_right ..), Nat.add_sub_cancel_left, List.getElem?_append_right le_rfl,
      Nat.sub_self]
    rfl
  rw [State.nextSource, List.find?_range_eq_some]
  refine ⟨?_, List.mem_range.mpr (List.getElem?_eq_some_iff.mp hhere).1, fun i hi => ?_⟩
  · simp [hhere, hpos, State.serves, ha]
  · by_cases hle : passed.length ≤ i
    · have hlt : i - passed.length < before.length := by omega
      have hi : k.candidates[i]? = some before[i - passed.length] := by
        rw [hk, List.getElem?_append_right hle, List.getElem?_append_left hlt, List.getElem?_eq_getElem hlt]
      obtain ⟨y, hy, hlost⟩ := hbefore _ (List.getElem_mem hlt)
      simp [hi, hy, State.serves, hlost]
    · simp [hpos, hle]

/-- The channel asks the candidate it has found (R123). -/
theorem chooseSource_fetches (hc : c < 6) (hk : w.channel c = k) (hb : w.rlc.blocks.any = false) {i a : Nat}
    (hi : w.nextSource k = some i) (ha : k.candidates[i]? = some (.peer a)) :
    (∃ want window wait, (chooseSource c w).channel c = { k with
      position := i, state := .request, wantWindow := want, window := window, queueFullWait := wait }) ∧
    (chooseSource c w).store = w.store := by
  simp only [chooseSource, hk, hi, enterSource, ha]
  exact buildWindow_fetches (w := w.setChannel c { k with position := i, state := .request, window := none })
    (k := { k with position := i, state := .request, window := none }) (a := a)
    hc (State.setChannel_channel_same hc _ w) hb (by rw [Channel.currentPeer, Channel.current, ha])

/-- Of some candidates without the station itself a PRESENT one comes first. -/
theorem firstPresent {rest : List Source} (h : ∃ a, Source.peer a ∈ rest ∧ w.present a = true) (hself : Source.self ∉ rest) :
    ∃ a before after, rest = before ++ .peer a :: after ∧ w.present a = true ∧
      ∀ x ∈ before, ∃ y, x = .peer y ∧ w.present y = false := by
  obtain ⟨a, hmem, hpresent⟩ := h
  obtain ⟨x, hx⟩ : ∃ x, rest.find? w.presentPeer = some x :=
    Option.isSome_iff_exists.mp (List.find?_isSome.mpr ⟨_, hmem, hpresent⟩)
  obtain ⟨hserves, before, after, hrest, hbefore⟩ := List.find?_eq_some_iff_append.mp hx
  cases x with
  | self => exact Bool.noConfusion hserves
  | peer a =>
    refine ⟨a, before, after, hrest, hserves, fun x hx => ?_⟩
    cases x with
    | self => exact absurd (by rw [hrest]; exact List.mem_append_left _ hx) hself
    | peer y => exact ⟨y, rfl, by simpa [State.presentPeer] using hbefore _ hx⟩

/-- Discarding tiles changes buffers. -/
theorem discardTiles_buffers (c : Nat) (test : Nat → Bool) (s : State) : ∃ buffers, discardTiles c test s = s.withBuffers buffers := by
  have hone : ∀ (t : State) b, ∃ buffers, discardTile c test t b = t.withBuffers buffers := fun t b => by
    rw [discardTile_eq]
    split
    · exact ⟨_, rfl⟩
    · exact ⟨t.ste.buffers, rfl⟩
  unfold discardTiles
  generalize List.range 16 = l
  induction l generalizing s with
  | nil => exact ⟨s.ste.buffers, rfl⟩
  | cons b rest ih =>
    obtain ⟨first, hfirst⟩ := hone s b
    obtain ⟨buffers, h⟩ := ih (discardTile c test s b)
    exact ⟨buffers, by rw [List.foldl_cons, h, hfirst]; rfl⟩

/-- A BAD tile of a LOCAL channel with a remote path brings it to its first PRESENT candidate after the station itself, at
that tile (R126). -/
theorem localBad_moves (hc : c < 6) (hk : w.channel c = k) (n : Nat) {rest : List Source}
    (hcand : k.candidates = .self :: rest) (hself : Source.self ∉ rest) (hpath : w.remotePath k = true) :
    ∃ u a, localBad c n w = u ∧ (u.channel c).state = .request ∧ (u.channel c).currentPeer = some a ∧ w.present a = true ∧
      (∃ before after, rest = before ++ .peer a :: after ∧ ∀ y, .peer y ∈ before → w.present y = false) ∧
      (u.channel c).fetch = n ∧ (u.channel c).record = k.record ∧ (u.channel c).pinned = k.pinned ∧ u.readList c = [] ∧
      u.store.tilesBad = w.store.tilesBad ∧ u.store.timeouts = w.store.timeouts := by
  have hafter : k.afterSelf = 1 := afterSelf_append (before := []) hcand (List.not_mem_nil)
  obtain ⟨hb, hsome⟩ := (remotePath_iff (rest := rest) (by rw [hafter, hcand]; rfl)).mp hpath
  obtain ⟨a, before, after, hrest, ha, hbefore⟩ := firstPresent hsome hself
  obtain ⟨first, hwithdrawn, -⟩ := withdrawReads_eq c w
  obtain ⟨second, hdropped⟩ := discardTiles_buffers c (fun t => decide (n < t)) (withdrawReads c w)
  obtain ⟨y, hy⟩ : ∃ y, y = (w.readsGone c).withBuffers second := ⟨_, rfl⟩
  have hgone : discardTiles c (fun t => decide (n < t)) (withdrawReads c w) = y := by
    rw [hdropped, hwithdrawn, hy]
    rfl
  have hyk : y.channel c = k := by rw [hy]; exact hk
  obtain ⟨l, hl⟩ : ∃ l, l = { k.leave with fetch := n, position := 1 } := ⟨_, rfl⟩
  have hbad : localBad c n w = chooseSource c (y.setChannel c l) := by
    simp only [localBad, hk, hpath, if_true, hgone]
    rw [modChannel_eq hyk, hl, hafter]
  have hlcand : l.candidates = [.self] ++ (before ++ .peer a :: after) := by rw [hl, ← hrest]; exact hcand
  have hpresent : ∀ b, (y.setChannel c l).present b = w.present b := fun b => by rw [hy]; rfl
  have hnext : (y.setChannel c l).nextSource l = some (1 + before.length) :=
    nextSource_after hlcand (by rw [hl]; rfl)
      (fun x hx => (hbefore x hx).imp fun b ⟨he, hlost⟩ => ⟨he, (hpresent b).trans hlost⟩) ((hpresent a).trans ha)
  have hcurrent : l.candidates[1 + before.length]? = some (.peer a) := by rw [hlcand]; simp [Nat.add_comm]
  obtain ⟨⟨want, window, wait, hchannel⟩, hstore⟩ := chooseSource_fetches (w := y.setChannel c l) hc
    (State.setChannel_channel_same hc _ _) (by rw [hy]; exact hb) hnext hcurrent
  have hread : ((y.setChannel c l).readList c) = [] := by rw [hy]; exact (readsGone_readList hc w).1
  refine ⟨_, a, hbad, by rw [hchannel], ?_, ha, ⟨before, after, hrest, fun b hb => ?_⟩, ?_⟩
  · rw [hchannel, Channel.currentPeer, Channel.current]
    dsimp only
    rw [hcurrent]
  · obtain ⟨_, he, hlost⟩ := hbefore _ hb
    rw [Source.peer.inj he]
    exact hlost
  · rw [hchannel, State.readList, hstore]
    exact ⟨by rw [hl], by rw [hl]; rfl, by rw [hl]; rfl, hread, by rw [hy]; exact ⟨rfl, rfl⟩⟩

end

/-! ### The end of a service (R141) -/

/-- A service told STORE_FAULT ends, its SHEET REFUSE counted, and queued where there is room. -/
theorem endService_refused {c : Nat} (hc : c < 6) (w : State) (x tag : Nat) :
    ∃ u, endService c (submitRefuse x tag .storeFault w) = u ∧ u.channel c = Channel.freed ∧
      u.ste.counters.serveRefuses = min 65535 (w.ste.counters.serveRefuses + 1) ∧
      u.store.tilesBad = w.store.tilesBad ∧ u.store.timeouts = w.store.timeouts ∧
      (w.rlc.blocks.any = false → w.rlc.control.length < 8 → u.rlc.control = w.rlc.control ++
        [{ kind := .sheetRefuse, dest := x, payload := [byte tag, 4#8], submitter := .refuse, withdrawn := false }]) := by
  obtain ⟨t, ht⟩ : ∃ t, t = submitRefuse x tag .storeFault w := ⟨_, rfl⟩
  have hcounters : t.ste.counters.serveRefuses = min 65535 (w.ste.counters.serveRefuses + 1) ∧ t.store = w.store := by
    rw [ht, submitRefuse, submitSheet]
    split <;> exact ⟨rfl, rfl⟩
  have hqueued : w.rlc.blocks.any = false → w.rlc.control.length < 8 → t.rlc.control = w.rlc.control ++
      [{ kind := .sheetRefuse, dest := x, payload := [byte tag, 4#8], submitter := .refuse, withdrawn := false }] :=
    fun hb hroom => by
      have hq : (w.countTransfers fun n => { n with serveRefuses := countUp n.serveRefuses }).rlc.answer = .queued :=
        answer_queued (r := w.rlc) hb hroom
      rw [ht, submitRefuse, submitSheet_queued hq]
      rfl
  rw [← ht]
  have hclosed := channelClosed hc t
  obtain ⟨u, hu⟩ : ∃ u, u = closeChannel c t := ⟨_, rfl⟩
  rw [← hu] at hclosed
  have hrest := hclosed.rest
  have hstore : ∀ f : PlanStore → Nat, (∀ p lists access, f { p with lists := lists, access := access } = f p) →
      f u.store = f w.store := fun f hf => by
    rw [← hcounters.2, ← congrArg (fun v => f v.store) hrest]
    exact (hf ..).symm
  refine ⟨u, hu.symm, hclosed.freed.1, ?_, hstore (·.tilesBad) fun _ _ _ => rfl, hstore (·.timeouts) fun _ _ _ => rfl,
    fun hb hroom => hclosed.control.1.trans (hqueued hb hroom)⟩
  have hkept : u.ste.counters = t.ste.counters := congrArg (·.ste.counters) hrest
  rw [hkept, hcounters.1]

/-- A channel that is not FREE is one of the six. -/
theorem channel_lt {s : State} {c : Nat} (h : (s.channel c).state ≠ .free) : c < 6 := by
  by_contra hc
  have hbeyond : s.channel c = Channel.freed := by
    rw [State.channel, tget_eq, List.getD_eq_getElem?_getD, List.getElem?_eq_none (by simpa using hc)]
    rfl
  exact h (by rw [hbeyond]; rfl)

/-! ### The event -/

/-- A tile read in progress of state `s` ends: `good` or BAD, and `z` is the state with the result counted and the store
free. -/
def TileReadOver (s : State) (r : TileRead) (begun : Nat) (bytes : List Byte) (cmd : Instr) (good : Bool) (z : State) : Prop :=
  (cmd = .tileReadEnd ∧ s.clock - begun ≤ 1 ∧ r.record.location + 258 * r.tile + 258 ≤ 67108864 ∧
    (((crc16 (bytes.take 256)).toNat = halfAt bytes 256 ∧ good = true ∧
        z = { s with store := { s.store with tilesOk := min 65535 (s.store.tilesOk + 1), access := .free } }) ∨
      ((crc16 (bytes.take 256)).toNat ≠ halfAt bytes 256 ∧ good = false ∧
        z = { s with store := { s.store with tilesBad := min 65535 (s.store.tilesBad + 1), access := .free } }))) ∨
  (((cmd = .tileReadEnd ∧ 1 < s.clock - begun) ∨ (cmd = .tileReadTimeout ∧ 1 ≤ s.clock - begun)) ∧ good = false ∧
    z = { s with store := { s.store with timeouts := min 65535 (s.store.timeouts + 1), access := .free } })

section

variable {s z : State} {r : TileRead} {begun : Nat} {d good : Bool} {bytes : List Byte} {cmd : Instr}

/-- The data that the end of a read hands on. -/
def tileOf (good : Bool) (bytes : List Byte) : Option (List Byte) := if good = true then some (bytes.take 256) else none

/-- What a read that has ended does in state `v`, where its result is counted (R109 to R111). -/
def State.readOver (r : TileRead) (d : Bool) (data : Option (List Byte)) (v : State) : State :=
  if d = true then bufferOver r.buffer (beginAccess v) else readResult r data (beginAccess v)

/-- A read past its 1 ms. -/
theorem tileTooLate_eq (r : TileRead) (d : Bool) (s : State) : tileTooLate r d s = State.readOver r d none
    { s with store := { s.store with timeouts := min 65535 (s.store.timeouts + 1), access := .free } } := by
  have hcounted : ((s.modStore fun p => { p with timeouts := countUp p.timeouts }).modStore fun p => { p with access := .free }) =
    { s with store := { s.store with timeouts := min 65535 (s.store.timeouts + 1), access := .free } } := rfl
  rw [← hcounted]
  rfl

/-- A read that the flash has delivered. -/
theorem tileDelivered_eq {data : Option (List Byte)}
    (h : tileData (s.store.memory.readRange (r.record.location + 258 * r.tile) 258) = data) (d : Bool) :
    tileDelivered r d s =
      State.readOver r d data { s with store := { s.store.countRead data.isSome with access := .free } } := by
  rw [tileDelivered, TileRead.offset, h]
  rfl

/-- Each row that ends a read begins the next access, and hands the result on or gives the buffer of a withdrawn read back. -/
theorem exec_tileReadOver (hheld : s.held = false) (ha : s.store.access = .tile r begun d)
    (hbytes : bytes = s.store.memory.readRange (r.record.location + 258 * r.tile) 258)
    (h : TileReadOver s r begun bytes cmd good z) :
    exec cmd s = .next (settle s (State.readOver r d (tileOf good bytes) z)) := by
  rcases h with ⟨rfl, ht, hend, hdata⟩ | ⟨hcmd, rfl, rfl⟩
  · have hwithin : ¬((r.beyond && !s.held) = true) := by
      have : r.beyond = false := decide_eq_false (Nat.not_lt.mpr hend)
      rw [this]
      exact Bool.false_ne_true
    have hexec : exec .tileReadEnd s = event (tileDelivered r d) s := by
      refine Eq.trans (b := execTileReadEnd s) rfl ?_
      rw [execTileReadEnd, ha]
      dsimp only
      rw [if_pos (inTime_eq (limit := readLimit) ht), if_neg hwithin]
    rw [hexec]
    rcases hdata with ⟨hcrc, rfl, rfl⟩ | ⟨hcrc, rfl, rfl⟩
    · exact event_eq hheld (tileDelivered_eq (data := some (bytes.take 256)) (by rw [← hbytes]; exact if_pos hcrc) d)
    · exact event_eq hheld (tileDelivered_eq (data := none) (by rw [← hbytes]; exact if_neg hcrc) d)
  · rcases hcmd with ⟨rfl, ht⟩ | ⟨rfl, ht⟩
    · have hexec : exec .tileReadEnd s = event (tileTooLate r d) s := by
        refine Eq.trans (b := execTileReadEnd s) rfl ?_
        rw [execTileReadEnd, ha]
        dsimp only
        rw [if_neg (by rw [late_eq (limit := readLimit) ht]; exact Bool.false_ne_true)]
      exact hexec.trans (event_eq hheld (tileTooLate_eq r d s))
    · refine event_eq (f := tileReadTimeout) hheld (Eq.trans ?_ (tileTooLate_eq r d s))
      rw [tileReadTimeout, ha]
      exact if_pos ht

/-- The counted result changes the store alone, and of it the counts. -/
theorem TileReadOver.store (h : TileReadOver s r begun bytes cmd good z) : z = { s with store := z.store } ∧
    z.store.access = .free ∧ z.store.waiting = s.store.waiting ∧ z.store.rotation = s.store.rotation ∧
    z.store.lists = s.store.lists ∧ z.store.memory = s.store.memory := by
  rcases h with ⟨-, -, -, ⟨-, -, rfl⟩ | ⟨-, -, rfl⟩⟩ | ⟨-, -, rfl⟩ <;> exact ⟨rfl, rfl, rfl, rfl, rfl, rfl⟩

end

/-- The next access of a free store: the waiting operation, or the next channel's first read (R109). -/
theorem beginAccess_takes {z : State} (hfree : z.store.access = .free) :
    (∀ op w, z.store.waiting = some (op, w) →
      beginAccess z = { z with store := { z.store with access := op.begin z.clock w, waiting := none } }) ∧
    (z.store.waiting = none →
      ((∀ c < 6, z.readList c = []) → beginAccess z = z) ∧
      (∀ k < 6, ∀ c q rest, c = (z.store.rotation + 1 + k) % 6 → z.readList c = q :: rest → q.channel = c →
        q.tile < q.record.tileCount → (∀ j < k, z.readList ((z.store.rotation + 1 + j) % 6) = []) →
        (beginAccess z).store.access = .tile q z.clock false ∧ (beginAccess z).store.rotation = c ∧
        (beginAccess z).readList c = rest ∧ ∀ e < 6, e ≠ c → (beginAccess z).readList e = z.readList e)) := by
  obtain ⟨hmaintenance, hnothing, htile⟩ := beginAccess_cases hfree
  refine ⟨fun op w hw => hmaintenance op w (next_waiting hw), fun hw => ⟨fun hall => hnothing (next_nothing hw hall),
    fun k hk c q rest hc hl hq hcount hearlier => ?_⟩⟩
  have hbegun : beginAccess z = z.readBegun q :=
    (htile q (next_tile hw hk hc hl hearlier)).trans (if_pos hcount)
  obtain ⟨hfirst, hothers⟩ := readBegun_lists (q := q) (by rw [hq, hc]; exact Nat.mod_lt _ (by decide)) z
  rw [hq] at hfirst hothers
  rw [hbegun]
  exact ⟨rfl, hq, hfirst.trans (by rw [hl]; rfl), fun e _ he => hothers e he⟩

end Sys2Proof.Machine

open Sys2Proof Sys2Proof.Machine

/-- Settles O40: the remote path by the candidates after the station itself, and each end of a tile read from the access
that the store begins first. -/
theorem tileReadsEnd : Obligations.TileReadsEnd := by
  refine ⟨fun s k rest h => ?_, fun s r begun d bytes hheld ha hbytes => ⟨fun ht hend => ?_, fun cmd good z h => ?_⟩⟩
  · simp only [remotePath_iff (drop_afterSelf h), present_iff]
  · refine Eq.trans (b := execTileReadEnd s) rfl ?_
    have hbeyond : r.beyond = true := decide_eq_true hend
    rw [execTileReadEnd, ha]
    dsimp only
    rw [if_pos (inTime_eq (limit := readLimit) ht), hbeyond, hheld]
    rfl
  have hover : TileReadOver s r begun bytes cmd good z := h
  clear h
  have hexec := exec_tileReadOver hheld ha hbytes hover
  obtain ⟨hz, hfree, hwaiting, hrotation, hlists, hmemory⟩ := hover.store
  obtain ⟨p, hbegun, hkeptMemory, hbad, htimeouts⟩ := beginAccess_store z
  obtain ⟨hoperation, htile⟩ := beginAccess_takes hfree
  have hw : beginAccess z = { s with store := p } := by rw [hbegun, hz]
  have hlist : ∀ c, z.readList c = s.readList c := fun c => by unfold State.readList; rw [hlists]
  have hclock : z.clock = s.clock := by rw [hz]
  obtain ⟨y, hy⟩ : ∃ y : State, y = ({ s with store := p } : State).setBuffer r.buffer
    { holder := (s.buffer r.buffer).holder, state := .empty } := ⟨_, rfl⟩
  have hread : d = false → good = false → exec cmd s = .next (settle s (match (s.channel r.channel).state with
      | .localStore => localBad r.channel r.tile y
      | .serve => endService r.channel (submitRefuse (s.channel r.channel).requester.1 (s.channel r.channel).requester.2
        .storeFault y)
      | .free | .request | .receive => y)) := by
    rintro rfl rfl
    rw [hexec, State.readOver, hw, hy]
    rfl
  have hlt : (s.channel r.channel).state ≠ .free → r.channel < 6 := channel_lt
  have hcounts : y.store.tilesBad = z.store.tilesBad ∧ y.store.timeouts = z.store.timeouts := by
    rw [hy]; exact ⟨hbad, htimeouts⟩
  have hyk : y.channel r.channel = s.channel r.channel := by rw [hy]; rfl
  refine ⟨?_, fun hd hg hstate hpath => ?_, fun rest hd hg hstate hcand hself hpath => ?_, fun hd hg hstate => ?_,
    fun hd => ⟨fun hholder => ?_, fun c k hholder hk => ?_, ?_⟩, ?_, ?_, ?_, fun hnone => ?_⟩
  · rintro rfl rfl
    rw [hexec, State.readOver, hw]
    rfl
  · have hybad : localBad r.channel r.tile y = y.setChannel r.channel
        { s.channel r.channel with missingDue := (s.channel r.channel).missingDue ++ [r.tile] } := by
      have hypath : y.remotePath (s.channel r.channel) = false := by rw [hy]; exact hpath
      simp only [localBad, hyk, hypath, Bool.false_eq_true, if_false]
      exact modChannel_eq hyk _
    rw [hread hd hg, hstate, hw]
    dsimp only
    rw [hybad, hy]
  · have hypath : y.remotePath (s.channel r.channel) = true := by rw [hy]; exact hpath
    obtain ⟨u, a, hu, hrequest, hpeer, hpresent, hfirst, hfetch, hrecord, hpinned, hreads, hcountBad, hcountLate⟩ :=
      localBad_moves (hlt (by rw [hstate]; decide)) hyk r.tile hcand hself hypath
    refine ⟨u, a, ?_, hrequest, hpeer, ?_, ?_, hfetch, hrecord, hpinned, hreads, hcountBad.trans hcounts.1,
      hcountLate.trans hcounts.2⟩
    · rw [hread hd hg, hstate]
      dsimp only
      rw [hu]
    · rw [hy] at hpresent; exact hpresent
    · rw [hy] at hfirst; exact hfirst
  · obtain ⟨u, hu, hfreed, hrefuses, hcountBad, hcountLate, hqueued⟩ := endService_refused (hlt (by rw [hstate]; decide)) y
      (s.channel r.channel).requester.1 (s.channel r.channel).requester.2
    refine ⟨u, ?_, hfreed, ?_, hcountBad.trans hcounts.1, hcountLate.trans hcounts.2, fun x tag hx hb hroom => ?_⟩
    · rw [hread hd hg, hstate]
      dsimp only
      rw [hu]
    · rw [hrefuses, hy]; rfl
    · rw [Channel.requester, hx] at hqueued
      rw [hy] at hqueued
      exact hqueued hb hroom
  · rw [hexec, State.readOver, if_pos hd, bufferOver, hw]
    have : (({ s with store := p } : State).buffer r.buffer).holder = none := hholder
    rw [this]
  · subst hk
    rw [hexec, State.readOver, if_pos hd, bufferOver, hw]
    have : (({ s with store := p } : State).buffer r.buffer).holder = some c := hholder
    rw [this]
    dsimp only
    rw [← apply_ite (fun x => ({ s with store := p } : State).setBuffer r.buffer x)]
    rfl
  · rw [hw]
  · rw [hw]
  · rw [hbegun]
    exact hkeptMemory.trans hmemory
  · exact fun op w hop => by rw [← hclock]; exact hoperation op w (hwaiting.trans hop)
  · simp only [← hlist, ← hrotation, ← hclock]
    exact htile (hwaiting.trans hnone)

end

section
/-! SUPPORT. The end of a crew transfer whole (R136): what it withdraws of the CONTROL queue, and the channel it leaves. -/

namespace Sys2Proof.Machine

open Sys2Proof

/-! ### Requests withdrawn (R90) -/

theorem isRequestOf_iff {c : Nat} {e : ControlEntry} : e.isRequestOf c = true ↔ e.OfChannel c := by
  unfold ControlEntry.isRequestOf ControlEntry.OfChannel
  cases e.submitter with
  | request k gap => cases gap <;> simp
  | mark => simp
  | refuse => simp
  | cancel => simp

theorem notRequestOf_eq (c : Nat) : (fun e : ControlEntry => !e.isRequestOf c) = fun e => decide (¬e.OfChannel c) := by
  funext e
  rw [decide_not, ← Bool.decide_congr isRequestOf_iff, Bool.decide_eq_true]

theorem sendingHead_iff {r : RiserLink} : r.sendingHead = true ↔ ∃ x, r.tx = some x ∧ x.source = .control := by
  unfold RiserLink.sendingHead
  cases r.tx with
  | none => simp
  | some x => simp

theorem requestsWithdrawn (c : Nat) (r : RiserLink) : RequestsWithdrawn c r (r.withdrawRequests c).control := by
  have hqueue : ∀ e rest, r.control = e :: rest → (r.withdrawRequests c).control =
      (if e.isRequestOf c then (if r.sendingHead then [{ e with withdrawn := true }] else []) else [e]) ++
        rest.filter fun x => decide (¬x.OfChannel c) := fun e rest h => by
    rw [RiserLink.withdrawRequests, h, notRequestOf_eq]
  refine ⟨fun h => by rw [RiserLink.withdrawRequests, h], fun e rest h he => ?_, fun e rest h he hline => ?_,
    fun e rest h he hline => ?_⟩ <;> rw [hqueue e rest h]
  · rw [if_neg (by rwa [isRequestOf_iff])]
    rfl
  · have hnot : ¬r.sendingHead = true := fun hs => by
      obtain ⟨x, hx, hsource⟩ := sendingHead_iff.mp hs
      exact hline x hx hsource
    rw [if_pos (isRequestOf_iff.mpr he), if_neg hnot]
    rfl
  · rw [if_pos (isRequestOf_iff.mpr he), if_pos (sendingHead_iff.mpr hline)]
    rfl

/-! ### Tiles dropped, whatever the queue and the channels hold -/

theorem discardTiles_withdrawRequest (c : Nat) (test : Nat → Bool) (s : State) :
    discardTiles c test (withdrawRequest c s) = withdrawRequest c (discardTiles c test s) := by
  unfold discardTiles
  generalize List.range 16 = l
  induction l generalizing s with
  | nil => rfl
  | cons b rest ih =>
    have hone : discardTile c test (withdrawRequest c s) b = withdrawRequest c (discardTile c test s b) := by
      rw [discardTile_eq, discardTile_eq]
      have hsame : (withdrawRequest c s).discards c test b = s.discards c test b := rfl
      rw [hsame]
      split <;> rfl
    rw [List.foldl_cons, hone, ih, List.foldl_cons]

theorem TilesDropped.setChannel {c : Nat} {v w : State} (h : TilesDropped c v w) (d : Nat) (k : Channel) :
    TilesDropped c (v.setChannel d k) (w.setChannel d k) :=
  ⟨h.reads, h.withdrawn, h.discarded, h.kept, h.access, congrArg (State.setChannel d k) h.rest⟩

theorem TilesDropped.channel {c : Nat} {v w : State} (h : TilesDropped c v w) (d : Nat) : w.channel d = v.channel d :=
  (congrArg (fun x : State => x.channel d) h.rest :)

theorem TilesDropped.rlc {c : Nat} {v w : State} (h : TilesDropped c v w) : w.rlc = v.rlc :=
  (congrArg (fun x : State => x.rlc) h.rest :)

/-! ### The end of a transfer (R136) -/

/-- The fields of a channel whose transfer has ended. -/
def Channel.endedWith (result : TransferResult) (k : Channel) : Channel :=
  { k.stopped with window := none, missingDue := [], result := some result }

theorem ended_eq {result : TransferResult} (h : result ≠ .restart) (n : TransferCounters) : n.ended result =
    if result = .done then { n with done := countUp n.done } else { n with failed := countUp n.failed } := by
  cases result with
  | done => rfl
  | failed _ => rfl
  | restart => exact absurd rfl h

/-- A transfer ends so from every state that differs in what the end stops. -/
theorem transferEnded_of {c : Nat} (hc : c < 6) {result : TransferResult} (hresult : result ≠ .restart) (v : State)
    {k l : Channel} (hk : v.channel c = k) (hkl : k.endedWith result = l.endedWith result) :
    TransferEnded c result (v.setChannel c l) (endTransfer c result v) := by
  have hdropped := tilesDropped hc v
  obtain ⟨w, hw⟩ : ∃ w, w = discardTiles c (fun _ => true) (withdrawReads c v) := ⟨_, rfl⟩
  rw [← hw] at hdropped
  have hwk : (withdrawRequest c w).channel c = k := (hdropped.channel c).trans hk
  have hcounted : (fun n : TransferCounters => n.ended result) = fun n =>
      if result = .done then { n with done := countUp n.done } else { n with failed := countUp n.failed } :=
    funext (ended_eq hresult)
  have hend : endTransfer c result v =
      ((withdrawRequest c w).setChannel c (k.endedWith result)).countTransfers fun n => n.ended result := by
    rw [endTransfer, discardTiles_withdrawRequest, ← hw, modChannel_eq hwk]
    rfl
  refine ⟨w.setChannel c l, (v.rlc.withdrawRequests c).control, hdropped.setChannel c l, requestsWithdrawn c v.rlc, ?_⟩
  rw [hend, hkl, hcounted, State.setChannel_channel_same hc, ← hdropped.rlc, ← setChannel_setChannel c l (l.endedWith result)]
  rfl

/-- A transfer that ends (R136). -/
theorem transferEnded {c : Nat} (hc : c < 6) {result : TransferResult} (hresult : result ≠ .restart) (v : State) :
    TransferEnded c result v (endTransfer c result v) := by
  have h := transferEnded_of hc hresult v (k := v.channel c) rfl rfl
  rwa [setChannel_self rfl] at h

end Sys2Proof.Machine
end

section
/-! SUPPORT. The store reads that a channel places (R108, R124, R140). -/

namespace Sys2Proof.Machine

open Sys2Proof

/-! ### One read request for each buffer of a list -/

/-- Between `v` and `u` channel `c`, with the fields `k`, has placed a read request of record `r` with each of the first `n`
buffers of a list, and nothing else has happened. -/
structure PlacedInto (c : Nat) (r : SheetRecord) (l : List Nat) (k : Channel) (n : Nat) (v u : State) : Prop where
  channel : u.channel c = { k with fetch := k.fetch + n }
  reads : u.readList c = v.readList c ++
    (List.range n).map fun i => { channel := c, record := r, tile := k.fetch + i, buffer := l.getD i 0 }
  taken : ∀ i < n, u.buffer (l.getD i 0) = { holder := some c, state := .reading (k.fetch + i) }
  left : ∀ b < 16, b ∉ l.take n → u.buffer b = v.buffer b
  others : ∀ d < 6, d ≠ c → u.channel d = v.channel d ∧ u.readList d = v.readList d
  rest : { u with
      ste := { u.ste with channels := v.ste.channels, buffers := v.ste.buffers }
      store := { u.store with lists := v.store.lists } } = v

section

variable {c : Nat} {r : SheetRecord} {v : State} {k : Channel}

theorem placedInto_none (hk : v.channel c = k) (l : List Nat) : PlacedInto c r l k 0 v v :=
  { channel := hk
    reads := (List.append_nil _).symm
    taken := fun i hi => absurd hi (Nat.not_lt_zero i)
    left := fun _ _ _ => rfl
    others := fun _ _ _ => ⟨rfl, rfl⟩
    rest := rfl }

/-- The state in which a channel has placed its next request with a buffer it holds. -/
def State.readPlaced (c : Nat) (r : SheetRecord) (k : Channel) (b : Nat) (v : State) : State :=
  ((v.setReadList c (v.readList c ++ [{ channel := c, record := r, tile := k.fetch, buffer := b }])).setBuffer b
    { holder := some c, state := .reading k.fetch }).setChannel c { k with fetch := k.fetch + 1 }

theorem placeOne_eq (hk : v.channel c = k) {b : Nat} (hheld : (v.buffer b).holder = some c) :
    placeOne c r v b = if k.fetch ≤ k.lastRead then v.readPlaced c r k b else v := by
  rw [placeOne, hk]
  refine if_congr Iff.rfl ?_ rfl
  have hchannel : (placeRead c k.fetch b r v).channel c = k := hk
  rw [modChannel_eq hchannel]
  have hbuffer : { v.buffer b with state := .reading k.fetch } =
      ({ holder := some c, state := .reading k.fetch } : TileBuffer) := by rw [← hheld]
  rw [State.readPlaced, ← hbuffer]
  rfl

/-- One request placed and then others. -/
theorem PlacedInto.cons (hc : c < 6) {b n : Nat} {l : List Nat} {u : State} (hb : b < 16)
    (hnot : b ∉ l) (h : PlacedInto c r l { k with fetch := k.fetch + 1 } n (v.readPlaced c r k b) u) :
    PlacedInto c r (b :: l) k (n + 1) v u := by
  have hlist : (v.readPlaced c r k b).readList c = v.readList c ++ [⟨c, r, k.fetch, b⟩] := tget_tset_same _ _ hc _
  have hshift : ∀ i, k.fetch + 1 + i = k.fetch + (i + 1) := fun i => by omega
  refine
    { channel := h.channel.trans (by rw [hshift])
      reads := ?_
      taken := fun i hi => ?_
      left := fun x hx hfree => ?_
      others := fun d hd hne => ?_
      rest := ?_ }
  · rw [h.reads, hlist, List.range_succ_eq_map, List.append_assoc]
    simp [hshift, Function.comp_def]
  · cases i with
    | zero =>
      refine (h.left b hb fun hmem => hnot (List.mem_of_mem_take hmem)).trans ?_
      exact State.setBuffer_buffer_same hb ..
    | succ i => rw [← hshift]; exact h.taken i (Nat.lt_of_succ_lt_succ hi)
  · rw [List.take_succ_cons, List.mem_cons, not_or] at hfree
    exact (h.left x hx hfree.2).trans (State.setBuffer_buffer_ne (Ne.symm hfree.1) ..)
  · obtain ⟨hchannel, hreads⟩ := h.others d hd hne
    exact ⟨hchannel.trans (State.setChannel_channel_ne (Ne.symm hne) ..), hreads.trans (tget_tset_ne _ _ (Ne.symm hne) _)⟩
  · have hrest := congrArg (fun w : State => { w with
        ste := { w.ste with channels := v.ste.channels, buffers := v.ste.buffers }
        store := { w.store with lists := v.store.lists } }) h.rest
    exact hrest

/-- A channel's requests go to the first buffers of a list, as far as there are tiles to read. -/
theorem placeOnes (hc : c < 6) {l : List Nat} (hnodup : l.Nodup) (hlt : ∀ b ∈ l, b < 16) (hk : v.channel c = k)
    (hheld : ∀ b ∈ l, (v.buffer b).holder = some c) :
    PlacedInto c r l k (min l.length (k.lastRead + 1 - k.fetch)) v (l.foldl (placeOne c r) v) := by
  induction l generalizing v k with
  | nil =>
    rw [List.length_nil, Nat.zero_min]
    exact placedInto_none hk []
  | cons b rest ih =>
    obtain ⟨hnot, hrest⟩ := List.nodup_cons.mp hnodup
    rw [List.foldl_cons, placeOne_eq hk (hheld b List.mem_cons_self)]
    by_cases hroom : k.fetch ≤ k.lastRead
    · rw [if_pos hroom]
      have hlast : ({ k with fetch := k.fetch + 1 } : Channel).lastRead = k.lastRead := by unfold Channel.lastRead; rfl
      have hn : min (b :: rest).length (k.lastRead + 1 - k.fetch) = min rest.length (k.lastRead + 1 - (k.fetch + 1)) + 1 := by
        rw [List.length_cons]; omega
      rw [hn]
      refine PlacedInto.cons hc (hlt b List.mem_cons_self) hnot ?_
      rw [← hlast]
      refine ih hrest (fun x hx => hlt x (List.mem_cons_of_mem b hx)) (State.setChannel_channel_same hc ..) fun x hx => ?_
      have hne : b ≠ x := fun he => hnot (he ▸ hx)
      exact (congrArg TileBuffer.holder (State.setBuffer_buffer_ne hne ..)).trans (hheld x (List.mem_cons_of_mem b hx))
    · rw [if_neg hroom, show k.lastRead + 1 - k.fetch = 0 by omega, Nat.min_zero]
      have h := ih hrest (fun x hx => hlt x (List.mem_cons_of_mem b hx)) hk fun x hx => hheld x (List.mem_cons_of_mem b hx)
      rw [show k.lastRead + 1 - k.fetch = 0 by omega, Nat.min_zero] at h
      exact { h with taken := fun i hi => absurd hi (Nat.not_lt_zero i) }

/-- What a channel's reads place of it (R124, R140). -/
theorem readsPlaced (hc : c < 6) {last : Nat} (hlast : (v.channel c).lastRead = last) :
    ReadsPlaced c last v (placeReads c v) := by
  have hbuffers : (v.emptyBuffers c).Nodup ∧ ∀ b ∈ v.emptyBuffers c, b < 16 ∧ (v.buffer b).holder = some c := by
    refine ⟨List.Nodup.filter _ List.nodup_range, fun b hb => ?_⟩
    obtain ⟨hrange, hholds⟩ := List.mem_filter.mp hb
    exact ⟨List.mem_range.mp hrange, by simpa using (Bool.and_eq_true_iff.mp hholds).1⟩
  subst hlast
  unfold placeReads
  cases hrecord : (v.channel c).record with
  | none =>
    exact ⟨fun r _ _ hr => (nomatch hrecord.symm.trans hr), fun _ => rfl, fun _ _ _ => ⟨rfl, rfl⟩, rfl⟩
  | some r =>
    have h := placeOnes (r := r) hc hbuffers.1 (fun b hb => (hbuffers.2 b hb).1) rfl fun b hb => (hbuffers.2 b hb).2
    refine ⟨fun q e n hq he hn => ?_, fun hnone => (nomatch hrecord.symm.trans hnone), h.others, h.rest⟩
    obtain rfl : r = q := Option.some.inj (hrecord.symm.trans hq)
    subst he hn
    exact ⟨h.channel, h.reads, h.taken, h.left⟩

end

end Sys2Proof.Machine
end

section
/-! SUPPORT. What a channel does at the end of an event, case by case (R121, R124, R125, R127, R131, R135, R140). -/

namespace Sys2Proof.Machine

open Sys2Proof

/-! ### Buffers held -/

/-- The buffers a channel holds stay its own while it claims others. -/
theorem holder_holdBuffers {c b : Nat} (hb : b < 16) (l : List Nat) {s : State} (h : (s.buffer b).holder = some c) :
    ((l.foldl (holdBuffer c) s).buffer b).holder = some c := by
  induction l generalizing s with
  | nil => exact h
  | cons d rest ih =>
    refine ih ?_
    by_cases hd : d = b
    · subst hd
      exact congrArg TileBuffer.holder (State.setBuffer_buffer_same hb ..)
    · exact (congrArg TileBuffer.holder (State.setBuffer_buffer_ne hd ..)).trans h

/-- A channel with an empty buffer holds some after a claim. -/
theorem heldBy_crewClaim {c : Nat} {v w : State} (hbuffers : w.ste.buffers = v.ste.buffers)
    (h : 1 ≤ (v.emptyBuffers c).length) : (crewClaim c w).heldBy c ≠ 0 := by
  obtain ⟨b, hb⟩ := List.exists_mem_of_length_pos h
  obtain ⟨hrange, hholds⟩ := List.mem_filter.mp hb
  have hholder : (w.buffer b).holder = some c := by
    rw [buffers_buffer hbuffers]
    simpa using (Bool.and_eq_true_iff.mp hholds).1
  have hmem : b ∈ (crewClaim c w).buffersWhere fun x => x.holder == some c :=
    List.mem_filter.mpr ⟨hrange, beq_iff_eq.mpr (holder_holdBuffers (List.mem_range.mp hrange) _ hholder)⟩
  exact Nat.ne_of_gt (List.length_pos_of_mem hmem)

section

variable {c : Nat} {s : State} {k : Channel}

/-! ### Channels that fetch nothing remotely -/

theorem unlessOver_over {f : State → State} (hr : k.result ≠ none) (hk : s.channel c = k) : unlessOver c f s = s := by
  have hsome : k.result.isSome = true := Option.isSome_iff_ne_none.mpr hr
  simp only [unlessOver, hk, hsome, if_true]

theorem unlessOver_done {f : State → State} (hr : k.result = none) (hk : s.channel c = k) (h : k.curLast < k.nextTile) :
    unlessOver c f s = endTransfer c .done s := by
  simp [unlessOver, hk, hr, h]

theorem unlessOver_goesOn {f : State → State} (hr : k.result = none) (hk : s.channel c = k) (h : k.nextTile ≤ k.curLast) :
    unlessOver c f s = f s := by
  simp [unlessOver, hk, hr, Nat.not_lt.mpr h]

theorem pumpChannel_local (hk : s.channel c = k) (hs : k.state = .localStore) :
    pumpChannel s c = unlessOver c (pumpLocal c) s := by
  rw [pumpChannel, hk, hs]

theorem pumpChannel_remote (hk : s.channel c = k) (hs : k.state = .request ∨ k.state = .receive) :
    pumpChannel s c = if ((unlessOver c (pumpWindow c) s).channel c).state = .localStore
      then unlessOver c (pumpLocal c) (unlessOver c (pumpWindow c) s) else unlessOver c (pumpWindow c) s := by
  rcases hs with hs | hs <;> rw [pumpChannel, hk, hs]

theorem remote_of (hf : k.state ≠ .free) (hs : k.state ≠ .serve) :
    k.state = .localStore ∨ k.state = .request ∨ k.state = .receive := by
  cases h : k.state <;> simp_all

theorem not_local_of (h : k.state = .request ∨ k.state = .receive) : k.state ≠ .localStore := by
  rcases h with h | h <;> rw [h] <;> decide

theorem endTransfer_state (hc : c < 6) (result : TransferResult) (hk : s.channel c = k) :
    ((endTransfer c result s).channel c).state = k.state := by
  rw [(endTransfer_parts hc result s).1, hk]
  rfl

/-- A FREE channel and one that has ended do nothing. -/
theorem pumpChannel_rests (hk : s.channel c = k) (h : k.state = .free ∨ (k.state ≠ .serve ∧ k.result ≠ none)) :
    pumpChannel s c = s := by
  by_cases hfree : k.state = .free
  · rw [pumpChannel, hk, hfree]
  obtain ⟨hserve, hr⟩ := h.resolve_left hfree
  rcases remote_of hfree hserve with hs | hs
  · rw [pumpChannel_local hk hs, unlessOver_over hr hk]
  · rw [pumpChannel_remote hk hs, unlessOver_over hr hk, if_neg (by rw [hk]; exact not_local_of hs)]

/-- A channel past its last tile ends DONE (R125). -/
theorem pumpChannel_done (hc : c < 6) (hk : s.channel c = k) (hfree : k.state ≠ .free) (hserve : k.state ≠ .serve)
    (hr : k.result = none) (h : k.curLast < k.nextTile) : pumpChannel s c = endTransfer c .done s := by
  rcases remote_of hfree hserve with hs | hs
  · rw [pumpChannel_local hk hs, unlessOver_done hr hk h]
  · rw [pumpChannel_remote hk hs, unlessOver_done hr hk h,
      if_neg (by rw [endTransfer_state hc _ hk]; exact not_local_of hs)]

/-- A service places its reads up to the window last (R140). -/
theorem pumpChannel_serves (hc : c < 6) (hk : s.channel c = k) (hs : k.state = .serve) {w : Nat × Nat} (hw : k.window = some w) :
    ReadsPlaced c w.2 s (pumpChannel s c) := by
  rw [pumpChannel, hk, hs]
  exact readsPlaced hc (by rw [hk, Channel.lastRead, hs, hw]; rfl)

/-- A LOCAL run places its reads up to its last tile, claiming first when it holds no buffer (R121, R124). -/
theorem pumpLocal_places (hc : c < 6) (hk : s.channel c = k) (hs : k.state = .localStore) :
    ReadsPlaced c k.curLast (if s.heldBy c = 0 then crewClaim c s else s) (pumpLocal c s) := by
  refine readsPlaced hc ?_
  have hchannel : (if s.heldBy c = 0 then crewClaim c s else s).channel c = k := by
    split
    · exact (crewClaim_channel c s c).trans hk
    · exact hk
  rw [hchannel, Channel.lastRead, hs]

/-! ### A channel that asks for its window -/

/-- The window is complete and every buffer empty (R131). -/
theorem needsWindow_iff (hk : s.channel c = k) : s.needsWindow c = true ↔ k.state = .receive ∧ k.fetch ≤ k.curLast ∧
    (∀ w, k.window = some w → ¬(w.1 ≤ k.fetch ∧ k.fetch ≤ w.2)) ∧
    ∀ b < 16, (s.buffer b).holder = some c → (s.buffer b).state = .empty := by
  have hempty : (s.emptyBuffers c).length = s.heldBy c ↔
      ∀ b < 16, (s.buffer b).holder = some c → (s.buffer b).state = .empty := by
    have hsub : s.emptyBuffers c = (s.buffersWhere fun x => x.holder == some c).filter fun b => (s.buffer b).state == .empty := by
      rw [State.emptyBuffers, State.buffersWhere, State.buffersWhere, List.filter_filter]
      exact List.filter_congr fun b _ => Bool.and_comm ..
    rw [State.heldBy, hsub, List.length_filter_eq_length_iff]
    simp [State.buffersWhere]
  have hexpected : k.fetch ≤ k.curLast → (k.expected = none ↔ ∀ w, k.window = some w → ¬(w.1 ≤ k.fetch ∧ k.fetch ≤ w.2)) :=
    fun hle => by
      rw [Channel.expected]
      cases k.window with
      | none => simp
      | some w => simp [hle]
  simp only [State.needsWindow, hk, Bool.and_eq_true, decide_eq_true_eq, hempty]
  constructor
  · rintro ⟨⟨⟨hs, he⟩, hle⟩, hb⟩
    exact ⟨hs, hle, (hexpected hle).mp he, hb⟩
  · rintro ⟨hs, hle, he, hb⟩
    exact ⟨⟨⟨hs, (hexpected hle).mpr he⟩, hle⟩, hb⟩

/-- The fields with which a channel asks for a window: anew for its next one, as they are for the one it waits for. -/
def Channel.asksAnew (k : Channel) : Channel :=
  if k.wantWindow = true then k else { k with busyRetries := 0, gapRequest := false }

theorem pumpWindow_asks (hk : s.channel c = k) (h : k.wantWindow = true ∨ s.needsWindow c = true) :
    pumpWindow c s = buildWindow c (s.setChannel c k.asksAnew) := by
  by_cases hwant : k.wantWindow = true
  · rw [pumpWindow, hk, if_pos hwant, Channel.asksAnew, if_pos hwant, setChannel_self hk]
  · rw [pumpWindow, hk, if_neg hwant, if_pos (h.resolve_left hwant), Channel.asksAnew, if_neg hwant, modChannel_eq hk]

theorem pumpWindow_rests (hk : s.channel c = k) (hw : k.wantWindow = false) (hn : s.needsWindow c = false) :
    pumpWindow c s = s := by
  simp [pumpWindow, hk, hw, hn]

/-- A channel that waits for a buffer. -/
theorem buildWindow_waitsWith (l : Channel) (hc : c < 6) (h : min 4 ((crewClaim c s).emptyBuffers c).length = 0) :
    buildWindow c (s.setChannel c l) = (crewClaim c s).setChannel c { l with wantWindow := true } := by
  rw [buildWindow_waits (State.setChannel_channel_same hc _ _) (by rw [crewClaim_setChannel]; exact h),
    crewClaim_setChannel, setChannel_setChannel]

/-- A channel that submits its request. -/
theorem buildWindow_submitsWith (l : Channel) (hc : c < 6) {n : Nat} (hn : n = min 4 ((crewClaim c s).emptyBuffers c).length)
    (hpos : 1 ≤ n) : buildWindow c (s.setChannel c l) =
      submitRequest c ((crewClaim c s).setChannel c (l.asking (min (l.fetch + n - 1) l.curLast))) := by
  rw [buildWindow_submits (State.setChannel_channel_same hc _ _) (by rw [crewClaim_setChannel]; exact hn) hpos rfl,
    crewClaim_setChannel, setChannel_setChannel]

/-! ### Told NO_PATH (R135) -/

/-- A channel that falls back to its record, at the tile it has not received. -/
def Channel.fallenBack (k : Channel) : Channel :=
  { k with missingDue := k.missingDue ++ [k.fetch], fetch := k.fetch + 1, position := k.afterSelf }

/-- The fields of a channel that enters LOCAL up to a tile. -/
def Channel.runsLocal (last : Nat) (k : Channel) : Channel :=
  { k.stopped with state := .localStore, window := none, curLast := last }

theorem channelNoPath_fails (hk : s.channel c = k) (h : ∀ r, k.record = some r → r.revision ≠ k.pinned) :
    channelNoPath c s = endTransfer c (.failed .noPath) s := by
  have hfall : k.hasFallback = false := by
    unfold Channel.hasFallback
    cases hr : k.record with
    | none => rfl
    | some r => exact decide_eq_false (h r hr)
  simp [channelNoPath, hk, hfall]

/-- A channel enters LOCAL with a record of its pinned revision, or ends where that has no tile of the range. -/
theorem enterLocal_pinned (hk : s.channel c = k) {r : SheetRecord} (hr : k.record = some r) (hpin : r.revision = k.pinned) :
    enterLocal c s = if r.tileCount ≤ k.curFirst then endTransfer c (.failed .range) s
      else crewClaim c (s.setChannel c (k.runsLocal (min k.curLast (r.tileCount - 1)))) := by
  have hpinned : (if k.pinned = 0 then r.revision else k.pinned) = k.pinned := by
    rw [hpin]
    exact ite_self _
  have hruns : ∀ last, ({ k.stopped with
      state := .localStore, window := none, curLast := last
      pinned := if k.pinned = 0 then r.revision else k.pinned } : Channel) = k.runsLocal last := fun last => by
    rw [hpinned]
    rfl
  rw [← hruns]
  simp only [enterLocal, hk, hr]

theorem channelNoPath_fallsBack (hc : c < 6) (hk : s.channel c = k) {r : SheetRecord} (hr : k.record = some r)
    (hpin : r.revision = k.pinned) : channelNoPath c s =
      if r.tileCount ≤ k.curFirst then endTransfer c (.failed .range) (s.setChannel c k.fallenBack)
      else crewClaim c (s.setChannel c (k.fallenBack.runsLocal (min k.curLast (r.tileCount - 1)))) := by
  have hfall : k.hasFallback = true := by rw [Channel.hasFallback, hr]; exact decide_eq_true hpin
  rw [channelNoPath, hk, hfall, if_pos rfl, localFallback, modChannel_eq hk,
    ← setChannel_setChannel c k.fallenBack (k.fallenBack.runsLocal _)]
  exact enterLocal_pinned (k := k.fallenBack) (State.setChannel_channel_same hc _ s) hr hpin

end

end Sys2Proof.Machine
end

section
/-! SUPPORT. A channel that asks for its window at the end of an event, in each answer (R121, R127, R131, R135). -/

namespace Sys2Proof.Machine

open Sys2Proof

section

variable {c : Nat} {s v : State} {k l : Channel} {last : Nat}

/-! ### What the answer leaves -/

/-- The fields of a channel whose request for tiles up to `last` is out, waiting for no room. -/
def Channel.asked (l : Channel) (last : Nat) : Channel :=
  { l with wantWindow := false, window := some (l.fetch, last), queueFullWait := none }

/-- The state that a refused submission leaves but for the channel (R90, R143). -/
def State.notSent (v : State) : State := v.countTransfers TransferCounters.notSent

/-- A submission with no block present is queued, or waits for room (R127). -/
theorem submitRequest_asked (hc : c < 6) (hb : v.rlc.blocks.any = false) {a : Nat} (ha : l.currentPeer = some a) :
    (v.rlc.control.length < 8 → submitRequest c (v.setChannel c (l.asking last)) =
      (v.setChannel c (l.asked last)).queueControl .sheetRequest a (l.requestOf last) (.request c l.gapRequest)) ∧
    (8 ≤ v.rlc.control.length → submitRequest c (v.setChannel c (l.asking last)) =
      v.notSent.setChannel c { l.asking last with queueFullWait := some v.clock }) := by
  have hchannel : (v.setChannel c (l.asking last)).channel c = l.asking last := State.setChannel_channel_same hc _ _
  refine ⟨fun hroom => ?_, fun hfull => ?_⟩
  · rw [submitRequest_queued hchannel rfl ha (answer_queued hb hroom), setChannel_setChannel]
    rfl
  · rw [(submitRequest_refused hchannel rfl ha).1 (answer_full hb hfull)]
    exact setChannel_setChannel c (l.asking last) _ v.notSent

/-- Under a block it is told NO_PATH (R135). -/
theorem submitRequest_blocked (hc : c < 6) (hb : v.rlc.blocks.any = true) {a : Nat} (ha : l.currentPeer = some a) :
    submitRequest c (v.setChannel c (l.asking last)) = channelNoPath c (v.notSent.setChannel c (l.asking last)) := by
  have hchannel : (v.setChannel c (l.asking last)).channel c = l.asking last := State.setChannel_channel_same hc _ _
  exact (submitRequest_refused hchannel rfl ha).2 (answer_noPath hb)

/-! ### The whole step of the channel -/

/-- To ask anew leaves all that the request is made of. -/
theorem asksAnew_eq (hl : l = k.asksAnew) : ∃ busy gap, l = { k with busyRetries := busy, gapRequest := gap } := by
  rw [hl, Channel.asksAnew]
  split
  · exact ⟨k.busyRetries, k.gapRequest, rfl⟩
  · exact ⟨0, false, rfl⟩

theorem asksAnew_request (hl : l = k.asksAnew) : l.currentPeer = k.currentPeer ∧ l.state = k.state ∧
    ∀ last, l.requestOf last = k.requestOf last := by
  obtain ⟨busy, gap, rfl⟩ := asksAnew_eq hl
  exact ⟨rfl, rfl, fun _ => rfl⟩

theorem asksAnew_record (hl : l = k.asksAnew) : l.record = k.record ∧ l.pinned = k.pinned ∧ l.candidates = k.candidates ∧
    l.result = k.result := by
  obtain ⟨busy, gap, rfl⟩ := asksAnew_eq hl
  exact ⟨rfl, rfl, rfl, rfl⟩

theorem asksAnew_range (hl : l = k.asksAnew) : l.curFirst = k.curFirst ∧ l.curLast = k.curLast ∧ l.fetch = k.fetch ∧
    l.nextTile = k.nextTile ∧ l.missingDue = k.missingDue := by
  obtain ⟨busy, gap, rfl⟩ := asksAnew_eq hl
  exact ⟨rfl, rfl, rfl, rfl, rfl⟩

variable (hs : k.state = .request ∨ k.state = .receive)

include hs

/-- A channel not brought to LOCAL has acted. -/
theorem pumpRemote_stays {t : State} (ht : (t.channel c).state = k.state) :
    (if (t.channel c).state = .localStore then unlessOver c (pumpLocal c) t else t) = t :=
  if_neg (by rw [ht]; exact not_local_of hs)

theorem pumpChannel_windowed (hk : s.channel c = k) (hr : k.result = none) (hle : k.nextTile ≤ k.curLast) :
    pumpChannel s c = if ((pumpWindow c s).channel c).state = .localStore
      then unlessOver c (pumpLocal c) (pumpWindow c s) else pumpWindow c s := by
  rw [pumpChannel_remote hk hs, unlessOver_goesOn hr hk hle]

/-- Nothing to ask for (R131). -/
theorem pumpChannel_asksNothing (hk : s.channel c = k) (hr : k.result = none) (hle : k.nextTile ≤ k.curLast)
    (hw : k.wantWindow = false) (hn : s.needsWindow c = false) : pumpChannel s c = s := by
  rw [pumpChannel_windowed hs hk hr hle, pumpWindow_rests hk hw hn]
  exact pumpRemote_stays hs (by rw [hk])

variable (hc : c < 6) (hk : s.channel c = k) (hr : k.result = none) (hle : k.nextTile ≤ k.curLast)
  (hasks : k.wantWindow = true ∨ s.needsWindow c = true) (hl : l = k.asksAnew) (hv : v = crewClaim c s)

include hc hk hr hle hasks hl hv

/-- With no buffer to be had the channel waits (R121). -/
theorem pumpChannel_waits (hn : min 4 (v.emptyBuffers c).length = 0) :
    pumpChannel s c = v.setChannel c { l with wantWindow := true } := by
  subst hv
  rw [pumpChannel_windowed hs hk hr hle, pumpWindow_asks hk hasks, ← hl, buildWindow_waitsWith l hc hn]
  refine pumpRemote_stays hs ?_
  rw [State.setChannel_channel_same hc]
  exact (asksAnew_request hl).2.1

variable {n : Nat} (hn : n = min 4 (v.emptyBuffers c).length) (hpos : 1 ≤ n) (hlast : last = min (k.fetch + n - 1) k.curLast)

include hn hpos hlast

/-- With an empty buffer the channel submits the request of its window (R127). -/
theorem pumpChannel_submits {t : State} (ht : submitRequest c (v.setChannel c (l.asking last)) = t) : pumpChannel s c =
    if (t.channel c).state = .localStore then unlessOver c (pumpLocal c) t else t := by
  subst hv
  obtain ⟨-, hlastTile, hfetch, -, -⟩ := asksAnew_range hl
  have hsame : min (l.fetch + n - 1) l.curLast = last := by rw [hlast, hfetch, hlastTile]
  rw [pumpChannel_windowed hs hk hr hle, pumpWindow_asks hk hasks, ← hl, buildWindow_submitsWith l hc hn hpos, hsame, ht]

variable {a : Nat} (ha : k.currentPeer = some a)

include ha

theorem pumpChannel_queued (hb : s.rlc.blocks.any = false) (hroom : s.rlc.control.length < 8) : pumpChannel s c =
    (v.setChannel c (l.asked last)).queueControl .sheetRequest a (k.requestOf last) (.request c l.gapRequest) := by
  have hrlc : v.rlc = s.rlc := by rw [hv, crewClaim_rlc]
  obtain ⟨hpeer, hstate, hrequest⟩ := asksAnew_request hl
  have ht := (submitRequest_asked (last := last) hc (by rw [hrlc]; exact hb) (hpeer.trans ha)).1 (by rw [hrlc]; exact hroom)
  rw [pumpChannel_submits hs hc hk hr hle hasks hl hv hn hpos hlast ht, ← hrequest]
  exact pumpRemote_stays hs ((congrArg Channel.state (State.setChannel_channel_same hc _ v)).trans hstate)

theorem pumpChannel_full (hb : s.rlc.blocks.any = false) (hfull : 8 ≤ s.rlc.control.length) : pumpChannel s c =
    v.notSent.setChannel c { l.asking last with queueFullWait := some s.clock } := by
  have hrlc : v.rlc = s.rlc := by rw [hv, crewClaim_rlc]
  have hclock : v.clock = s.clock := by
    obtain ⟨buffers, h⟩ := crewClaim_eq c s
    rw [hv, h]
    rfl
  obtain ⟨hpeer, hstate, -⟩ := asksAnew_request hl
  have ht := (submitRequest_asked (last := last) hc (by rw [hrlc]; exact hb) (hpeer.trans ha)).2 (by rw [hrlc]; exact hfull)
  rw [pumpChannel_submits hs hc hk hr hle hasks hl hv hn hpos hlast ht, ← hclock]
  exact pumpRemote_stays hs ((congrArg Channel.state (State.setChannel_channel_same hc _ v.notSent)).trans hstate)

/-- Told NO_PATH without a fallback the transfer fails. -/
theorem pumpChannel_noPath (hb : s.rlc.blocks.any = true) (hno : ∀ r, k.record = some r → r.revision ≠ k.pinned) :
    TransferEnded c (.failed .noPath) (v.notSent.setChannel c (l.asked last)) (pumpChannel s c) := by
  have hrlc : v.rlc = s.rlc := by rw [hv, crewClaim_rlc]
  obtain ⟨hpeer, hstate, -⟩ := asksAnew_request hl
  obtain ⟨hrecord, hpinned, -, -⟩ := asksAnew_record hl
  have hchannel : (v.notSent.setChannel c (l.asking last)).channel c = l.asking last := State.setChannel_channel_same hc _ _
  have ht := (submitRequest_blocked (last := last) hc (by rw [hrlc]; exact hb) (hpeer.trans ha)).trans
    (channelNoPath_fails hchannel fun r hr => by
      have hpin : (l.asking last).pinned = k.pinned := hpinned
      rw [hpin]
      exact hno r (hrecord.symm.trans hr))
  rw [pumpChannel_submits hs hc hk hr hle hasks hl hv hn hpos hlast ht,
    pumpRemote_stays hs ((endTransfer_state hc _ hchannel).trans hstate), ← setChannel_setChannel c (l.asking last)]
  exact transferEnded_of hc (result := .failed .noPath) (by decide) (v.notSent.setChannel c (l.asking last))
    (l := l.asked last) hchannel rfl

/-- Told NO_PATH with a fallback the channel comes back to LOCAL (R135): it ends RANGE without a tile of the range, DONE
without one left to deliver, or else places its reads. -/
theorem pumpChannel_fallsBack (hb : s.rlc.blocks.any = true) {r : SheetRecord} (hrecord : k.record = some r)
    (hpin : r.revision = k.pinned) {later : List Source} (hcand : k.candidates = .self :: later) {m q : Channel}
    {back : State} {end_ : Nat} (hend : end_ = min k.curLast (r.tileCount - 1))
    (hm : m = { l.asked last with missingDue := k.missingDue ++ [k.fetch], fetch := k.fetch + 1, position := 1 })
    (hq : q = m.runsLocal end_) (hback : back = crewClaim c (v.notSent.setChannel c q)) :
    (r.tileCount ≤ k.curFirst → TransferEnded c (.failed .range) (v.notSent.setChannel c m) (pumpChannel s c)) ∧
    (k.curFirst < r.tileCount → end_ < k.nextTile → TransferEnded c .done back (pumpChannel s c)) ∧
    (k.curFirst < r.tileCount → k.nextTile ≤ end_ → ReadsPlaced c end_ back (pumpChannel s c)) := by
  have hrlc : v.rlc = s.rlc := by rw [hv, crewClaim_rlc]
  obtain ⟨hpeer, hstate, -⟩ := asksAnew_request hl
  obtain ⟨hlrecord, hlpinned, hlcand, hlresult⟩ := asksAnew_record hl
  obtain ⟨hfirst, hlastTile, hfetch, hnext, hdue⟩ := asksAnew_range hl
  obtain ⟨o, ho⟩ : ∃ o, o = l.asking last := ⟨_, rfl⟩
  have hchannel : (v.notSent.setChannel c o).channel c = o := State.setChannel_channel_same hc _ _
  have hafter : o.afterSelf = 1 := by
    rw [ho]
    exact afterSelf_append (before := []) (hlcand.trans hcand) (List.not_mem_nil)
  have hfallen : o.fallenBack = { m with queueFullWait := l.queueFullWait } := by
    rw [Channel.fallenBack, hafter, hm, ho, ← hdue, ← hfetch]
    rfl
  have hruns : o.fallenBack.runsLocal (min o.curLast (r.tileCount - 1)) = q := by
    have hlast : o.curLast = k.curLast := by rw [ho]; exact hlastTile
    rw [hfallen, hlast, ← hend, hq]
    rfl
  have hfalls := channelNoPath_fallsBack hc hchannel (r := r) (by rw [ho]; exact hlrecord.trans hrecord)
    (by rw [ho]; exact hpin.trans hlpinned.symm)
  have hqk : q.state = .localStore ∧ q.result = none ∧ q.curLast = end_ ∧ q.nextTile = k.nextTile := by
    rw [hq, hm]; exact ⟨rfl, hlresult.trans hr, rfl, hnext⟩
  obtain ⟨hqlocal, hqresult, hqlast, hqnext⟩ := hqk
  have hbackq : back.channel c = q := by rw [hback, crewClaim_channel, State.setChannel_channel_same hc]
  have hofirst : o.curFirst = k.curFirst := by rw [ho]; exact hfirst
  rw [hruns, setChannel_setChannel, setChannel_setChannel, ← hback, hofirst] at hfalls
  have ht : submitRequest c (v.setChannel c (l.asking last)) = if r.tileCount ≤ k.curFirst
      then endTransfer c (.failed .range) (v.notSent.setChannel c o.fallenBack) else back := by
    rw [← hfalls, ho]
    exact submitRequest_blocked hc (by rw [hrlc]; exact hb) (hpeer.trans ha)
  rw [pumpChannel_submits hs hc hk hr hle hasks hl hv hn hpos hlast ht]
  refine ⟨fun hrange => ?_, fun hrange hdone => ?_, fun hrange hgoes => ?_⟩
  · have hfallenk : (v.notSent.setChannel c o.fallenBack).channel c = o.fallenBack := State.setChannel_channel_same hc _ _
    rw [if_pos hrange, pumpRemote_stays hs ((endTransfer_state hc _ hfallenk).trans (by rw [ho]; exact hstate)),
      ← setChannel_setChannel c o.fallenBack m]
    exact transferEnded_of hc (result := .failed .range) (by decide) _ hfallenk (by rw [hfallen]; rfl)
  · rw [if_neg (Nat.not_le.mpr hrange), hbackq, if_pos hqlocal,
      unlessOver_done hqresult hbackq (by rw [hqlast, hqnext]; exact hdone)]
    exact transferEnded hc (by decide) back
  · rw [if_neg (Nat.not_le.mpr hrange), hbackq, if_pos hqlocal,
      unlessOver_goesOn hqresult hbackq (by rw [hqlast, hqnext]; exact hgoes)]
    have hplaced := pumpLocal_places hc hbackq hqlocal
    have hholds : back.heldBy c ≠ 0 := by
      rw [hback]
      exact heldBy_crewClaim (v := v) rfl (by omega)
    rwa [if_neg hholds, hqlast] at hplaced

end

end Sys2Proof.Machine
end

section
/-! SUPPORT. Selection and the output arbiter, choice by choice (R157, R159, R160, R170, R171). -/

namespace Sys2Proof.Machine

open Sys2Proof

/-! ### Selection (R170) -/

section

variable {n : NoticeController}

/-- A record waits: it is queued, not in service, and its level is not masked. -/
def NoticeController.waits (n : NoticeController) (r : Notice) : Prop :=
  r.key ∉ n.stack ∧ n.mask.getLsbD r.key.level = false

/-- The test of the selection. -/
def NoticeController.isWaiting (n : NoticeController) (r : Notice) : Bool := !n.inService r.key && !n.masked r.key.level

theorem isWaiting_iff {r : Notice} : n.isWaiting r = true ↔ n.waits r := by
  simp [NoticeController.isWaiting, NoticeController.waits, NoticeController.inService, NoticeController.masked]

theorem best_find : n.best =
    (n.queue.filter n.isWaiting).find? fun r => r.key.level == leastLevel (n.queue.filter n.isWaiting) := rfl

theorem foldl_level_eq {x : Nat} (l : List Notice) {m : Nat} (hm : x ≤ m) (hall : ∀ q ∈ l, x ≤ q.key.level)
    (hat : m = x ∨ ∃ q ∈ l, q.key.level = x) : l.foldl (fun m r => min m r.key.level) m = x := by
  induction l generalizing m with
  | nil => exact hat.resolve_right (by simp)
  | cons q rest ih =>
    have hq := hall q List.mem_cons_self
    refine ih (m := min m q.key.level) (by omega) (fun y hy => hall y (List.mem_cons_of_mem q hy)) ?_
    rcases hat with rfl | ⟨y, hy, rfl⟩
    · exact .inl (by omega)
    · rcases List.mem_cons.mp hy with rfl | hy
      · exact .inl (by omega)
      · exact .inr ⟨y, hy, rfl⟩

theorem select_none (h : ∀ r ∈ n.queue, ¬n.waits r) : n.select = n := by
  have hempty : n.queue.filter n.isWaiting = [] :=
    List.filter_eq_nil_iff.mpr fun r hr => by rw [isWaiting_iff]; exact h r hr
  have hbest : n.best = none := by rw [best_find, hempty, List.find?_nil]
  rw [NoticeController.select, hbest]

/-- The oldest of the waiting records of the least level is the best. -/
theorem best_eq {older newer : List Notice} {r : Notice} (hqueue : n.queue = older ++ r :: newer) (hr : n.waits r)
    (h7 : r.key.level ≤ 7) (holder : ∀ q ∈ older, n.waits q → r.key.level < q.key.level)
    (hnewer : ∀ q ∈ newer, n.waits q → r.key.level ≤ q.key.level) : n.best = some r := by
  obtain ⟨waiting, hwaiting⟩ : ∃ l, l = n.queue.filter n.isWaiting := ⟨_, rfl⟩
  have hmem : ∀ q, q ∈ waiting ↔ q ∈ n.queue ∧ n.waits q := fun q => by
    rw [hwaiting, List.mem_filter, isWaiting_iff]
  have hleast : leastLevel waiting = r.key.level := by
    refine foldl_level_eq waiting (by omega) (fun q hq => ?_)
      (.inr ⟨r, (hmem r).mpr ⟨by rw [hqueue]; simp, hr⟩, rfl⟩)
    obtain ⟨hin, hq⟩ := (hmem q).mp hq
    rw [hqueue, List.mem_append, List.mem_cons] at hin
    rcases hin with hin | rfl | hin
    · exact Nat.le_of_lt (holder q hin hq)
    · exact Nat.le_refl _
    · exact hnewer q hin hq
  rw [best_find, ← hwaiting, hleast, List.find?_eq_some_iff_append]
  refine ⟨beq_self_eq_true _, older.filter n.isWaiting, newer.filter n.isWaiting, ?_, fun q hq => ?_⟩
  · rw [hwaiting, hqueue, List.filter_append, List.filter_cons_of_pos (isWaiting_iff.mpr hr)]
  · obtain ⟨hin, hq⟩ := List.mem_filter.mp hq
    have := holder q hin (isWaiting_iff.mp hq)
    simp
    omega

/-- It enters service over an empty stack or a greater level, and otherwise waits on. -/
theorem select_best {r : Notice} (h : n.best = some r) :
    ((∀ top, n.stack.getLast? = some top → r.key.level < top.level) →
      n.select = { n with stack := n.stack ++ [r.key], due := n.due ++ [r.key] }) ∧
    ∀ top, n.stack.getLast? = some top → top.level ≤ r.key.level → n.select = n := by
  rw [NoticeController.select, h]
  dsimp only
  refine ⟨fun hover => ?_, fun top htop hle => ?_⟩
  · cases htop : n.stack.getLast? with
    | none => rfl
    | some top => exact if_pos (decide_eq_true (hover top htop))
  · rw [htop]
    exact if_neg fun h => Nat.not_lt.mpr hle (of_decide_eq_true h)

end

/-! ### The arbiter of a port (R159) -/

section

variable {p : Port} {s : State}

theorem arbitrate_rests (h : (s.port p).isOpen = false ∨ (s.port p).sending ≠ none) : arbitrate p s = s := by
  rw [arbitrate, if_neg]
  simpa [Bool.and_eq_true, or_iff_not_imp_left] using h

theorem arbitrate_chooses (hopen : (s.port p).isOpen = true) (hsend : (s.port p).sending = none) :
    arbitrate p s = chooseMessage p s := by
  rw [arbitrate, hopen, hsend]
  rfl

theorem chooseMessage_part {part : MsgSource × List Byte} (h : (s.port p).nextPart = some part) :
    chooseMessage p s = beginMessage p part.1 0x81 part.2 s := by
  rw [chooseMessage, h]

section

variable {q : CrewPort} {part : List Byte} {rest : List (List Byte)}

theorem nextPart_response (h : q.responseSlot = part :: rest) (hs : q.storeSlot = [] ∨ q.storeAhead = 0) :
    q.nextPart = some (.response, part) := by
  rw [CrewPort.nextPart, h]
  cases hstore : q.storeSlot with
  | nil => rfl
  | cons t ts =>
    have hahead : q.storeAhead = 0 := hs.resolve_left (by rw [hstore]; exact List.cons_ne_nil _ _)
    exact if_neg (by rw [hahead]; decide)

theorem nextPart_store (h : q.storeSlot = part :: rest) (hs : q.responseSlot = [] ∨ 1 ≤ q.storeAhead) :
    q.nextPart = some (.storeResult, part) := by
  rw [CrewPort.nextPart, h]
  cases hresponse : q.responseSlot with
  | nil => rfl
  | cons r rs => exact if_pos (hs.resolve_left (by rw [hresponse]; exact List.cons_ne_nil _ _))

theorem nextPart_none (hr : q.responseSlot = []) (hs : q.storeSlot = []) : q.nextPart = none := by
  rw [CrewPort.nextPart, hr, hs]

end

/-! ### What the channels offer (R125, R134, R136) -/

/-- A channel of the port offers something. -/
def State.offers (p : Port) (s : State) (c : Nat) : Prop := (s.channel c).owner = .port p ∧
  ((s.channel c).restartOffer ≠ none ∨ (s.channel c).result ≠ none ∨ (s.channel c).nextTile ∈ (s.channel c).missingDue ∨
    s.fullBuffer c (s.channel c).nextTile ≠ none)

section

variable {c : Nat} {k : Channel}

theorem offer_restart (hk : s.channel c = k) {x : Nat × Nat} (h : k.restartOffer = some x) : s.offer c = some (.restart x) := by
  simp only [State.offer, hk, h]

theorem offer_finished (hk : s.channel c = k) (h : k.restartOffer = none) {r : TransferResult} (hr : k.result = some r) :
    s.offer c = some (.finished r) := by
  simp only [State.offer, hk, h, hr]

theorem offer_missing (hk : s.channel c = k) (h : k.restartOffer = none) (hr : k.result = none)
    (hm : k.nextTile ∈ k.missingDue) : s.offer c = some .missing := by
  simp [State.offer, hk, h, hr, hm]

theorem offer_full (hk : s.channel c = k) (h : k.restartOffer = none) (hr : k.result = none)
    (hm : k.nextTile ∉ k.missingDue) : s.offer c = (s.fullBuffer c k.nextTile).map fun b => .tile b.1 b.2 := by
  simp [State.offer, hk, h, hr, hm]

theorem offer_none_iff (c : Nat) (s : State) : s.offer c = none ↔ (s.channel c).restartOffer = none ∧
    (s.channel c).result = none ∧ (s.channel c).nextTile ∉ (s.channel c).missingDue ∧
    s.fullBuffer c (s.channel c).nextTile = none := by
  cases h : (s.channel c).restartOffer with
  | some x => simp [offer_restart rfl h]
  | none =>
    cases hr : (s.channel c).result with
    | some r => simp [offer_finished rfl h hr]
    | none =>
      by_cases hm : (s.channel c).nextTile ∈ (s.channel c).missingDue
      · simp [offer_missing rfl h hr hm, hm]
      · simp [offer_full rfl h hr hm, hm]

end

/-- What the rotation finds at a channel. -/
def State.choiceAt (p : Port) (s : State) (c : Nat) : Option (Nat × ChannelOffer) :=
  if s.ownedBy p c then (s.offer c).map fun o => (c, o) else none

theorem choiceAt_none_iff {c : Nat} : s.choiceAt p c = none ↔ ¬s.offers p c := by
  have howned : s.ownedBy p c = true ↔ (s.channel c).owner = .port p := decide_eq_true_iff
  rw [State.choiceAt, State.offers, ite_eq_right_iff, howned, Option.map_eq_none_iff, offer_none_iff]
  tauto

theorem choiceAt_some {c : Nat} {o : ChannelOffer} (howner : (s.channel c).owner = .port p) (ho : s.offer c = some o) :
    s.choiceAt p c = some (c, o) := by
  rw [State.choiceAt, State.ownedBy, decide_eq_true howner, if_pos rfl, ho]
  rfl

theorem channelChoice_eq : s.channelChoice p =
    (List.range 6).findSome? fun i => s.choiceAt p (((s.port p).rotation + 1 + i) % 6) := by
  rw [State.channelChoice, rotationOrder, List.findSome?_map]
  rfl

/-- The first channel after the one the rotation names that offers something is chosen. -/
theorem channelChoice_some {i c : Nat} {o : ChannelOffer} (hi : i < 6) (hc : c = ((s.port p).rotation + 1 + i) % 6)
    (howner : (s.channel c).owner = .port p) (ho : s.offer c = some o)
    (hearlier : ∀ j < i, ¬s.offers p (((s.port p).rotation + 1 + j) % 6)) : s.channelChoice p = some (c, o) := by
  rw [channelChoice_eq, findSome?_range_eq_some]
  exact ⟨i, hi, by rw [← hc]; exact choiceAt_some howner ho, fun j hj => choiceAt_none_iff.mpr (hearlier j hj)⟩

theorem channelChoice_none (h : ∀ c < 6, ¬s.offers p c) : s.channelChoice p = none := by
  rw [channelChoice_eq, List.findSome?_eq_none_iff]
  exact fun i _ => choiceAt_none_iff.mpr (h _ (Nat.mod_lt _ (by decide)))

section

variable (hpart : (s.port p).nextPart = none)

include hpart

theorem chooseMessage_notice {k : NoticeKey} {rest : List NoticeKey} {r : Notice} (hd : (s.notices p).due = k :: rest)
    (hr : (s.notices p).find k = some r) : chooseMessage p s =
      beginMessage p .notice 0x82 (s.noticeBody r (s.notices p).stack.length)
        (s.modNotices p fun x => { x with due := x.due.drop 1 }) := by
  rw [chooseMessage, hpart, hd]
  simp only [beginNotice, hr]

variable (hd : (s.notices p).due = [])

include hd

theorem chooseMessage_channel {c : Nat} {o : ChannelOffer} (h : s.channelChoice p = some (c, o)) :
    chooseMessage p s = beginChannelMessage p c o s := by
  rw [chooseMessage, hpart, hd, h]

theorem chooseMessage_stream (h : s.channelChoice p = none) : chooseMessage p s = streamTurn p s := by
  rw [chooseMessage, hpart, hd, h]

end

/-! ### The messages (R136, R160) -/

theorem sheetEndBody_eq (c : Nat) (k : Channel) (r : TransferResult) : sheetEndBody c k r =
    [byte c, if r = .done then 0#8 else if r = .restart then 2#8 else 1#8,
      if r = .failed .noHolder then 1#8 else if r = .failed .noPath then 2#8 else if r = .failed .range then 3#8 else 0#8,
      byte k.floor, byte k.kind] ++ be16 k.pinned ++ be16 k.delivered ++ be16 k.missing ++
      (match k.record with
        | none => List.replicate 24 0x20#8
        | some x => if x.revision = k.pinned then padTo 24 x.title else List.replicate 24 0x20#8) := by
  have hcode : byte r.code = if r = .done then 0#8 else if r = .restart then 2#8 else 1#8 := by
    cases r <;> rfl
  have hreason : byte r.reasonCode = if r = .failed .noHolder then 1#8 else if r = .failed .noPath then 2#8
      else if r = .failed .range then 3#8 else 0#8 := by
    cases r with
    | done => rfl
    | restart => rfl
    | failed reason => cases reason <;> rfl
  have htitle : k.endTitle = match k.record with
      | none => List.replicate 24 0x20#8
      | some x => if x.revision = k.pinned then padTo 24 x.title else List.replicate 24 0x20#8 := by
    unfold Channel.endTitle
    cases k.record <;> rfl
  rw [sheetEndBody, hcode, hreason, htitle]

/-- A port's record changed twice. -/
theorem modPort_modPort (f g : CrewPort → CrewPort) (s : State) : (s.modPort p f).modPort p g = s.modPort p fun q => g (f q) := by
  cases p <;> rfl

/-! ### The stream's turn (R157) -/

/-- The lowest floor from a cursor onward that has something to show. -/
theorem nextShown_some {from_ f : Nat} (hle : from_ ≤ f) (hlt : f < 256) (hf : (s.floor f).counts.worst ≠ .none)
    (hbefore : ∀ g < f, from_ ≤ g → (s.floor g).counts.worst = .none) : s.nextShown from_ = some f := by
  rw [State.nextShown, List.find?_range_eq_some]
  refine ⟨?_, List.mem_range.mpr hlt, fun g hg => ?_⟩
  · simp [hle, State.floorShown, hf]
  · by_cases h : from_ ≤ g
    · simp [State.floorShown, hbefore g hg h]
    · simp [h]

theorem nextShown_none {from_ : Nat} (h : ∀ f < 256, from_ ≤ f → (s.floor f).counts.worst = .none) :
    s.nextShown from_ = none := by
  rw [State.nextShown, List.find?_eq_none]
  intro f hf
  by_cases hle : from_ ≤ f
  · simp [State.floorShown, h f (List.mem_range.mp hf) hle]
  · simp [hle]

theorem streamTurn_rests (h : (s.port p).stream.isOn = false ∨ (s.port p).stream.passOpen = false) : streamTurn p s = s := by
  rw [streamTurn]
  refine if_neg ?_
  rcases h with h | h <;> simp [h]

section

variable (hon : (s.port p).stream.isOn = true) (hpass : (s.port p).stream.passOpen = true)

include hon hpass

theorem streamTurn_summary {f : Nat} (h : s.nextShown (s.port p).stream.cursor = some f) :
    streamTurn p s = beginSummary p f s := by
  simp only [streamTurn, hon, hpass, Bool.and_self, if_true, h]

variable (hend : s.nextShown (s.port p).stream.cursor = none)

include hend

theorem streamTurn_ends (hdue : s.passDue p = false) : streamTurn p s = endPass p s := by
  simp only [streamTurn, hon, hpass, Bool.and_self, if_true, hend, hdue, Bool.false_eq_true, if_false]

theorem streamTurn_restarts (hdue : s.passDue p = true) {f : Nat} (h : s.nextShown 0 = some f) :
    streamTurn p s = beginSummary p f (startPass p (endPass p s)) := by
  simp only [streamTurn, hon, hpass, Bool.and_self, if_true, hend, hdue, h]

theorem streamTurn_empty (hdue : s.passDue p = true) (h : s.nextShown 0 = none) :
    streamTurn p s = startPass p (endPass p s) := by
  simp only [streamTurn, hon, hpass, Bool.and_self, if_true, hend, hdue, h]

end

/-- A pass started over at the end of one. -/
theorem startPass_endPass {found : Option Nat} (h : s.nextShown 0 = found) : startPass p (endPass p s) =
    s.modPort p fun x => { x with stream := { x.stream with
      start := s.clock, cursor := if found.isSome then 0 else 256, passOpen := found.isSome } } := by
  have hkept : (endPass p s).picture = s.picture ∧ (endPass p s).clock = s.clock := by cases p <;> exact ⟨rfl, rfl⟩
  have hfound : (endPass p s).nextShown 0 = found := by
    rw [← h]
    unfold State.nextShown State.floorShown State.floor
    rw [hkept.1]
  rw [startPass, hfound, hkept.2, endPass, modPort_modPort]

/-- A SUMMARY of the first floor that a pass started over shows. -/
theorem beginSummary_modPort (f : Nat) (g : CrewPort → CrewPort) : beginSummary p f (s.modPort p g) =
    s.modPort p fun x => { g x with
      stream := { (g x).stream with cursor := f + 1 }
      sending := some { source := .summary, kind := 0x86#8, body := summaryRecord f (s.floor f), live := true } } := by
  have hfloor : (s.modPort p g).floor f = s.floor f := by cases p <;> rfl
  rw [beginSummary, beginMessage, hfloor, modPort_modPort, modPort_modPort]
  rfl

end

end Sys2Proof.Machine
end

section
/-! SUPPORT. What the store takes at the end of an event (R109), and that end whole. -/

namespace Sys2Proof.Machine

open Sys2Proof

section

variable {s : State}

/-- The store's part of the end of an event, by what its arbiter takes next. -/
theorem serveStore_free (hfree : s.store.access = .free) :
    (∀ op w, s.store.next = .maintenance op w → serveStore storeFuel s = { s with
      store := { s.store with waiting := none, access := op.begin s.clock w } }) ∧
    (s.store.next = .nothing → serveStore storeFuel s = s) ∧
    ∀ q, s.store.next = .tile q → q.tile < q.record.tileCount → serveStore storeFuel s = s.readBegun q := by
  unfold storeFuel serveStore
  rw [if_pos (isFree_iff.mpr hfree)]
  refine ⟨fun op w h => ?_, fun h => ?_, fun q h hcount => ?_⟩ <;> rw [h]
  · rfl
  · exact if_pos hcount

theorem serveStore_busy (h : s.store.access ≠ .free) : serveStore storeFuel s = s := by
  unfold storeFuel serveStore
  exact if_neg fun hfree => h (isFree_iff.mp hfree)

/-- The end of an event changes no more than the end may. -/
theorem settle_endsAs (before u : State) : EndsAs u (settle before u) :=
  ((((inner_settleTransfers u).trans (inner_selectBoth before _)).endsAs.trans (endsAs_arbitrate .a _)).trans
    (endsAs_arbitrate .b _)).trans (inner_settleTransfers _).endsAs

end

end Sys2Proof.Machine

open Sys2Proof Sys2Proof.Machine

/-- Settles O15: each part of the end of an event from its own lemmas, and that the whole keeps the rest. -/
theorem endOfEventKeepsTheRest : Obligations.EndOfEventKeepsTheRest := by
  refine ⟨fun before u => ⟨settle_endsAs before u, rfl, rfl⟩, fun s => ⟨serveStore_busy, fun op w hfree hwait => ?_,
    fun hfree hwait => ⟨fun hall => ?_, fun k hk c r rest hc hl hr hcount hearlier => ?_⟩⟩, fun s => rfl,
    fun c s k hc hk => ?_, fun before n => rfl, fun n => ?_, fun p s q n hq hn => ?_⟩
  · rw [(serveStore_free hfree).1 op w (next_waiting hwait)]
    cases op <;> rfl
  · exact (serveStore_free hfree).2.1 (next_nothing hwait hall)
  · obtain ⟨hfirst, hothers⟩ := readBegun_lists (q := r) (by rw [hr, hc]; exact Nat.mod_lt _ (by decide)) s
    rw [hr] at hfirst hothers
    refine ⟨s.readBegun r, (serveStore_free hfree).2.2 r (next_tile hwait hk hc hl hearlier) hcount,
      hfirst.trans (by rw [hl]; rfl), fun d _ hd => hothers d hd, ?_⟩
    rw [State.readBegun, hr]
  · have hk' : s.channel c = k := hk.symm
    refine ⟨pumpChannel_rests hk', fun hfree hserve hr hdone => ⟨_, pumpChannel_done hc hk' hfree hserve hr hdone,
      transferEnded hc (by decide) s⟩, fun w hs hw => ⟨_, rfl, pumpChannel_serves hc hk' hs hw⟩,
      fun v hs hr hle hv => ⟨_, rfl, ?_⟩, fun complete l v n last hs hr hle hcomplete hl hv hn hlast => ?_⟩
    · rw [pumpChannel_local hk' hs, unlessOver_goesOn hr hk' hle]
      have hclaim : v = if s.heldBy c = 0 then crewClaim c s else s := by
        rw [hv]
        split
        · rename_i h
          rw [crewClaim, h]
        · rfl
      rw [hclaim]
      exact pumpLocal_places hc hk' hs
    · have hneeds : s.needsWindow c = complete := Bool.eq_iff_iff.mpr ((needsWindow_iff hk').trans hcomplete.symm)
      subst hneeds
      have hl' : l = k.asksAnew := hl
      have hv' : v = crewClaim c s := hv
      refine ⟨fun hw hn => pumpChannel_asksNothing hs hk' hr hle hw hn, fun hasks =>
        ⟨fun h0 => pumpChannel_waits hs hc hk' hr hle hasks hl' hv' (hn ▸ h0), fun a hpos ha => ?_⟩⟩
      intro asks
      have hasked : asks = v.setChannel c (l.asked last) := by
        obtain ⟨-, -, hfetch, -, -⟩ := asksAnew_range hl'
        change v.setChannel c { l with wantWindow := false, window := some (k.fetch, last), queueFullWait := none } = _
        rw [← hfetch]
        rfl
      have hchannel : asks.channel c = l.asked last := by rw [hasked]; exact State.setChannel_channel_same hc _ _
      clear_value asks
      refine ⟨fun hb hroom => ?_, fun hb hfull => ?_, fun hb hno => ?_, fun r later hb hrecord hpin hcand => ?_⟩
      · rw [hasked]
        exact pumpChannel_queued hs hc hk' hr hle hasks hl' hv' hn hpos hlast ha hb hroom
      · rw [pumpChannel_full hs hc hk' hr hle hasks hl' hv' hn hpos hlast ha hb hfull, modChannel_eq hchannel, hasked,
          setChannel_setChannel]
        rfl
      · rw [hasked]
        exact ⟨_, rfl, pumpChannel_noPath hs hc hk' hr hle hasks hl' hv' hn hpos hlast ha hb hno⟩
      · intro end_ left back
        obtain ⟨m, hm⟩ : ∃ m, m = { l.asked last with
          missingDue := k.missingDue ++ [k.fetch], fetch := k.fetch + 1, position := 1 } := ⟨_, rfl⟩
        have hleft : left = v.notSent.setChannel c m := by
          have hmod : (asks.modChannel c fun x => { x with
              missingDue := k.missingDue ++ [k.fetch], fetch := k.fetch + 1, position := 1 }) = v.setChannel c m := by
            rw [modChannel_eq hchannel, hasked, setChannel_setChannel, hm]
          exact congrArg State.notSent hmod
        have hback : back = crewClaim c (v.notSent.setChannel c (m.runsLocal end_)) := by
          have hmod : (left.modChannel c fun x => { x.stopped with
              state := .localStore, window := none, curLast := end_ }) = v.notSent.setChannel c (m.runsLocal end_) := by
            rw [modChannel_eq (k := m) (by rw [hleft]; exact State.setChannel_channel_same hc _ _), hleft,
              setChannel_setChannel]
            rfl
          exact congrArg (claimBuffers c (claimable (v.heldBy c) v.freeBuffers)) hmod
        obtain ⟨hrange, hdone, hplaces⟩ := pumpChannel_fallsBack hs hc hk' hr hle hasks hl' hv' hn hpos hlast ha hb hrecord hpin
          hcand (end_ := end_) rfl hm rfl hback
        rw [hleft]
        exact ⟨fun h => ⟨_, rfl, hrange h⟩, fun h h' => ⟨_, rfl, hdone h h'⟩, fun h h' => ⟨_, rfl, hplaces h h'⟩⟩
  · exact ⟨select_none, fun older r newer hqueue hr h7 holder hnewer => select_best (best_eq hqueue hr h7 holder hnewer)⟩
  · subst hq hn
    intro begun offers
    refine ⟨arbitrate_rests, fun hopen hsend => ?_⟩
    rw [arbitrate_chooses hopen hsend]
    refine ⟨fun part rest h hs => ?_, fun part rest h hs => ?_, fun hr hs => ?_⟩
    · rw [chooseMessage_part (nextPart_response h hs)]
      rfl
    · rw [chooseMessage_part (nextPart_store h hs)]
      rfl
    have hpart := nextPart_none hr hs
    refine ⟨fun k rest r hd hfind => ?_, fun i hi c k hd hc hk howner hearlier => ?_, fun hd hnone => ?_⟩
    · have hdrop : rest = (s.notices p).due.drop 1 := by rw [hd]; rfl
      rw [chooseMessage_notice hpart hd hfind, hdrop]
      cases p <;> rfl
    · have hchosen : ∀ o, s.offer c = some o → chooseMessage p s = beginChannelMessage p c o s := fun o ho =>
        chooseMessage_channel hpart hd (channelChoice_some hi hc (hk ▸ howner) ho hearlier)
      have hk' : s.channel c = k := hk.symm
      refine ⟨fun d m h => ?_, fun r h hresult => ?_, fun h hresult hm => ?_, fun b d h hresult hm hfull => ?_⟩
      · rw [hchosen _ (offer_restart hk' h)]
        cases p <;> rfl
      · rw [hchosen _ (offer_finished hk' h hresult), beginChannelMessage, hk', sheetEndBody_eq]
        cases p <;> rfl
      · rw [hchosen _ (offer_missing hk' h hresult hm), beginChannelMessage, hk']
        exact congrArg (State.setChannel c k.deliversMissing) (modPort_modPort ..)
      · rw [hchosen _ ((offer_full hk' h hresult hm).trans (by rw [hfull]; rfl)), beginChannelMessage, hk']
        cases p <;> rfl
    · rw [chooseMessage_stream hpart hd (channelChoice_none hnone)]
      intro first ended due
      refine ⟨streamTurn_rests, fun hon hpass => ⟨fun f ⟨hle, hlt, hf, hbefore⟩ => ?_, fun hended hdue => ?_,
        fun f hended hdue ⟨hle, hlt, hf, hbefore⟩ => ?_, fun hended hdue hall => ?_⟩⟩
      · rw [streamTurn_summary hon hpass (nextShown_some hle hlt hf hbefore)]
        exact modPort_modPort ..
      · rw [streamTurn_ends hon hpass (nextShown_none hended) (decide_eq_false hdue)]
        rfl
      · have hshown := nextShown_some hle hlt hf hbefore
        rw [streamTurn_restarts hon hpass (nextShown_none hended) (decide_eq_true hdue) hshown, startPass_endPass hshown,
          beginSummary_modPort]
        rfl
      · have hshown := nextShown_none (s := s) (from_ := 0) fun f hf _ => hall f hf
        rw [streamTurn_empty hon hpass (nextShown_none hended) (decide_eq_true hdue) hshown, startPass_endPass hshown]
        rfl

end
